-- ==== Sys2Proof/Word.lean ====
section
/-! DEFINITION. The words of the part: bytes on the links, readings of the clock, drum numbers. -/

namespace Sys2Proof

/-- One byte of a frame or a record. -/
abbrev Byte := BitVec 8

/-- A reading of the 32-bit millisecond clock (0.6). It wraps. -/
abbrev Clock := BitVec 32

/-- A drum, numbered 0 to 3, and equally its drum port (1.1). -/
abbrev Drum := Fin 4

/-- The four drums in ascending order. -/
def drums : List Drum := [0, 1, 2, 3]

end Sys2Proof
end

