-- ==== Sys2Proof/Syntax.lean ====
section
/-! DEFINITION. The commands of the part: one constructor for each row of spec/opcode_table.json. -/

namespace Sys2Proof

/-- The four discretes of a drum (Table 1-2). -/
inductive Discrete
  | door | lint | airflow | highlimit
  deriving DecidableEq, Repr

/-- One reading of each discrete. A field is true at the safe reading of Table 1-2, as in the PORT report
(Table 12-11): DOOR open, LINT out, AIRFLOW not proven, HIGHLIMIT tripped. -/
structure Readings where
  doorOpen : Bool
  lintOut : Bool
  airflowNotProven : Bool
  highlimitTripped : Bool
  deriving DecidableEq, Repr

/-- The blocks that raise events or hand on attribute increments (Tables 10-1 and 11-1). -/
inductive Block
  | port (d : Drum)
  | classifier
  | cycle (d : Drum)
  | tumble (d : Drum)
  | allocator
  | burner (d : Drum)
  | dryness (d : Drum)
  | attributes
  deriving DecidableEq, Repr

/-- The commands. A command in which the management engine takes a request has no operand of its own: the request
stands at the head of the inbox (R51, log 4). A command in which a block takes work handed to it names the block. -/
inductive Instr
  /-- POWER_ON_RESET (R65). Power-on reset brings every block to its reset values, including attribute records and the threshold table, and the clock restarts from 0. -/
  | powerOnReset
  /-- RESETN_ASSERT (R65). RESETn going low holds the part in reset, cuts any cabinet frame in flight and sets each block's RESETn values. -/
  | resetnAssert
  /-- RESETN_RELEASE (R65). Release of RESETn restarts the clock from 0; the cabinet link stays DOWN until lock. -/
  | resetnRelease
  /-- CABINET_LOCK (R48). The cabinet receiver reports lock and the cabinet link enters UP. -/
  | cabinetLock
  /-- CABINET_LOCK_LOST (R48). The cabinet receiver loses lock; the link enters DOWN, an outgoing frame is cut and kept at its queue head, and an incoming frame is discarded. -/
  | cabinetLockLost
  /-- CABINET_FRAME_RECEIVED (R49). A whole frame arrives on the incoming cabinet lane; malformed frames and frames of the wrong type are discarded, and a REQUEST is offered to the inbox. -/
  | cabinetFrameReceived (bytes : List Byte)
  /-- BAD_REQUEST (R51). The engine takes a request whose code is unknown or whose argument length is not allowed, and replies BAD_REQUEST itself. -/
  | badRequest
  /-- TRANSMIT_CHOICE (R55). With the link UP and the outgoing lane free, the arbiter chooses a reply, an alert or a forward record and begins sending it, updating the alert run count. -/
  | transmitChoice
  /-- REPLY_TRANSMIT_END (R53). A reply's transmission ends complete; the reply leaves its queue and the overrun flags it carried set are cleared. -/
  | replyTransmitEnd
  /-- ALERT_FRAME_END (R176). An alert frame ends complete; its entry becomes SENT, or stays RESEND, and takes the count sent. -/
  | alertFrameEnd
  /-- FORWARD_RECORD_END (R54). A forward record's transmission ends complete and the record leaves the head of the forward queue. -/
  | forwardRecordEnd
  /-- CONFIG_WRITE_HEAT_BUDGET (R129). Writes the heat budget, revoking stages first when the new value is below the held sum, then makes a grant attempt and replies. -/
  | configWriteHeatBudget
  /-- CONFIG_WRITE_BYPASS_LIMIT (R133). Writes the bypass limit and makes a grant attempt. -/
  | configWriteBypassLimit
  /-- CONFIG_WRITE_HEAT_WAIT_LIMIT (R128). Writes the heat wait limit and judges every queue entry against it at once. -/
  | configWriteHeatWaitLimit
  /-- CONFIG_WRITE_BUCKET_SPREAD (R30). Writes the bucket spread word, refused BUSY while any entry is in use. -/
  | configWriteBucketSpread
  /-- CONFIG_WRITE_SIGNATURE_SPREAD (R30). Writes the signature spread word, refused BUSY while any entry is in use. -/
  | configWriteSignatureSpread
  /-- CONFIG_WRITE_MISS_ACTION (R31). Sets the miss action of one port to FORWARD_MARKED or DROP. -/
  | configWriteMissAction
  /-- DRUM_CONFIG_WRITE (R67). Replaces a drum's configuration record whole when the cycle is VACANT, DONE or HALTED, marking changed bindings and stopping the image on a change from SERVICE to AUTO. -/
  | drumConfigWrite
  /-- PROFILE_WRITE (R91). Replaces one reversal profile whole; it takes effect at the next run start. -/
  | profileWrite
  /-- ROUTE_WRITE (R171). Replaces the route of one event code: class, line flag and action. -/
  | routeWrite
  /-- CLASS_ADD (R41). Checks and places a classification entry at the tail of its bucket's chain, replying with the bucket and position. -/
  | classAdd
  /-- CLASS_REMOVE (R43). Unlinks an in-use entry from its chain unless ROLE_BUSY applies, replying with its final hit count. -/
  | classRemove
  /-- CLASS_QUERY (R44). Reports the bucket, the signature and the lookup result a tuple would find, counting no hit. -/
  | classQuery
  /-- CLASS_READ (R45). Returns up to six consecutive entry records. -/
  | classRead
  /-- CYCLE_LOAD (R69). Checks a cycle record and loads it, moving the cycle to READY. -/
  | cycleLoad
  /-- CYCLE_UNLOAD (R70). Moves a READY cycle to VACANT and clears its record. -/
  | cycleUnload
  /-- CYCLE_START (R72). Checks state, port, door, lint, presence, lockout and NO_START bits, then enters PURGE with target DRYING, writes FAN ON, gives START and empties the window. -/
  | cycleStart
  /-- CYCLE_PAUSE (R82). Pauses an active cycle with cause REQUEST, or joins REQUEST to a paused cycle's cause set. -/
  | cyclePause
  /-- CYCLE_RESUME (R83). Resumes a PAUSED cycle into PURGE toward the paused-from phase once the door is closed, the port is UP and the bound nodes are present. -/
  | cycleResume
  /-- CYCLE_END_HEAT (R75). Ends heat with reason END_HEAT, by cycle state. -/
  | cycleEndHeat
  /-- CYCLE_ABORT (R84). Aborts the cycle by state: to COOLING or DONE with reason ABORTED, or READY to VACANT. -/
  | cycleAbort
  /-- DRUM_RESET (R87). Returns a drum's cycle to VACANT and resets its tumble controller, burner supervisor, dryness monitor, heat allocation and alert entries. -/
  | drumReset
  /-- HEAT_LOCKOUT_CLEAR (R151). Clears a set heat lockout, resets the retry count, enters IDLE and writes FLAME 0 with the reset-lockout flag. -/
  | heatLockoutClear
  /-- POWER_OFF (R3). PORT_CONTROL action that stops both lanes and puts the port in OFF. -/
  | powerOff
  /-- SERVICE_ONLY (R3). PORT_CONTROL action that keeps only the service lane running and puts the port in SERVICE. -/
  | serviceOnly
  /-- BRING_UP (R2). PORT_CONTROL action that starts the lanes and puts the port in SEEK. -/
  | bringUp
  /-- HOLD_NODES (R14). PORT_CONTROL action that sets node hold, empties the presence set and clears the sending marks. -/
  | holdNodes
  /-- RELEASE_NODES (R14). PORT_CONTROL action that clears node hold and, in UP, change-marks the bound image entries. -/
  | releaseNodes
  /-- TEST_SEND (R21). PORT_CONTROL action that starts a line test with the part as sender; the port enters TEST and arms the node's checker. -/
  | testSend
  /-- TEST_RECEIVE (R21). PORT_CONTROL action that starts a line test with the part as checker; the port enters TEST and has the node generate. -/
  | testReceive
  /-- TEST_END (R24). PORT_CONTROL action that ends a line test, sends disarm and moves the port to SEEK. -/
  | testEnd
  /-- PASS_THROUGH (R58). Checks a frame through the command gate and places it in the pass-through slot or writes it to the DRIVE or FAN image entry. -/
  | passThrough
  /-- ALERT_ACK (R177). Acknowledges an alert entry by count seen, removing it or leaving the surplus marked for re-send. -/
  | alertAck
  /-- ATTR_LOAD (R182). Checks and loads the 48-byte threshold image, then evaluates every uncrossed record against it. -/
  | attrLoad
  /-- ATTR_READ (R186). Returns a drum's eight attribute records with the limits and consequences in force. -/
  | attrRead
  /-- ATTR_CLEAR (R187). Zeroes one or all of a drum's attribute records, clearing their crossed flags and NO_START bits. -/
  | attrClear
  /-- STATUS_READ_PART (R63). Returns the PART report: identity, clock, link state, queue counts, flags, spread words, alert and table status. -/
  | statusReadPart
  /-- STATUS_READ_DRUM (R62). Returns the DRUM report of the cycle, tumble, tangle, burner and dryness state and reloads the drum's standby timer. -/
  | statusReadDrum
  /-- STATUS_READ_PORT (R26). Returns the PORT report with the miss action and reloads the drum's standby timer. -/
  | statusReadPort
  /-- STATUS_READ_HEAT (R138). Returns the heat allocator report. -/
  | statusReadHeat
  /-- PART_RESET (R64). Queues an OK reply and stops taking requests until that reply has been sent. -/
  | partReset
  /-- MAIN_LANE_LOCK (R4). The main lane locks in SEEK; the port enters UP, marks the image, loads the refresh timer and cancels any grace interval. -/
  | mainLaneLock (d : Drum)
  /-- MAIN_LANE_LOCK_LOST (R5). The main lane loses lock in UP; the port enters SEEK, clears its marks and slot and starts a grace interval for an active cycle. -/
  | mainLaneLockLost (d : Drum)
  /-- GRACE_EXPIRY (R6). A link-loss grace interval expires in SEEK; the link-lost notice is given and the cycle controller pauses with LINK or ends GUARD in DONE. -/
  | graceExpiry (d : Drum)
  /-- MAIN_LANE_FRAME_RECEIVED (R9). A frame ends on the main lane in UP; it is checked, discarded if malformed, or handed to the classifier with its check result. -/
  | mainLaneFrameReceived (d : Drum) (bytes : List Byte)
  /-- LOOKUP (R34). The classifier looks a frame up in its bucket chain and carries out the absorb and forward parts by the outcome or the miss action. -/
  | lookup (d : Drum)
  /-- INLET_TEMP_ABSORBED (R141). The burner supervisor takes an inlet temperature, holds it and, in DRYING, regulates the wanted stage and restarts inlet starvation. -/
  | inletTempAbsorbed (d : Drum)
  /-- EXHAUST_TEMP_ABSORBED (R142). The burner supervisor takes an exhaust temperature, judges the exhaust cap and gives the cycle controller its cool test. -/
  | exhaustTempAbsorbed (d : Drum)
  /-- MOTOR_CURRENT_ABSORBED (R109). The tangle monitor takes a motor current value into the open revolution window, or discards it. -/
  | motorCurrentAbsorbed (d : Drum)
  /-- WET_COUNT_ABSORBED (R156). The dryness monitor takes a wet count: counting down the settle countdown, accepting it into the window and testing dryness, or discarding it. -/
  | wetCountAbsorbed (d : Drum)
  /-- DRIVE_STAT_ABSORBED (R93). The tumble controller replaces its held drive status and acts on it by tumble state: run base, revolutions, confirmation, stall or trip. -/
  | driveStatAbsorbed (d : Drum)
  /-- FLAME_STAT_ABSORBED (R145). The burner supervisor replaces its held flame status, sets the rest flag on OFF and acts by view state. -/
  | flameStatAbsorbed (d : Drum)
  /-- SERVICE_LANE_LOCK (R10). The running service lane reports lock and the lock flag is set. -/
  | serviceLaneLock (d : Drum)
  /-- SERVICE_LANE_LOCK_LOST (R10). The service lane loses lock; discretes are forced to their safe readings, debounce is cancelled and the presence set is emptied. -/
  | serviceLaneLockLost (d : Drum)
  /-- DISCRETE_REPORT (R11). A raw discrete report starts or cancels each discrete's debounce timer. -/
  | discreteReport (d : Drum) (raw : Readings)
  /-- DEBOUNCE_EXPIRY (R11). A debounce timer expires and the discrete takes its other reading as an accepted change. -/
  | debounceExpiry (d : Drum) (x : Discrete)
  /-- PRESENCE_REPORT (R13). A presence report replaces the presence set, raising NODE_PRESENT and NODE_LOST for the differences. -/
  | presenceReport (d : Drum) (present : BitVec 16)
  /-- COMMAND_FRAME_SEND (R16). With the main lane free in UP and no hold, the port begins sending the next change-marked entry, the pass-through slot or a refresh-marked entry. -/
  | commandFrameSend (d : Drum)
  /-- COMMAND_FRAME_SENT (R18). A frame's send ends; the pass-through slot is freed or the reset-lockout flag is cleared. -/
  | commandFrameSent (d : Drum)
  /-- REFRESH_EXPIRY (R17). The refresh timer expires, refresh-marks the bound entries and reloads itself. -/
  | refreshExpiry (d : Drum)
  /-- STANDBY_EXPIRY (R19). The standby timer expires; the port stops its main lane, enters SERVICE and gives the link-lost notice. -/
  | standbyExpiry (d : Drum)
  /-- ARM_REPORT (R22). An arm report during ARMING cancels the arm timer and sets the line test RUNNING. -/
  | armReport (d : Drum)
  /-- ARM_TIMEOUT (R22). The arm timer expires in ARMING; the outcome becomes ARM_TIMEOUT, disarm is sent and the port returns to SEEK. -/
  | armTimeout (d : Drum)
  /-- TEST_REPORT (R23). In a SEND test, a node test report closes an interval and adds its errors to the record. -/
  | testReport (d : Drum) (errors : Byte)
  /-- CHECKER_INTERVAL (R23). In a RECEIVE test, the part's checker closes a 100 ms interval and adds its errors to the record. -/
  | checkerInterval (d : Drum) (errors : Nat)
  /-- PROVE_TIMEOUT (R73). The airflow prove timer expires in PURGE and the cycle enters HALTED with cause AIRFLOW. -/
  | proveTimeout (d : Drum)
  /-- AIR_TIME_END (R73). The minimum air timer expires in PURGE and the cycle enters its target phase. -/
  | airTimeEnd (d : Drum)
  /-- DRYING_TIME_LIMIT (R74). The drying elapsed time reaches the maximum drying time and the cycle enters COOLING with TIME_LIMIT. -/
  | dryingTimeLimit (d : Drum)
  /-- MINIMUM_COOL_TIME_REACHED (R76). The cooling elapsed time reaches the minimum cool time and the cool condition is tested. -/
  | minimumCoolTimeReached (d : Drum)
  /-- MAXIMUM_COOL_TIME (R76). The cooling elapsed time reaches the maximum cool time and COOLING ends to GUARD or DONE. -/
  | maximumCoolTime (d : Drum)
  /-- GUARD_INTERVAL_EXPIRY (R77). The guard interval expires; FAN ON is written and GUARD_TUMBLE is given. -/
  | guardIntervalExpiry (d : Drum)
  /-- GUARD_LIMIT (R77). The guard elapsed time reaches the guard limit and the cycle enters DONE. -/
  | guardLimit (d : Drum)
  /-- FAN_OVERRUN_EXPIRY (R81). The fan overrun timer expires in PAUSED and FAN OFF is written. -/
  | fanOverrunExpiry (d : Drum)
  /-- PAUSE_LIMIT_EXPIRY (R82). The pause limit timer expires; PAUSE_EXPIRED is raised and the cycle enters DONE with ABANDONED. -/
  | pauseLimitExpiry (d : Drum)
  /-- STATUS_WAIT_EXPIRY (R96). The status wait timer expires before any DRIVE_STAT and the run timer starts at 0. -/
  | statusWaitExpiry (d : Drum)
  /-- RUN_LENGTH_END (R96). The run reaches its run length; STOP is written and DECEL with target DWELL entered as a normal run. -/
  | runLengthEnd (d : Drum)
  /-- MAXIMUM_RUN_SECONDS (R96). Under REVOLUTIONS, the run timer reaches the maximum run seconds and the run ends normally. -/
  | maximumRunSeconds (d : Drum)
  /-- MINIMUM_RUN_REACHED (R111). The run timer reaches the minimum run before early reversal and the early-reversal test is made. -/
  | minimumRunReached (d : Drum)
  /-- GUARD_TUMBLE_END (R104). The run timer reaches the guard tumble length; STOP is written and DECEL with target STOPPED entered. -/
  | guardTumbleEnd (d : Drum)
  /-- DECEL_TIMEOUT (R98). The decel timer expires in DECEL or RECOVER; NO_STOP is raised and counted and halt cause NO_STOP reported. -/
  | decelTimeout (d : Drum)
  /-- DWELL_EXPIRY (R99). The dwell timer expires and the next run begins. -/
  | dwellExpiry (d : Drum)
  /-- RECOVER_DELAY_EXPIRY (R101). The recover delay expires and a run begins opposite the stalled run. -/
  | recoverDelayExpiry (d : Drum)
  /-- TRIAL_EXPIRY (R146). The ignition trial timer expires in LIGHTING and the attempt has failed. -/
  | trialExpiry (d : Drum)
  /-- RETRY_DELAY_EXPIRY (R148). The retry-delay timer expires and the view enters LIGHTING or IDLE by the commanded stage. -/
  | retryDelayExpiry (d : Drum)
  /-- STABLE_FLAME_EXPIRY (R147). The stable-flame timer expires in BURNING and the retry count is set to 0. -/
  | stableFlameExpiry (d : Drum)
  /-- INLET_STARVATION_EXPIRY (R143). The inlet starvation timer expires; the wanted stage falls to 0 and SAMPLE_STARVED INLET is raised. -/
  | inletStarvationExpiry (d : Drum)
  /-- HEAT_DEMAND (R121). The allocator takes a burner's demand, enqueuing, updating or releasing, then makes a grant attempt. -/
  | heatDemand (d : Drum)
  /-- ENTRY_WAIT_EXPIRY (R127). A queue entry has waited the heat wait limit with its flag clear. -/
  | entryWaitExpiry (d : Drum)
  /-- EXTRA_DRY_EXPIRY (R161). The extra-dry timer expires in DRYING and the cycle enters COOLING with reason DRY. -/
  | extraDryExpiry (d : Drum)
  /-- SAMPLE_STARVATION_EXPIRY (R163). The sample-starvation timer expires; the starved flag is set and SAMPLE_STARVED WET is raised. -/
  | sampleStarvationExpiry (d : Drum)
  /-- EVENT_TAKEN (R174). The event router takes an event, hands its routed action to the drum's cycle controller and enters or merges it in the alert list. -/
  | eventTaken (src : Block)
  /-- ATTRIBUTE_INCREMENT (R181). The attribute store adds one to a drum's attribute count and judges it for crossing. -/
  | attributeIncrement (src : Block)
  deriving DecidableEq, Repr

end Sys2Proof
end

