-- ==== Sys2Proof/Decode.lean ====
section
/-! DEFINITION. Commands spelt by words of the opcode table. No row of spec/opcode_table.json gives bits. -/

namespace Sys2Proof

/-- The command a word spells: none, since no row of the table has an encoding (98_reader.md, log 21). -/
def decodeTableWord (_nbits _w : Nat) : Option Instr := none

end Sys2Proof
end

