-- ==== Sys2Proof/Config.lean ====
section
/-! DEFINITION. The values the manual leaves open: constants without a body, so that no proof can see them. -/

namespace Sys2Proof

/-- The byte that stands for the target RUN in the tumble part of the DRUM report. Table 12-11 codes the tumble
states 0 STOPPED to 5 RECOVER, and RUN is none of them, so the manual gives this target no code (free value, log 9). -/
opaque Config.tumbleTargetRunCode : Byte

end Sys2Proof
end

