-- ==== Sys2Proof/Machine/State.lean ====
section
/-! DEFINITION. The state of the part: every record, table, queue, timer and flag the manual gives it, as plain data,
and its values after power-on reset. -/

namespace Sys2Proof.Machine

/-! ### Outcomes -/

/-- Reasons for a fault. No rule of the manual stops the part, so there is none: every error is a status code in a
reply, an event, a flag or a count. -/
inductive Fault
  deriving DecidableEq, Repr

/-- Reasons for a refusal. -/
inductive Refusal
  /-- Raised by `exec` for a command that has no meaning yet. Safe: the model stops where the part goes on. -/
  | notModelled (mnemonic : String)
  deriving DecidableEq, Repr

/-! ### Timers -/

/-- A timer: `none` is not running (or held nowhere), `some ms` is running or suspended with `ms` milliseconds left.
`some 0` has run out and waits for its expiry to be taken. -/
abbrev Timer := Option Nat

/-! ### Chapter 1: the drum port -/

/-- Port states (Table 1-1). -/
inductive PortState
  | off | service | seek | up | test
  deriving DecidableEq, Repr

/-- The two directions of a drum. -/
inductive Direction
  | fwd | rev
  deriving DecidableEq, Repr

/-- The DRIVE entry of the command image (Table 1-4): STOP, or RUN with direction and speed in rpm. -/
inductive DriveCmd
  | stop
  | run (dir : Direction) (speed : Nat)
  deriving DecidableEq, Repr

/-- The two sending marks of an image entry (R16). -/
structure Marks where
  change : Bool := false
  refresh : Bool := false
  deriving DecidableEq, Repr

/-- The command image of a port (R15, Table 1-4). -/
structure Image where
  drive : DriveCmd := .stop
  stopTime : Clock := 0
  flameStage : Nat := 0
  resetLockout : Bool := false
  fan : Bool := false
  driveMarks : Marks := {}
  flameMarks : Marks := {}
  fanMarks : Marks := {}
  deriving DecidableEq, Repr

/-- The frame held by the pass-through slot (R18). -/
structure PassFrame where
  dest : Nat
  kind : Nat
  channel : Nat
  payload : List Byte
  deriving DecidableEq, Repr

/-- What a frame being sent on the main lane was made from (R16). -/
inductive Sender
  | drive | flame | fan | slot
  deriving DecidableEq, Repr

/-- A frame being sent on a main lane: its origin, whether it carries the reset-lockout flag, and its bytes. -/
structure Sending where
  sender : Sender
  carriesReset : Bool
  bytes : List Byte
  deriving DecidableEq, Repr

/-- Direction of a line test (1.8). -/
inductive TestDirection
  | send | receive
  deriving DecidableEq, Repr

/-- Flag mode of a line test (1.8). -/
inductive FlagMode
  | latched | live
  deriving DecidableEq, Repr

/-- Outcome of a line test (1.8). -/
inductive TestOutcome
  | none | arming | running | ended | armTimeout
  deriving DecidableEq, Repr

/-- The line-test record of a port (1.8). -/
structure LineTest where
  direction : TestDirection := .send
  mode : FlagMode := .latched
  outcome : TestOutcome := .none
  errors : Nat := 0
  errorFlag : Bool := false
  deriving DecidableEq, Repr

/-- The line-test signals a port sends on its service lane (R21, R22, R24). -/
inductive ServiceSignal
  | armChecker | generate | disarm
  deriving DecidableEq, Repr

/-- The four debounce timers (R11). -/
structure Debounce where
  door : Timer := none
  lint : Timer := none
  airflow : Timer := none
  highlimit : Timer := none
  deriving DecidableEq, Repr

/-- A drum port (Table 1-6). The presence set has bit n set for node n. -/
structure Port where
  state : PortState := .off
  laneLocked : Bool := false
  serviceLock : Bool := false
  readings : Readings := ⟨true, true, true, true⟩
  debounce : Debounce := {}
  presence : BitVec 16 := 0
  hold : Bool := false
  image : Image := {}
  slot : Option PassFrame := none
  sending : Option Sending := none
  refresh : Timer := none
  grace : Timer := none
  standby : Timer := none
  arm : Timer := none
  checker : Timer := none
  lockGap : Bool := false
  lineTest : LineTest := {}
  signal : Option ServiceSignal := none
  malformed : Nat := 0
  checkFailed : Nat := 0
  deriving DecidableEq, Repr

/-! ### Chapter 4: configuration, cycle record, cycle controller -/

/-- Gate modes of the command gate (3.5). -/
inductive GateMode
  | auto | service
  deriving DecidableEq, Repr

/-- The drum configuration record with its reset values (Table 4-1). Refresh interval and debounce time are in steps of
10 ms, the grace in steps of 100 ms, the exhaust cap in counts of 0.5 °C, as Table 12-6 carries them. -/
structure DrumConfig where
  motorNode : Nat := 0
  burnerNode : Nat := 0
  fanNode : Nat := 0
  gateMode : GateMode := .auto
  refreshSteps : Nat := 20
  graceSteps : Nat := 5
  debounceSteps : Nat := 5
  standbyCode : Nat := 75
  c1 : Nat := 40
  c2 : Nat := 100
  proveTimeout : Nat := 15
  minAir : Nat := 20
  fanOverrun : Nat := 60
  pauseLimit : Nat := 30
  starvation : Nat := 30
  trialLimit : Nat := 10
  retryLimit : Nat := 2
  retryDelay : Nat := 30
  stableTime : Nat := 120
  exhaustCap : Int := 220
  deriving DecidableEq, Repr

/-- Dryness modes (Table 4-2). -/
inductive DrynessMode
  | electrode | time
  deriving DecidableEq, Repr

/-- The dryness part of a cycle record (Table 4-2). -/
structure DrynessPart where
  dryLimit : Nat
  confirmCount : Nat
  settleCount : Nat
  minDrying : Nat
  exhaustThreshold : Option Int
  extraDry : Option Nat
  deriving DecidableEq, Repr

/-- The guard part of a cycle record (Table 4-2). -/
structure GuardPart where
  interval : Nat
  tumbleLength : Nat
  limit : Nat
  deriving DecidableEq, Repr

/-- A cycle record (Table 4-2). Temperatures are counts of 0.5 °C. -/
structure CycleRecord where
  label : Nat
  mode : DrynessMode
  maxDrying : Nat
  setpoint : Int
  highBand : Int
  hysteresis : Int
  maxStage : Nat
  dwellCap : Nat
  profile : Nat
  coolTarget : Int
  minCool : Nat
  maxCool : Nat
  dryness : Option DrynessPart
  guardPart : Option GuardPart
  deriving DecidableEq, Repr

/-- Cycle states (Table 4-3), in the order Table 12-11 codes them. -/
inductive CycleState
  | vacant | ready | purge | drying | cooling | guarding | done | paused | halted
  deriving DecidableEq, Repr

/-- The phases a purge can head for and a pause can come from (R73, R79). -/
inductive Phase
  | drying | cooling
  deriving DecidableEq, Repr

/-- Pause causes (Table 4-6). -/
inductive PauseCause
  | door | airflow | link | node | request | routed
  deriving DecidableEq, Repr

/-- Completion reasons (Table 4-5). -/
inductive Reason
  | none | dry | timeLimit | endHeat | heatFault | overtemp | aborted | abandoned
  deriving DecidableEq, Repr

/-- Halt causes (Table 4-7). -/
inductive HaltCause
  | none | airflow | stall | trip | noStop | routed
  deriving DecidableEq, Repr

/-- A cycle controller (Table 4-9). Elapsed times are milliseconds. `minCoolPassed` records that the moment at which the
cooling elapsed time reaches the minimum cool time has been taken (R76, log 20). -/
structure Cycle where
  state : CycleState := .vacant
  record : Option CycleRecord := none
  causes : List PauseCause := []
  pausedFrom : Option Phase := none
  purgeTarget : Option Phase := none
  drying : Nat := 0
  cooling : Nat := 0
  minCoolPassed : Bool := false
  reason : Reason := .none
  halt : HaltCause := .none
  prove : Timer := none
  air : Timer := none
  fanOverrun : Timer := none
  pauseLimit : Timer := none
  guardInterval : Timer := none
  guardElapsed : Option Nat := none
  deriving DecidableEq, Repr

/-! ### Chapters 5 and 6: profiles, tumble controller, tangle monitor -/

/-- The timebase of a profile (Table 5-2). -/
inductive Timebase
  | seconds | revolutions
  deriving DecidableEq, Repr

/-- The persist action of a profile (R113). -/
inductive PersistAction
  | eventOnly | extendDwell | slow
  deriving DecidableEq, Repr

/-- A reversal profile with its reset values (Table 5-2). -/
structure Profile where
  timebase : Timebase := .seconds
  fwdRun : Nat := 120
  revRun : Nat := 120
  maxRun : Nat := 300
  dwell : Nat := 6
  fwdSpeed : Nat := 40
  revSpeed : Nat := 40
  minRun : Nat := 30
  decelTimeout : Nat := 10
  recoverDelay : Nat := 5
  retryLimit : Nat := 2
  swingThreshold : Nat := 4000
  trigger : Nat := 3
  persistCount : Nat := 3
  persistAction : PersistAction := .extendDwell
  speedStep : Nat := 2
  deriving DecidableEq, Repr

/-- Tumble states (Table 5-1). -/
inductive TumbleState
  | stopped | runFwd | runRev | decel | dwell | recover
  deriving DecidableEq, Repr

/-- The target of a DECEL or RECOVER (R97, R101). -/
inductive Target
  | dwell | stopped | run
  deriving DecidableEq, Repr

/-- Motor states of DRIVE_STAT (Table 12-2). -/
inductive MotorState
  | stopped | running | slowing | stalled | tripped
  deriving DecidableEq, Repr

/-- The content of an absorbed DRIVE_STAT (R93). -/
structure DriveStatus where
  motor : MotorState
  counter : BitVec 16
  arrival : Clock
  deriving DecidableEq, Repr

/-- A tumble controller (Table 5-3). `values` are the profile values read at the last run start and `noReversal` says
that they were read under profile 255 (R92, log 8). `first255` says that a cycle has been started under profile 255 and no run
has begun since (R95, log 40). `guardLength` is the length in seconds of a guard tumble under way. -/
structure Tumble where
  state : TumbleState := .stopped
  target : Option Target := none
  inForce : Option Nat := none
  values : Profile := {}
  noReversal : Bool := false
  status : Option DriveStatus := none
  lastDir : Option Direction := none
  first255 : Bool := false
  runTimer : Nat := 0
  runTiming : Bool := false
  revBase : BitVec 16 := 0
  baseTaken : Bool := false
  revCount : BitVec 16 := 0
  statusWait : Timer := none
  decel : Timer := none
  dwell : Timer := none
  recoverDelay : Timer := none
  stalls : Nat := 0
  multiplier : Nat := 1
  reduction : Nat := 0
  guardLength : Option Nat := none
  deriving DecidableEq, Repr

/-- A tangle monitor (Table 6-2). -/
structure Tangle where
  windowOpen : Bool := false
  greatest : Nat := 0
  least : Nat := 0
  samples : Nat := 0
  count : Nat := 0
  lastSwing : Nat := 0
  earlyRuns : Nat := 0
  deriving DecidableEq, Repr

/-! ### Chapter 8: the burner supervisor -/

/-- Burner view states (Table 8-2). -/
inductive View
  | idle | lighting | burning | retryWait | lockedOut
  deriving DecidableEq, Repr

/-- Flame states of FLAME_STAT (Table 12-2). -/
inductive FlameState
  | off | purging | trial | proven | failed | locked
  deriving DecidableEq, Repr

/-- The content of an absorbed FLAME_STAT (R145). -/
structure FlameStatus where
  flame : FlameState
  lit : Nat
  arrival : Clock
  deriving DecidableEq, Repr

/-- A held temperature with its arrival time (R139). -/
structure Temperature where
  value : Int
  arrival : Clock
  deriving DecidableEq, Repr

/-- The path that set a heat lockout (R149). -/
inductive LockoutPath
  | ignition | byAttribute
  deriving DecidableEq, Repr

/-- A burner supervisor (Table 8-3). The granted stage it acts on is the allocator's (log 6). -/
structure Burner where
  view : View := .idle
  wanted : Nat := 0
  demand : Nat := 0
  commanded : Nat := 0
  inlet : Option Temperature := none
  exhaust : Option Temperature := none
  exhaustHigh : Bool := false
  flame : Option FlameStatus := none
  rest : Bool := false
  retries : Nat := 0
  lockout : Option LockoutPath := none
  trial : Timer := none
  retryDelay : Timer := none
  stable : Timer := none
  starvation : Timer := none
  deriving DecidableEq, Repr

/-! ### Chapter 9: the dryness monitor -/

/-- A dryness monitor (Table 9-2). The window is oldest first; its sum and fill are read from it. -/
structure Dryness where
  window : List Nat := []
  settle : Nat := 0
  confirm : Nat := 0
  dryReached : Bool := false
  extraDry : Timer := none
  starvation : Timer := none
  starved : Bool := false
  deriving DecidableEq, Repr

/-- The blocks that exist once per drum. -/
structure DrumState where
  port : Port := {}
  config : DrumConfig := {}
  cycle : Cycle := {}
  tumble : Tumble := {}
  tangle : Tangle := {}
  burner : Burner := {}
  dryness : Dryness := {}
  deriving DecidableEq, Repr

/-! ### Chapter 7: the heat allocator -/

/-- The allocator's copy of a drum's stage costs (R118). -/
structure Costs where
  c1 : Nat
  c2 : Nat
  deriving DecidableEq, Repr

/-- What the allocator holds for one drum (R117, R118, R121). -/
structure HeatShare where
  granted : Nat := 0
  held : Nat := 0
  costs : Option Costs := none
  deriving DecidableEq, Repr

/-- An entry of the heat request queue (R120). -/
structure HeatEntry where
  drum : Drum
  wanted : Nat
  cost : Nat
  bypass : Nat
  enqueued : Clock
  reported : Bool
  deriving DecidableEq, Repr

/-- The heat allocator (Table 7-2). The grant list is oldest grant first, the queue head first. -/
structure Heat where
  budget : Nat := 0
  bypassLimit : Nat := 2
  waitLimit : Nat := 0
  shares : Vector HeatShare 4 := Vector.replicate 4 {}
  grants : List Drum := []
  queue : List HeatEntry := []
  deriving DecidableEq, Repr

/-! ### Chapter 2: the classifier -/

/-- Miss actions (R31). -/
inductive MissAction
  | forwardMarked | drop
  deriving DecidableEq, Repr

/-- How an entry is compared with a frame: its tuple number (R27) or its signature. -/
inductive MatchKey
  | exact (tuple : BitVec 15)
  | signature (sig : BitVec 16)
  deriving DecidableEq, Repr

/-- Roles of an entry (Table 2-1). -/
inductive Role
  | none | wetCount | inletTemp | exhaustTemp | motorCurrent | driveStatus | flameStatus
  deriving DecidableEq, Repr

/-- Actions of an entry (Table 2-1). -/
inductive EntryAction
  | absorb | forward | both | drop
  deriving DecidableEq, Repr

/-- An in-use entry: its number, the bucket whose chain holds it, and the fields of Table 2-1. -/
structure ClassEntry where
  number : Nat
  bucket : BitVec 8
  key : MatchKey
  role : Role
  action : EntryAction
  valueIndex : Nat
  gain : Nat
  offset : Int
  hits : Nat
  deriving DecidableEq, Repr

/-- The classifier (Table 2-4). The in-use entries stand in the order they were placed, so that the chain of a bucket is
the entries of that bucket in list order; entries not listed are FREE (log 7). -/
structure Classifier where
  bucketSpread : BitVec 32 := 0
  signatureSpread : BitVec 32 := 0
  miss : Vector MissAction 4 := Vector.replicate 4 .forwardMarked
  entries : List ClassEntry := []
  deriving DecidableEq, Repr

/-! ### Chapter 3: the cabinet link and the management engine -/

/-- A request in the inbox (3.2). -/
structure Request where
  tag : Byte
  code : Byte
  args : List Byte
  deriving DecidableEq, Repr

/-- Status codes (Table 3-2). -/
inductive Status
  | ok | badRequest | badArg | busy | state | inUse | duplicate | chainFull | notFound | gated | portDown
  | checksum | revision | roleBusy | lockout
  deriving DecidableEq, Repr

/-- A reply in the reply queue (R52). Its flags are filled when its transmission begins (R53). -/
structure Reply where
  tag : Byte
  code : Byte
  status : Status
  data : List Byte
  deriving DecidableEq, Repr

/-- A forward record (R39). `frame` is the node frame as received without its check. -/
structure ForwardRecord where
  drum : Drum
  entry : Option Nat
  miss : Bool
  checkFailed : Bool
  arrival : Clock
  frame : List Byte
  deriving DecidableEq, Repr

/-- The frame in transmission on the outgoing cabinet lane. A reply remembers which flags it carried set and whether
their causes recurred since (R53); an alert remembers its entry and the count it carried (R176). -/
inductive Outgoing
  | reply (mgmt alert mgmtAgain alertAgain : Bool) (bytes : List Byte)
  | alert (event : Nat) (drum : Drum) (count : Nat) (bytes : List Byte)
  | forward (bytes : List Byte)
  deriving DecidableEq, Repr

/-- The cabinet link, the upstream transmitter and the management engine (Table 3-6). -/
structure Cabinet where
  linkUp : Bool := false
  inbox : List Request := []
  replies : List Reply := []
  mgmtOverrun : Bool := false
  alertOverrun : Bool := false
  forwards : List ForwardRecord := []
  alertRun : Nat := 0
  outgoing : Option Outgoing := none
  deriving DecidableEq, Repr

/-! ### Chapter 10: events -/

/-- The events of Table 10-1, in the order of their codes. -/
inductive EventKind
  | doorOpened | doorClosed | lintOut | airflowLost | highLimit | flameLost | ignitionRetry | heatLockout
  | driveStall | noStop | tangleReversal | tanglePersist | dryReached | cycleDone | cycleHalted | linkLost
  | linkUp | nodeLost | nodePresent | classMiss | forwardOverrun | bindingMismatch | attrCrossed | sampleStarved
  | pauseExpired | heatWait | exhaustHigh | lineTestError | heatRevoked | cyclePaused
  deriving DecidableEq, Repr

/-- Classes of a route (R170). -/
inductive AlertClass
  | none | notice | warning | fault
  deriving DecidableEq, Repr

/-- Routed actions (R170). -/
inductive RoutedAction
  | none | pause | endHeat | halt
  deriving DecidableEq, Repr

/-- A route (R170). -/
structure Route where
  cls : AlertClass := .none
  line : Bool := false
  action : RoutedAction := .none
  deriving DecidableEq, Repr

/-- Send states of an alert list entry (R173). -/
inductive SendState
  | unsent | sending | sent | resend
  deriving DecidableEq, Repr

/-- An entry of the alert list (R173). The event is its code of Table 10-1. -/
structure AlertEntry where
  event : Nat
  drum : Drum
  cls : AlertClass
  line : Bool
  count : Nat
  first : Clock
  last : Clock
  detail : Option Byte
  send : SendState
  countSent : Nat
  deriving DecidableEq, Repr

/-- The routes after reset (Table 10-3): HIGH_LIMIT, HEAT_LOCKOUT, NO_STOP, CYCLE_HALTED; FLAME_LOST, DRIVE_STALL,
TANGLE_PERSIST, LINK_LOST; CYCLE_DONE; all other codes. -/
def resetRoute (code : Nat) : Route :=
  if code = 4 ∨ code = 7 ∨ code = 9 ∨ code = 14 then ⟨.fault, true, .none⟩
  else if code = 5 ∨ code = 8 ∨ code = 11 ∨ code = 15 then ⟨.warning, false, .none⟩
  else if code = 13 then ⟨.notice, false, .none⟩
  else {}

/-- The event router (Table 10-4). ALERTn is read from the alert list (R178). -/
structure Router where
  routes : Vector Route 32 := Vector.ofFn fun c => resetRoute c.val
  alerts : List AlertEntry := []
  deriving DecidableEq, Repr

/-! ### Chapter 11: the attribute store -/

/-- Consequences of a crossing (R185). -/
inductive Consequence
  | none | heatLockout | noStart
  deriving DecidableEq, Repr

/-- An attribute record (R181). -/
structure AttrRecord where
  raw : Nat := 0
  crossed : Bool := false
  noStart : Bool := false
  deriving DecidableEq, Repr

/-- The limit and consequence of one attribute (R182). -/
structure Threshold where
  limit : Nat := 0
  consequence : Consequence := .none
  deriving DecidableEq, Repr

/-- The attribute store (Table 11-2). -/
structure AttrStore where
  records : Vector (Vector AttrRecord 8) 4 := Vector.replicate 4 (Vector.replicate 8 {})
  valid : Bool := false
  revision : Nat := 0
  table : Vector Threshold 8 := Vector.replicate 8 {}
  deriving DecidableEq, Repr

/-! ### Work in flight between the blocks (log 1) -/

/-- A frame a port has handed to the classifier (R9): the frame without its check field. -/
structure HandedFrame where
  port : Drum
  passed : Bool
  arrival : Clock
  bytes : List Byte
  deriving DecidableEq, Repr

/-- A value the classifier has handed to a block, with the arrival time of its frame (R36, R37). -/
inductive Absorbed
  | inletTemp (t : Temperature)
  | exhaustTemp (t : Temperature)
  | motorCurrent (value : Nat) (arrival : Clock)
  | wetCount (value : Nat) (arrival : Clock)
  | driveStat (status : DriveStatus)
  | flameStat (status : FlameStatus)
  deriving DecidableEq, Repr

/-- An event raised and not yet taken by the router (R168). -/
structure Event where
  src : Block
  kind : EventKind
  drum : Drum
  time : Clock
  detail : Option Byte
  deriving DecidableEq, Repr

/-- An attribute increment handed on and not yet taken by the store (R181). -/
structure Increment where
  src : Block
  drum : Drum
  attr : Fin 8
  deriving DecidableEq, Repr

/-- Work handed from one block to another and not yet taken, each list in the order it was handed on. -/
structure Flight where
  frames : List HandedFrame := []
  absorbs : List (Drum × Absorbed) := []
  events : List Event := []
  demands : List (Drum × Nat) := []
  increments : List Increment := []
  deriving DecidableEq, Repr

/-! ### The part -/

/-- The state of the part. `pending` is the queue of commands that wait, first in, first out. -/
structure State where
  clock : Clock := 0
  resetHeld : Bool := false
  cabinet : Cabinet := {}
  classifier : Classifier := {}
  profiles : Vector Profile 8 := Vector.replicate 8 {}
  heat : Heat := {}
  router : Router := {}
  attributes : AttrStore := {}
  drums : Vector DrumState 4 := Vector.replicate 4 {}
  flight : Flight := {}
  pending : List Instr := []
  deriving DecidableEq, Repr

/-- The part right after power-on reset: every block at its table of reset values. -/
def State.reset : State := {}

end Sys2Proof.Machine
end

