-- ==== Sys2Proof/Machine/Bytes.lean ====
section
/-! DEFINITION. Byte order, the check field, clock differences and saturating counts. -/

namespace Sys2Proof.Machine

/-! ### Byte order: most significant byte first (0.7) -/

/-- The 16-bit number of two bytes. -/
def be16 (hi lo : Byte) : Nat := hi.toNat * 256 + lo.toNat

/-- The 32-bit number of four bytes. -/
def be32 (a b c d : Byte) : Nat := be16 a b * 65536 + be16 c d

/-- One byte of a number. -/
def byte (n : Nat) : Byte := BitVec.ofNat 8 n

/-- A number as two bytes. -/
def bytes16 (n : Nat) : List Byte := [byte (n / 256), byte n]

/-- A number as four bytes. -/
def bytes32 (n : Nat) : List Byte := [byte (n / 16777216), byte (n / 65536), byte (n / 256), byte n]

/-- A clock reading as four bytes. -/
def clockBytes (c : Clock) : List Byte := bytes32 c.toNat

/-- A 16-bit number read as two's complement. -/
def signed16 (n : Nat) : Int := if n < 32768 then n else (n : Int) - 65536

/-- An integer as two bytes, two's complement. -/
def signedBytes16 (i : Int) : List Byte := bytes16 (BitVec.ofInt 16 i).toNat

/-- A flag as one byte: 1 for set and 0 for clear. Tables 12-2 and 12-11 code FLAME_CMD, FAN_CMD, the link state and ALERTn so;
for the other one-byte flags of the reports and of the ATTR_READ reply they give no code, and it is the model's choice
(log 46). -/
def flagByte (b : Bool) : Byte := if b then 1 else 0

/-- The byte at an offset of a record; a record shorter than that is never read there (its length is checked first). -/
def byteAt (bs : List Byte) (i : Nat) : Byte := bs.getD i 0

/-- The number in the byte at an offset. -/
def natAt (bs : List Byte) (i : Nat) : Nat := (byteAt bs i).toNat

/-- The 16-bit number at an offset. -/
def nat16At (bs : List Byte) (i : Nat) : Nat := be16 (byteAt bs i) (byteAt bs (i + 1))

/-- The 32-bit number at an offset. -/
def nat32At (bs : List Byte) (i : Nat) : Nat :=
  be32 (byteAt bs i) (byteAt bs (i + 1)) (byteAt bs (i + 2)) (byteAt bs (i + 3))

/-! ### The check field (R8) -/

/-- One bit of the cyclic check: combine with the register's most significant bit, shift, and combine 0x1021. -/
def crcBit (r : BitVec 16) (bit : Bool) : BitVec 16 :=
  if (bit ^^ r.msb) then (r <<< 1) ^^^ 0x1021#16 else r <<< 1

/-- One byte of the cyclic check, most significant bit first. -/
def crcByte (r : BitVec 16) (b : Byte) : BitVec 16 :=
  [0, 1, 2, 3, 4, 5, 6, 7].foldl (fun r i => crcBit r (b.getMsbD i)) r

/-- The check of a frame's bytes before the check field (R8). -/
def crc (bytes : List Byte) : BitVec 16 := bytes.foldl crcByte 0xFFFF#16

/-- A frame with its check field, most significant byte first, uninverted (R8). -/
def withCheck (bytes : List Byte) : List Byte := bytes ++ bytes16 (crc bytes).toNat

/-! ### Clock and counts -/

/-- Milliseconds from `since` to `now`, as a difference of clock readings (0.6). -/
def elapsed (now since : Clock) : Nat := (now - since).toNat

/-- An arrival time is later than a stop time (R93): the difference modulo 2^32 is above 0 and below 2^31. -/
def laterThan (arrival stop : Clock) : Bool :=
  decide (0 < elapsed arrival stop) && decide (elapsed arrival stop < 2147483648)

/-- A count that increases by one and saturates. -/
def satSucc (limit n : Nat) : Nat := min (n + 1) limit

/-- A timer that has run out and whose expiry has not been taken. -/
def due (t : Timer) : Bool := t == some 0

/-- A timer loaded with whole seconds. -/
def seconds (n : Nat) : Timer := some (n * 1000)

/-- A timer loaded with whole minutes. -/
def minutes (n : Nat) : Timer := some (n * 60000)

end Sys2Proof.Machine
end

