-- ==== Sys2Proof/Machine/Flags.lean ====
section
/-! DEFINITION. The conditions the rules read: what runs a timer, the permissive cap, the confirming status, the cool
and dry conditions, ALERTn, the held sum. Nothing here changes the state. -/

namespace Sys2Proof

/-- The reading of one discrete; true is the safe reading (Table 1-2). -/
def Readings.get (r : Readings) : Discrete → Bool
  | .door => r.doorOpen
  | .lint => r.lintOut
  | .airflow => r.airflowNotProven
  | .highlimit => r.highlimitTripped

/-- Replace the reading of one discrete. -/
def Readings.set (r : Readings) (x : Discrete) (v : Bool) : Readings :=
  match x with
  | .door => { r with doorOpen := v }
  | .lint => { r with lintOut := v }
  | .airflow => { r with airflowNotProven := v }
  | .highlimit => { r with highlimitTripped := v }

end Sys2Proof

namespace Sys2Proof.Machine

/-- The blocks of a drum. -/
def State.drum (s : State) (d : Drum) : DrumState := s.drums[d]

/-- The allocator's record of a drum. -/
def State.share (s : State) (d : Drum) : HeatShare := s.heat.shares[d]

/-- A granted stage g of a drum, limited by each of the drum's demands that the allocator has not taken: g falls to a lower
one of them when it is taken, and a raised one waits for the allocator (R122, R144; log 37). -/
def State.limited (s : State) (d : Drum) (g : Nat) : Nat :=
  s.flight.demands.foldr (fun p m => if p.1 = d then min p.2 m else m) g

/-- The most a drum's burner may be commanded: its granted stage, limited by its demands under way (R122, R144). -/
def State.heatLimit (s : State) (d : Drum) : Nat := s.limited d (s.share d).granted

/-! ### Drum port -/

/-- A write that changes an entry marks it: UP with node hold clear (R15). -/
def Port.sends (p : Port) : Bool := p.state == .up && !p.hold

/-- The debounce timer of one discrete (R11). -/
def Debounce.get (t : Debounce) : Discrete → Timer
  | .door => t.door
  | .lint => t.lint
  | .airflow => t.airflow
  | .highlimit => t.highlimit

/-- Replace the debounce timer of one discrete. -/
def Debounce.set (t : Debounce) (x : Discrete) (v : Timer) : Debounce :=
  match x with
  | .door => { t with door := v }
  | .lint => { t with lint := v }
  | .airflow => { t with airflow := v }
  | .highlimit => { t with highlimit := v }

/-- The full standby time in milliseconds of a standby code above 0 (Table 1-5). -/
def standbyTime (code : Nat) : Nat := if code ≤ 7 then 30000 else code * 4000

/-- The conditions under which the standby timer runs (R19). -/
def DrumState.standbyRuns (D : DrumState) : Bool :=
  D.port.state == .up && (D.cycle.state == .vacant || D.cycle.state == .done) && D.config.standbyCode != 0

/-- The node at an address is in the presence set (R13). -/
def Port.nodePresent (p : Port) (node : Nat) : Bool := p.presence.getLsbD node

/-! ### Cycle controller -/

/-- The cycle states in which the drum depends on its link (4.3). -/
def CycleState.active : CycleState → Bool
  | .purge | .drying | .cooling | .guarding => true
  | .vacant | .ready | .done | .paused | .halted => false

/-- VACANT, DONE or HALTED: the states in which the drum rests (R3, R21, R67). -/
def CycleState.idle : CycleState → Bool
  | .vacant | .done | .halted => true
  | .ready | .purge | .drying | .cooling | .guarding | .paused => false

/-- A drum with a cycle: the states for which ROLE_BUSY refuses a removal (R43). -/
def CycleState.withCycle : CycleState → Bool
  | .ready | .purge | .drying | .cooling | .guarding | .paused => true
  | .vacant | .done | .halted => false

/-- The bound nodes of a cycle (R72): motor, fan and, with a maximum stage above 0, the burner. -/
def DrumState.boundNodes (D : DrumState) : List Nat :=
  match D.cycle.record with
  | none => []
  | some r =>
    if r.maxStage = 0 then [D.config.motorNode, D.config.fanNode]
    else [D.config.motorNode, D.config.fanNode, D.config.burnerNode]

/-- Every bound node of the cycle is present (R72, R83). -/
def DrumState.boundPresent (D : DrumState) : Bool := D.boundNodes.all D.port.nodePresent

/-- The cool condition of R76: held exhaust temperature at or below the cool target, minimum cool time reached. -/
def DrumState.coolMet (D : DrumState) : Bool :=
  match D.cycle.record, D.burner.exhaust with
  | some r, some t => decide (t.value ≤ r.coolTarget) && decide (r.minCool * 60000 ≤ D.cycle.cooling)
  | _, _ => false

/-! ### Tumble controller -/

/-- RUN_FWD or RUN_REV. -/
def TumbleState.running : TumbleState → Bool
  | .runFwd | .runRev => true
  | .stopped | .decel | .dwell | .recover => false

/-- The held drive status is confirming (R93). -/
def DrumState.confirming (D : DrumState) : Bool :=
  match D.tumble.status with
  | some st => st.motor == .stopped && laterThan st.arrival D.port.image.stopTime
  | none => false

/-- A run that R96 ends by length: not under profile 255 and not a guard tumble (R92, R104). -/
def Tumble.reverses (t : Tumble) : Bool := t.state.running && !t.noReversal && t.guardLength.isNone

/-- The run length for the run's direction (R96). -/
def Tumble.runLength (t : Tumble) : Nat :=
  match t.state with
  | .runRev => t.values.revRun
  | _ => t.values.fwdRun

/-- The run timer has reached the end of a normal run: the run length under SECONDS, the maximum run seconds under
REVOLUTIONS (R96). -/
def Tumble.timeUp (t : Tumble) : Bool :=
  t.reverses && t.runTiming &&
    (match t.values.timebase with
     | .seconds => decide (t.runLength * 1000 ≤ t.runTimer)
     | .revolutions => decide (t.values.maxRun * 1000 ≤ t.runTimer))

/-- The early-reversal test (R111). -/
def DrumState.earlyTest (D : DrumState) : Bool :=
  D.tumble.reverses && D.tumble.runTiming && decide (D.tumble.values.trigger ≤ D.tangle.count) &&
    decide (D.tumble.values.minRun * 1000 ≤ D.tumble.runTimer)

/-! ### Burner supervisor -/

/-- The permissive cap (R140). -/
def DrumState.permissiveCap (D : DrumState) : Nat :=
  match D.cycle.record with
  | none => 0
  | some r =>
    if D.cycle.state = .drying ∧ D.port.readings.doorOpen = false ∧ D.port.readings.airflowNotProven = false ∧
        D.port.readings.highlimitTripped = false ∧ D.burner.lockout = none ∧ D.burner.rest = true then
      min
        (match D.tumble.state with
         | .runFwd | .runRev => 2
         | .decel | .dwell => r.dwellCap
         | .stopped | .recover => 0)
        r.maxStage
    else 0

/-- The FLAME entry's stage for a view and a commanded stage (R144, Table 8-2). -/
def View.flameStage (v : View) (commanded : Nat) : Nat :=
  match v with
  | .lighting | .burning => commanded
  | .idle | .retryWait | .lockedOut => 0

/-- The wanted stage that regulation gives for a new inlet value (R141, Table 8-1). -/
def regulate (r : CycleRecord) (t : Int) (wanted : Nat) : Nat :=
  if r.setpoint ≤ t then 0
  else if t ≤ r.setpoint - r.highBand then 2
  else if wanted = 0 then (if t ≤ r.setpoint - r.hysteresis then 1 else 0)
  else 1

/-! ### Dryness monitor -/

/-- The window sum S (R158). -/
def Dryness.sum (m : Dryness) : Nat := m.window.sum

/-- The dry condition (R159). -/
def DrumState.dryMet (D : DrumState) (p : DrynessPart) : Bool :=
  decide (D.dryness.window.length = 16) && decide (D.dryness.sum ≤ p.dryLimit) &&
    (match p.exhaustThreshold, D.burner.exhaust with
     | none, _ => true
     | some _, none => false
     | some th, some t => decide (th ≤ t.value))

/-- DRYING in ELECTRODE mode. -/
def Cycle.dryingElectrode (c : Cycle) : Bool :=
  c.state == .drying &&
    (match c.record with
     | some r => r.mode == .electrode
     | none => false)

/-! ### Heat allocator -/

/-- The cost of a stage (7.1). -/
def Costs.of (c : Costs) (stage : Nat) : Nat := if stage = 0 then 0 else if stage = 1 then c.c1 else c.c2

/-- The cost of a stage by a drum's copy (R118). -/
def HeatShare.cost (h : HeatShare) (stage : Nat) : Nat :=
  match h.costs with
  | some c => c.of stage
  | none => 0

/-- The held cost of a drum (R117). -/
def HeatShare.heldCost (h : HeatShare) : Nat := h.cost h.granted

/-- The held sum (R117). -/
def Heat.heldSum (h : Heat) : Nat := (drums.map fun d => h.shares[d].heldCost).sum

/-- The free amount (R117). -/
def Heat.free (h : Heat) : Nat := h.budget - h.heldSum

/-- The queue entry of a drum (R120). -/
def Heat.entry? (h : Heat) (d : Drum) : Option HeatEntry := h.queue.find? fun e => e.drum == d

/-- An entry whose flag is clear has waited the limit in force (R127). -/
def HeatEntry.waited (e : HeatEntry) (limit : Nat) (now : Clock) : Bool :=
  limit != 0 && !e.reported && decide (limit * 1000 ≤ elapsed now e.enqueued)

/-! ### Event router -/

/-- ALERTn is driven low exactly while an entry's line flag is set (R178). -/
def Router.alertLow (r : Router) : Bool := r.alerts.any fun e => e.line

/-- The router has an alert to send: the first entry UNSENT or RESEND (R175). -/
def Router.nextAlert (r : Router) : Option AlertEntry :=
  r.alerts.find? fun e => e.send == .unsent || e.send == .resend

end Sys2Proof.Machine
end

