-- ==== Sys2Proof/Machine/Ops.lean ====
section
/-! DEFINITION. The shared operations: change one block of one drum, hand work to another block, write the command
image, run the standby timer, set the discretes, and let a command act only while the part is out of reset. -/

namespace Sys2Proof.Machine

/-! ### One block of one drum -/

/-- Change the blocks of one drum. -/
def State.onDrum (s : State) (d : Drum) (f : DrumState → DrumState) : State :=
  { s with drums := s.drums.set d (f s.drums[d]) }

/-- Change the port of a drum. -/
def State.onPort (s : State) (d : Drum) (f : Port → Port) : State :=
  s.onDrum d fun D => { D with port := f D.port }

/-- Change the command image of a drum. -/
def State.onImage (s : State) (d : Drum) (f : Image → Image) : State :=
  s.onPort d fun p => { p with image := f p.image }

/-- Change the cycle controller of a drum. -/
def State.onCycle (s : State) (d : Drum) (f : Cycle → Cycle) : State :=
  s.onDrum d fun D => { D with cycle := f D.cycle }

/-- Change the tumble controller of a drum. -/
def State.onTumble (s : State) (d : Drum) (f : Tumble → Tumble) : State :=
  s.onDrum d fun D => { D with tumble := f D.tumble }

/-- Change the tangle monitor of a drum. -/
def State.onTangle (s : State) (d : Drum) (f : Tangle → Tangle) : State :=
  s.onDrum d fun D => { D with tangle := f D.tangle }

/-- Change the burner supervisor of a drum. -/
def State.onBurner (s : State) (d : Drum) (f : Burner → Burner) : State :=
  s.onDrum d fun D => { D with burner := f D.burner }

/-- Change the dryness monitor of a drum. -/
def State.onDryness (s : State) (d : Drum) (f : Dryness → Dryness) : State :=
  s.onDrum d fun D => { D with dryness := f D.dryness }

/-- Change the heat allocator. -/
def State.onHeat (s : State) (f : Heat → Heat) : State := { s with heat := f s.heat }

/-- Change the cabinet link and the management engine. -/
def State.onCabinet (s : State) (f : Cabinet → Cabinet) : State := { s with cabinet := f s.cabinet }

/-- Change the classifier. -/
def State.onClassifier (s : State) (f : Classifier → Classifier) : State := { s with classifier := f s.classifier }

/-- Change the event router. -/
def State.onRouter (s : State) (f : Router → Router) : State := { s with router := f s.router }

/-- Change the attribute store. -/
def State.onAttributes (s : State) (f : AttrStore → AttrStore) : State := { s with attributes := f s.attributes }

/-- Change the work in flight. -/
def State.onFlight (s : State) (f : Flight → Flight) : State := { s with flight := f s.flight }

/-! ### Commands -/

/-- A command acts while RESETn is not held low; while it is held, no block acts (R65). -/
def running (f : State → State) (s : State) : Host.Outcome State Fault Refusal :=
  if s.resetHeld then .next s else .next (f s)

/-- A command that acts only where its trigger holds and changes nothing where it does not (log 3). -/
def onlyIf (c : Bool) (f : State → State) (s : State) : State := if c then f s else s

/-! ### Work handed to another block -/

/-- Raise an event at the event router (R168): it carries its code, the drum, the clock reading and its detail. -/
def raise (src : Block) (kind : EventKind) (d : Drum) (detail : Option Byte) (s : State) : State :=
  s.onFlight fun f => { f with events := f.events ++ [⟨src, kind, d, s.clock, detail⟩] }

/-- Hand one increment of an attribute to the attribute store (R181). -/
def handIncrement (src : Block) (d : Drum) (attr : Fin 8) (s : State) : State :=
  s.onFlight fun f => { f with increments := f.increments ++ [⟨src, d, attr⟩] }

/-- Hand a demand to the heat allocator (R144). -/
def handDemand (d : Drum) (w : Nat) (s : State) : State :=
  s.onFlight fun f => { f with demands := f.demands ++ [(d, w)] }

/-! ### The command image (R15) -/

/-- The marks of an entry that a write has changed: change-marked if the port sends and the binding is not 0. -/
def Port.changed (p : Port) (node : Nat) (m : Marks) : Marks :=
  if p.sends && node != 0 then { m with change := true } else m

/-- Write the DRIVE entry. A change from RUN to STOP sets the stop time to the clock reading (R15). -/
def writeDrive (d : Drum) (v : DriveCmd) (s : State) : State :=
  let D := s.drum d
  if v = D.port.image.drive then s
  else
    s.onImage d fun i =>
      { i with
        drive := v
        stopTime := if v = .stop then s.clock else i.stopTime
        driveMarks := D.port.changed D.config.motorNode i.driveMarks }

/-- Write the stage of the FLAME entry; the reset-lockout flag stays as it stands (R15). -/
def writeFlame (d : Drum) (stage : Nat) (s : State) : State :=
  let D := s.drum d
  if stage = D.port.image.flameStage then s
  else
    s.onImage d fun i =>
      { i with flameStage := stage, flameMarks := D.port.changed D.config.burnerNode i.flameMarks }

/-- Write stage 0 with the reset-lockout flag set, which is always a change (R15, R151). -/
def writeResetLockout (d : Drum) (s : State) : State :=
  let D := s.drum d
  s.onImage d fun i =>
    { i with
      flameStage := 0, resetLockout := true, flameMarks := D.port.changed D.config.burnerNode i.flameMarks }

/-- Write the FAN entry. -/
def writeFan (d : Drum) (on : Bool) (s : State) : State :=
  let D := s.drum d
  if on = D.port.image.fan then s
  else
    s.onImage d fun i => { i with fan := on, fanMarks := D.port.changed D.config.fanNode i.fanMarks }

/-- An image with no sending marks (R16). -/
def Image.unmarked (i : Image) : Image := { i with driveMarks := {}, flameMarks := {}, fanMarks := {} }

/-- Change-mark one entry if its binding is not 0. -/
def Marks.markIf (m : Marks) (node : Nat) : Marks := if node = 0 then m else { m with change := true }

/-- Change-mark every entry whose binding is not 0 (R4, R14). -/
def Image.markAll (i : Image) (c : DrumConfig) : Image :=
  { i with
    driveMarks := i.driveMarks.markIf c.motorNode
    flameMarks := i.flameMarks.markIf c.burnerNode
    fanMarks := i.fanMarks.markIf c.fanNode }

/-! ### The standby timer (R19) -/

/-- After a change of one of its conditions the standby timer is loaded when they begin to hold and stopped when they
cease (R19). -/
def settleStandby (d : Drum) (s : State) : State :=
  s.onDrum d fun D =>
    { D with
      port :=
        { D.port with
          standby :=
            if D.standbyRuns then
              (match D.port.standby with
               | none => some (standbyTime D.config.standbyCode)
               | some ms => some ms)
            else none } }

/-- Reload a running standby timer with the full standby time (R19). -/
def reloadStandby (d : Drum) (s : State) : State :=
  s.onDrum d fun D =>
    { D with
      port :=
        { D.port with
          standby :=
            (match D.port.standby with
             | none => none
             | some _ => some (standbyTime D.config.standbyCode)) } }

/-! ### Frames (12.2, 12.3) -/

/-- The bytes of a drum link frame (Table 12-1), check included. -/
def linkFrame (dest src kind channel : Nat) (payload : List Byte) : List Byte :=
  withCheck ([byte (dest * 16 + src), byte kind, byte channel, byte payload.length] ++ payload)

/-- The bytes of a cabinet link frame (Table 12-3), check included. -/
def cabinetFrame (type : Nat) (body : List Byte) : List Byte := withCheck ([byte type, byte body.length] ++ body)

/-- The code of a direction (Table 12-2). -/
def Direction.code : Direction → Nat
  | .fwd => 0
  | .rev => 1

/-- The payload of a DRIVE_CMD (Table 12-2). -/
def DriveCmd.payload : DriveCmd → List Byte
  | .stop => [0, 0, 0]
  | .run dir speed => [1, byte dir.code, byte speed]

/-- The payload of a FLAME_CMD (Table 12-2). -/
def flamePayload (stage : Nat) (resetFlag : Bool) : List Byte := [byte stage, flagByte resetFlag]

/-- The payload of a FAN_CMD (Table 12-2). -/
def fanPayload (on : Bool) : List Byte := [flagByte on]

end Sys2Proof.Machine
end

