-- ==== Sys2Proof/Machine/Regulation.lean ====
section
/-! DEFINITION. The burner supervisor's recomputation (R144): permissive cap, demand, commanded stage, view and FLAME
entry. Every operation that changes an input of the cap ends with it, as R140 asks. -/

namespace Sys2Proof.Machine

/-- The view after a recomputation: a commanded stage above 0 moves IDLE to LIGHTING, a commanded stage of 0 moves
LIGHTING and BURNING to IDLE (R146, R147); RETRY_WAIT and LOCKED_OUT stay. -/
def View.follow (v : View) (commanded : Nat) : View :=
  match v with
  | .idle => if commanded = 0 then .idle else .lighting
  | .lighting => if commanded = 0 then .idle else .lighting
  | .burning => if commanded = 0 then .idle else .burning
  | .retryWait => .retryWait
  | .lockedOut => .lockedOut

/-- The demand a drum's state calls for: the lower of the wanted stage and the permissive cap (R144). -/
def DrumState.demandNow (D : DrumState) : Nat := min D.burner.wanted D.permissiveCap

/-- The burner's fields after a recomputation against the stage g it may be commanded. Entry to LIGHTING starts the trial timer (R146);
leaving LIGHTING or BURNING cancels its timer (R146, R147). -/
def DrumState.burnerNow (D : DrumState) (g : Nat) : Burner :=
  let commanded := min D.demandNow g
  let view := D.burner.view.follow commanded
  { D.burner with
    demand := D.demandNow
    commanded := commanded
    view := view
    trial :=
      if view = .lighting then
        (if D.burner.view = .idle then seconds D.config.trialLimit else D.burner.trial)
      else none
    stable := if view = .burning then D.burner.stable else none }

/-- Recompute demand and commanded stage, write the FLAME entry from the view, and hand a changed demand to the
allocator after that write (R144). The commanded stage is the lower of demand and g; while a lowered demand waits to be
taken, a raised one does not lift it above the lowered one, so that the allocator finds the FLAME entry at or below the g to
which that demand lowers it (R122, R144; log 37). -/
def burnerUpdate (d : Drum) (s : State) : State :=
  let D := s.drum d
  let b := D.burnerNow (s.heatLimit d)
  let s1 := writeFlame d (b.view.flameStage b.commanded) (s.onBurner d fun _ => b)
  if b.demand = D.burner.demand then s1 else handDemand d b.demand s1

/-- Set the wanted stage and recompute (R141). -/
def setWanted (d : Drum) (w : Nat) (s : State) : State :=
  burnerUpdate d (s.onBurner d fun b => { b with wanted := w })

/-- Set a discrete's reading and recompute (R12, R140). -/
def setReading (d : Drum) (x : Discrete) (v : Bool) (s : State) : State :=
  burnerUpdate d (s.onPort d fun p => { p with readings := p.readings.set x v })

/-- Set the flame rest flag and recompute (R145). -/
def setRest (d : Drum) (v : Bool) (s : State) : State :=
  burnerUpdate d (s.onBurner d fun b => { b with rest := v })

/-- The allocator lowers or raises a drum's granted stage and hands it to the burner supervisor, which recomputes before
the allocator goes on (R126, R132). -/
def setGranted (d : Drum) (g : Nat) (s : State) : State :=
  burnerUpdate d
    (s.onHeat fun h => { h with shares := h.shares.set d { h.shares[d] with granted := g } })

/-- The burner's part of the link-lost notice (R152): flame status UNKNOWN and rest flag clear, so that the cap falls to
0; LIGHTING and BURNING go to IDLE with the FLAME entry at stage 0, RETRY_WAIT keeps its timer. -/
def burnerNotice (d : Drum) (s : State) : State :=
  setRest d false (s.onBurner d fun b => { b with flame := none })

end Sys2Proof.Machine
end

