-- ==== Sys2Proof/Machine/Tumbling.lean ====
section
/-! DEFINITION. The tumble controller's shared operations (chapters 5 and 6): entering a state, starting and ending a
run, the cycle controller's four commands, the link-lost notice. -/

namespace Sys2Proof.Machine

/-- A closed revolution window with no samples (R108). -/
def Tangle.closed (m : Tangle) : Tangle := { m with windowOpen := false, greatest := 0, least := 0, samples := 0 }

/-- A revolution window open with no samples (R108, R110). -/
def Tangle.opened (m : Tangle) : Tangle := { m with windowOpen := true, greatest := 0, least := 0, samples := 0 }

/-- Every timer of a tumble controller stopped; the run timer keeps its reading (R102, R105). -/
def Tumble.timersOff (t : Tumble) : Tumble :=
  { t with runTiming := false, statusWait := none, decel := none, dwell := none, recoverDelay := none }

/-- Change the tumble controller to a state outside a run: the tangle window closes (R108) and the change is made known
to the burner supervisor (R90). The dryness monitor reads the new state itself. -/
def leaveRun (d : Drum) (f : Tumble → Tumble) (s : State) : State :=
  burnerUpdate d ((s.onTumble d f).onTangle d Tangle.closed)

/-- Report the end of a guard tumble to the cycle controller, which in GUARD writes FAN OFF and starts the guard interval
again (R77, R104). -/
def guardTumbleDone (d : Drum) (s : State) : State :=
  match (s.drum d).cycle.state, (s.drum d).cycle.record.bind (·.guardPart) with
  | .guarding, some g => writeFan d false (s.onCycle d fun c => { c with guardInterval := seconds g.interval })
  | _, _ => s

/-- Enter STOPPED with no timer running, reporting a guard tumble under way as done (R97, R101, R102, R103). -/
def enterStopped (d : Drum) (s : State) : State :=
  let s1 := leaveRun d (fun t => { t.timersOff with state := .stopped, target := none, guardLength := none }) s
  if (s.drum d).tumble.guardLength.isSome then guardTumbleDone d s1 else s1

/-- Write STOP and enter DECEL with a target and the decel timeout of the profile values in use (R97). -/
def enterDecel (d : Drum) (target : Target) (s : State) : State :=
  leaveRun d
    (fun t =>
      { t.timersOff with state := .decel, target := some target, decel := seconds t.values.decelTimeout })
    (writeDrive d .stop s)

/-- The profile values read at a run start, and whether they are read under profile 255 (R91, R92). -/
def runValues (s : State) (d : Drum) : Profile × Bool :=
  let t := (s.drum d).tumble
  match t.inForce with
  | none => (t.values, t.noReversal)
  | some n => if n = 255 then (s.profiles[0], true) else ((s.profiles[n]?).getD t.values, false)

/-- The direction of the next run (R95): FWD for a guard tumble and for the first run of a cycle under profile 255 (log 40),
otherwise opposite the last run, or FWD when there has been none. After RECOVER the last run is the stalled one. -/
def Tumble.nextDir (t : Tumble) : Direction :=
  if t.guardLength.isSome || t.first255 then .fwd
  else
    match t.lastDir with
    | some .fwd => .rev
    | some .rev | none => .fwd

/-- The speed of a run: the profile's speed for the direction less the speed reduction, not below 20 rpm (R95). -/
def runSpeed (p : Profile) (dir : Direction) (reduction : Nat) : Nat :=
  max 20 ((match dir with | .fwd => p.fwdSpeed | .rev => p.revSpeed) - reduction)

/-- The settle count a run start loads (R157). -/
def DrumState.settleLoad (D : DrumState) : Nat :=
  match D.cycle.record.bind (·.dryness) with
  | some p => p.settleCount
  | none => 0

/-- Begin a run (R95): read the profile, choose the direction, write RUN, enter RUN_FWD or RUN_REV with the status wait
timer started, and make the run start known to the tangle monitor (R108), dryness monitor (R157) and burner (R90). -/
def beginRun (d : Drum) (s : State) : State :=
  let D := s.drum d
  let v := runValues s d
  let dir := D.tumble.nextDir
  let s1 := writeDrive d (.run dir (runSpeed v.1 dir D.tumble.reduction)) s
  let s2 :=
    s1.onTumble d fun t =>
      { t with
        state := (match dir with | .fwd => .runFwd | .rev => .runRev)
        target := none
        values := v.1
        noReversal := v.2
        lastDir := some dir
        first255 := false
        runTimer := 0
        runTiming := false
        baseTaken := false
        revCount := 0
        statusWait := seconds v.1.decelTimeout
        decel := none
        dwell := none
        recoverDelay := none }
  let s3 := s2.onTangle d fun m => { m.closed with count := 0 }
  burnerUpdate d (s3.onDryness d fun m => { m with settle := D.settleLoad })

/-- The start dwell (R94): it ends 2 s after the arrival of the confirming status, and at once if that has passed. -/
def startDwell (d : Drum) (s : State) : State :=
  match (s.drum d).tumble.status with
  | none => s
  | some st =>
    if 2000 ≤ elapsed s.clock st.arrival then beginRun d s
    else
      leaveRun d
        (fun t =>
          { t.timersOff with
            state := .dwell, target := none, dwell := some (2000 - elapsed s.clock st.arrival) })
        s

/-- From STOPPED to a run: the start dwell when the held status is confirming, otherwise DECEL with target RUN (R103,
R104). -/
def startFromStopped (d : Drum) (s : State) : State :=
  if (s.drum d).confirming then startDwell d s else enterDecel d .run s

/-- Set the target of a DECEL or RECOVER. -/
def setTarget (d : Drum) (target : Target) (s : State) : State :=
  s.onTumble d fun t => { t with target := some target }

/-- The START of a CYCLE_START puts the profile of the cycle record in force: under profile 255 the next run is the cycle's
first, which R95 begins FWD (log 40). The START of a resume leaves the mark as it stands. -/
def firstStart (d : Drum) (profile : Nat) (s : State) : State :=
  s.onTumble d fun t => { t with first255 := profile == 255 }

/-- START (R103): set the profile in force and the stall count, then act by tumble state. It ends a guard tumble's mark
(log 14). -/
def tumbleStart (d : Drum) (profile : Nat) (s : State) : State :=
  let s1 := s.onTumble d fun t => { t with inForce := some profile, stalls := 0, guardLength := none }
  match (s.drum d).tumble.state with
  | .stopped => startFromStopped d s1
  | .decel | .recover => setTarget d .run s1
  | .dwell | .runFwd | .runRev => s1

/-- HOLD (R103). -/
def tumbleHold (d : Drum) (s : State) : State :=
  let t := (s.drum d).tumble
  match t.state with
  | .runFwd | .runRev => enterDecel d .stopped s
  | .decel => setTarget d .stopped s
  | .recover => if t.recoverDelay.isSome then enterStopped d s else setTarget d .stopped s
  | .dwell => enterStopped d s
  | .stopped => s

/-- Clear the persistence of the tangle monitor: early-run count 0, dwell multiplier 1, speed reduction 0 (R114). -/
def clearPersistence (d : Drum) (s : State) : State :=
  (s.onTumble d fun t => { t with multiplier := 1, reduction := 0 }).onTangle d fun m => { m with earlyRuns := 0 }

/-- STOP (R103): as HOLD, and the persistence is cleared in every tumble state (R114). -/
def tumbleStop (d : Drum) (s : State) : State := clearPersistence d (tumbleHold d s)

/-- GUARD_TUMBLE (R104): from STOPPED a guard tumble gets under way; in any other state it is disregarded. -/
def tumbleGuard (d : Drum) (length : Nat) (s : State) : State :=
  match (s.drum d).tumble.state with
  | .stopped => startFromStopped d (s.onTumble d fun t => { t with guardLength := some length })
  | .runFwd | .runRev | .decel | .dwell | .recover => s

/-- The end of a normal run (R96, R114). -/
def endNormalRun (d : Drum) (s : State) : State := clearPersistence d (enterDecel d .dwell s)

/-- The detail of TANGLE_PERSIST (R113). -/
def PersistAction.code : PersistAction → Nat
  | .eventOnly => 0
  | .extendDwell => 1
  | .slow => 2

/-- The persist action (R113): double the dwell multiplier up to 4, or add the speed step up to 40 rpm. -/
def Tumble.persist (t : Tumble) : Tumble :=
  match t.values.persistAction with
  | .eventOnly => t
  | .extendDwell => { t with multiplier := min 4 (t.multiplier * 2) }
  | .slow => { t with reduction := min 40 (t.reduction + t.values.speedStep) }

/-- The persistence rule (R113): applied when the early-run count has reached the persist count. That it is applied to a
count beyond a persist count lowered since, too, is the model's choice (log 48). -/
def applyPersistence (d : Drum) (s : State) : State :=
  let D := s.drum d
  if D.tumble.values.persistCount ≤ D.tangle.earlyRuns then
    let s1 := raise (.tumble d) .tanglePersist d (some (byte D.tumble.values.persistAction.code)) s
    (s1.onTumble d Tumble.persist).onTangle d fun m => { m with earlyRuns := 0 }
  else s

/-- The end of an early run (R112). -/
def endEarlyRun (d : Drum) (s : State) : State :=
  let s1 := enterDecel d .dwell s
  let s2 := raise (.tumble d) .tangleReversal d (some (byte (s.drum d).tangle.count)) s1
  let s3 := handIncrement (.tumble d) d 5 s2
  applyPersistence d (s3.onTangle d fun m => { m with earlyRuns := m.earlyRuns + 1 })

/-- A confirming status in DECEL takes the controller to its target (R97). -/
def reachTarget (d : Drum) (s : State) : State :=
  match (s.drum d).tumble.target with
  | some .dwell =>
    leaveRun d
      (fun t =>
        { t.timersOff with state := .dwell, target := none, dwell := seconds (t.values.dwell * t.multiplier) })
      s
  | some .stopped => enterStopped d s
  | some .run => startDwell d (s.onTumble d Tumble.timersOff)
  | none => s

/-- A confirming status in RECOVER (R101): target RUN starts the recover delay, target STOPPED enters STOPPED. -/
def recoverConfirmed (d : Drum) (s : State) : State :=
  let t := (s.drum d).tumble
  if t.recoverDelay.isSome then s
  else
    match t.target with
    | some .run => s.onTumble d fun t => { t.timersOff with recoverDelay := seconds t.values.recoverDelay }
    | some .stopped => enterStopped d s
    | some .dwell | none => s

/-- The tumble controller's part of the link-lost notice (R105). R105 writes STOP without naming a gate mode, and R94 gives
the DRIVE entry in SERVICE to the command gate and not to the tumble controller: the model writes STOP in both gate modes
(log 35). -/
def tumbleNotice (d : Drum) (s : State) : State :=
  let s1 := writeDrive d .stop (s.onTumble d fun t => { t with status := none })
  match (s.drum d).tumble.state with
  | .stopped => s1
  | .runFwd | .runRev | .decel | .dwell | .recover =>
    leaveRun d
      (fun t =>
        { t.timersOff with
          state := .decel, target := some .stopped, decel := seconds t.values.decelTimeout })
      s1

/-- The link-lost notice, handed once to the tumble controller and once to the burner supervisor (R7). -/
def linkLostNotice (d : Drum) (s : State) : State := burnerNotice d (tumbleNotice d s)

/-- DRUM_RESET at the tumble controller (R106, R115): STOPPED with STOP written, everything cleared but the held status
and the profile values in use; it reports nothing. STOP is written in SERVICE gate mode too (log 35). -/
def tumbleReset (d : Drum) (s : State) : State :=
  let s1 := writeDrive d .stop s
  let s2 :=
    leaveRun d
      (fun t =>
        { t.timersOff with
          state := .stopped
          target := none
          inForce := none
          lastDir := none
          first255 := false
          runTimer := 0
          revBase := 0
          baseTaken := false
          revCount := 0
          stalls := 0
          multiplier := 1
          reduction := 0
          guardLength := none })
      s1
  s2.onTangle d fun _ => {}

end Sys2Proof.Machine
end

