-- ==== Sys2Proof/Machine/Cycles.lean ====
section
/-! DEFINITION. The cycle controller's shared operations (chapter 4): a change of cycle state and what it makes known,
pause, heat end, halt, and the entries to PURGE, GUARD and DONE. -/

namespace Sys2Proof.Machine

/-! ### Codes -/

/-- The code of a cycle state (Table 12-11). -/
def CycleState.code : CycleState → Nat
  | .vacant => 0
  | .ready => 1
  | .purge => 2
  | .drying => 3
  | .cooling => 4
  | .guarding => 5
  | .done => 6
  | .paused => 7
  | .halted => 8

/-- The cycle state of a phase. -/
def Phase.state : Phase → CycleState
  | .drying => .drying
  | .cooling => .cooling

/-- Pause cause codes (Table 4-6). -/
def PauseCause.code : PauseCause → Nat
  | .door => 1
  | .airflow => 2
  | .link => 3
  | .node => 4
  | .request => 5
  | .routed => 6

/-- Completion reason codes (Table 4-5). -/
def Reason.code : Reason → Nat
  | .none => 0
  | .dry => 1
  | .timeLimit => 2
  | .endHeat => 3
  | .heatFault => 4
  | .overtemp => 5
  | .aborted => 6
  | .abandoned => 7

/-- Halt cause codes (Table 4-7). -/
def HaltCause.code : HaltCause → Nat
  | .none => 0
  | .airflow => 1
  | .stall => 2
  | .trip => 3
  | .noStop => 4
  | .routed => 5

/-! ### A change of cycle state (R71) -/

/-- The FAN entry written on entry to a cycle state (Table 4-4). -/
def CycleState.fanOnEntry : CycleState → Bool
  | .purge | .drying | .cooling | .paused => true
  | .vacant | .ready | .guarding | .done | .halted => false

/-- The dryness monitor at a change of cycle state (R162, R163, Table 9-1). -/
def Dryness.onCycleState (m : Dryness) (new : CycleState) (electrode : Bool) (starvation : Nat) : Dryness :=
  match new with
  | .drying =>
    if electrode then { m with starvation := seconds starvation, starved := false }
    else { m with starvation := none }
  | .purge | .paused => { m with starvation := none }
  | .vacant | .ready | .cooling | .guarding | .done | .halted => { m with starvation := none, extraDry := none }

/-- The burner supervisor at a change of cycle state, before its recomputation: wanted stage 0 at every entry to DRYING
and every departure from it (R141), inlet starvation timer started or stopped (R143). -/
def Burner.onCycleState (b : Burner) (old new : CycleState) (starvation : Nat) : Burner :=
  if new = .drying then { b with wanted := 0, starvation := seconds starvation }
  else if old = .drying then { b with wanted := 0, starvation := none }
  else b

/-- Change the cycle state: write the FAN entry of Table 4-4 and make the change known to the tumble controller (stall
count 0, R100), the dryness monitor, the burner supervisor and the standby timer (R71, R19). `f` changes the cycle
controller's other fields. -/
def setCycle (d : Drum) (new : CycleState) (f : Cycle → Cycle) (s : State) : State :=
  let old := (s.drum d).cycle.state
  let s1 := s.onCycle d fun c => { f c with state := new }
  let s2 := writeFan d new.fanOnEntry s1
  let s3 :=
    s2.onDrum d fun D =>
      { D with
        tumble := { D.tumble with stalls := 0 }
        dryness := D.dryness.onCycleState new D.cycle.dryingElectrode D.config.starvation
        burner := D.burner.onCycleState old new D.config.starvation }
  settleStandby d (burnerUpdate d s3)

/-- Every timer of a cycle cancelled, its pause causes and phases cleared (R78, R85, R87). -/
def Cycle.cleared (c : Cycle) : Cycle :=
  { c with
    causes := []
    pausedFrom := none
    purgeTarget := none
    prove := none
    air := none
    fanOverrun := none
    pauseLimit := none
    guardInterval := none
    guardElapsed := none }

/-! ### Done, halted, vacant -/

/-- Entry to DONE (R78). -/
def enterDone (d : Drum) (s : State) : State :=
  let reason := (s.drum d).cycle.reason
  let s1 := tumbleStop d (setCycle d .done Cycle.cleared s)
  let s2 := raise (.cycle d) .cycleDone d (some (byte reason.code)) s1
  if reason = .dry ∨ reason = .timeLimit then handIncrement (.cycle d) d 7 s2 else s2

/-- The states in which a halt cause acts (R85). -/
def CycleState.halts : CycleState → Bool
  | .purge | .drying | .cooling | .guarding | .paused | .done => true
  | .vacant | .ready | .halted => false

/-- A halt cause reaching the cycle controller (R85). -/
def cycleHalt (d : Drum) (cause : HaltCause) (s : State) : State :=
  if (s.drum d).cycle.state.halts then
    let s1 := tumbleStop d (setCycle d .halted (fun c => { c.cleared with halt := cause }) s)
    raise (.cycle d) .cycleHalted d (some (byte cause.code)) s1
  else s

/-- Entry to VACANT with the record cleared (R70, R84, R86). -/
def enterVacant (d : Drum) (s : State) : State :=
  setCycle d .vacant (fun c => { c.cleared with record := none }) s

/-! ### Pausing -/

/-- The phase a pause returns to (R79): the phase itself, or the purge's target. -/
def Cycle.pausePhase (c : Cycle) : Option Phase :=
  match c.state with
  | .drying => some .drying
  | .cooling => some .cooling
  | .purge => c.purgeTarget
  | .vacant | .ready | .guarding | .done | .paused | .halted => none

/-- Entry to PAUSED (R79). A fan overrun of 0 writes FAN OFF at once, a pause limit of 0 starts no timer. -/
def pauseCycle (d : Drum) (cause : PauseCause) (s : State) : State :=
  let D := s.drum d
  let s1 :=
    setCycle d .paused
      (fun c =>
        { c with
          causes := [cause]
          pausedFrom := c.pausePhase
          purgeTarget := none
          prove := none
          air := none
          fanOverrun := if D.config.fanOverrun = 0 then none else seconds D.config.fanOverrun
          pauseLimit := if D.config.pauseLimit = 0 then none else minutes D.config.pauseLimit })
      s
  let s2 := tumbleHold d s1
  let s3 := if D.config.fanOverrun = 0 then writeFan d false s2 else s2
  raise (.cycle d) .cyclePaused d (some (byte cause.code)) s3

/-- A cause joins the cause set of a paused cycle; one already in it stays once (R81). -/
def joinCause (d : Drum) (cause : PauseCause) (s : State) : State :=
  s.onCycle d fun c => if cause ∈ c.causes then c else { c with causes := c.causes ++ [cause] }

/-- A pause cause that pauses PURGE, DRYING and COOLING and joins the set in PAUSED (R79, R81, R82). -/
def pauseOrJoin (d : Drum) (cause : PauseCause) (s : State) : State :=
  match (s.drum d).cycle.state with
  | .purge | .drying | .cooling => pauseCycle d cause s
  | .paused => joinCause d cause s
  | .vacant | .ready | .guarding | .done | .halted => s

/-! ### Phases -/

/-- Entry to PURGE with a target (R73): proof at once if AIRFLOW reads proven, otherwise the prove timer. -/
def enterPurge (d : Drum) (target : Option Phase) (f : Cycle → Cycle) (s : State) : State :=
  let D := s.drum d
  let lost := D.port.readings.airflowNotProven
  setCycle d .purge
    (fun c =>
      { f c with
        purgeTarget := target
        prove := if lost then seconds D.config.proveTimeout else none
        air := if lost then none else seconds D.config.minAir })
    s

/-- Entry to COOLING from DRYING, or from a purge toward DRYING that is aborted: the cooling elapsed time starts at 0
(R74, R84). -/
def startCooling (d : Drum) (reason : Reason) (s : State) : State :=
  setCycle d .cooling (fun c => { c.cleared with cooling := 0, minCoolPassed := false, reason := reason }) s

/-- A heat end (R75). -/
def heatEnd (d : Drum) (reason : Reason) (s : State) : State :=
  let c := (s.drum d).cycle
  match c.state with
  | .drying => startCooling d reason s
  | .purge =>
    if c.purgeTarget = some .drying then
      s.onCycle d fun c => { c with purgeTarget := some .cooling, reason := reason }
    else s
  | .paused =>
    if c.pausedFrom = some .drying then
      s.onCycle d fun c => { c with pausedFrom := some .cooling, reason := reason }
    else s
  | .vacant | .ready | .cooling | .guarding | .done | .halted => s

/-- The end of COOLING (R76, R77): GUARD when the record has a guard part, otherwise DONE. -/
def coolingEnds (d : Drum) (s : State) : State :=
  match (s.drum d).cycle.record.bind (·.guardPart) with
  | some g =>
    tumbleStop d
      (setCycle d .guarding
        (fun c => { c.cleared with guardInterval := seconds g.interval, guardElapsed := some 0 }) s)
  | none => enterDone d s

/-- The cool test in COOLING (R76). -/
def coolTest (d : Drum) (s : State) : State :=
  if (s.drum d).cycle.state = .cooling ∧ (s.drum d).coolMet = true then coolingEnds d s else s

/-- The target phase entered at the end of a purge's air time, its elapsed time as it stood (R73). -/
def enterTarget (d : Drum) (s : State) : State :=
  match (s.drum d).cycle.purgeTarget with
  | some ph => setCycle d ph.state Cycle.cleared s
  | none => s

/-! ### The drum port's changes as the cycle controller takes them -/

/-- DOOR closed to open (Table 4-8). -/
def cycleDoorOpened (d : Drum) (s : State) : State :=
  match (s.drum d).cycle.state with
  | .purge | .drying | .cooling | .paused => pauseOrJoin d .door s
  | .guarding => enterVacant d (enterDone d s)
  | .done => enterVacant d s
  | .vacant | .ready | .halted => s

/-- AIRFLOW proven to not proven: a pause in DRYING and COOLING (R79), in PURGE the prove timer again if the air timer
runs (R73). -/
def cycleAirflowLost (d : Drum) (s : State) : State :=
  let D := s.drum d
  match D.cycle.state with
  | .drying | .cooling => pauseCycle d .airflow s
  | .purge => s.onCycle d fun c => { c with air := none, prove := seconds D.config.proveTimeout }
  | .vacant | .ready | .guarding | .done | .paused | .halted => s

/-- AIRFLOW not proven to proven: proof in PURGE (R73). -/
def cycleAirflowProven (d : Drum) (s : State) : State :=
  let D := s.drum d
  match D.cycle.state with
  | .purge => s.onCycle d fun c => { c with prove := none, air := seconds D.config.minAir }
  | .vacant | .ready | .drying | .cooling | .guarding | .done | .paused | .halted => s

/-- The loss of a node from the presence set (R80): a bound node of the cycle pauses it or ends its guard. -/
def cycleNodeLost (d : Drum) (node : Nat) (s : State) : State :=
  if node ∈ (s.drum d).boundNodes then
    match (s.drum d).cycle.state with
    | .purge | .drying | .cooling | .paused => pauseOrJoin d .node s
    | .guarding => enterDone d s
    | .vacant | .ready | .done | .halted => s
  else s

/-- The expiry of a grace interval (R6, R80). -/
def cycleGraceExpired (d : Drum) (s : State) : State :=
  match (s.drum d).cycle.state with
  | .purge | .drying | .cooling => pauseCycle d .link s
  | .guarding => enterDone d s
  | .vacant | .ready | .done | .paused | .halted => s

/-- A routed action as the cycle controller takes it (R172). -/
def routedAction (d : Drum) (a : RoutedAction) (s : State) : State :=
  match a with
  | .none => s
  | .pause => pauseOrJoin d .routed s
  | .endHeat => heatEnd d .endHeat s
  | .halt => if (s.drum d).cycle.state = .done then s else cycleHalt d .routed s

end Sys2Proof.Machine
end

