-- ==== Sys2Proof/Machine/Heat.lean ====
section
/-! DEFINITION. The heat allocator (chapter 7): demands, grant attempts, revocation, lockout notice and DRUM_RESET, and
the heat lockout of the burner supervisor, which is one step with the allocator's notice (R134, R149). -/

namespace Sys2Proof.Machine

/-! ### Shares, grant list and queue -/

/-- Change the allocator's record of one drum other than its granted stage. -/
def State.onShare (s : State) (d : Drum) (f : HeatShare → HeatShare) : State :=
  s.onHeat fun h => { h with shares := h.shares.set d (f h.shares[d]) }

/-- Remove a drum's entry from the queue; the others keep their order (R120). -/
def Heat.without (h : Heat) (d : Drum) : Heat := { h with queue := h.queue.filter fun e => e.drum != d }

/-- Drop the cost copy of a drum that holds no stage and has no entry (R118). -/
def dropCopy (d : Drum) (s : State) : State :=
  if (s.share d).granted = 0 ∧ s.heat.entry? d = none then s.onShare d fun sh => { sh with costs := none } else s

/-- Lower a drum's granted stage; a drum lowered to 0 leaves the grant list, one lowered to 1 keeps its place (R119). -/
def lowerGrant (d : Drum) (g : Nat) (s : State) : State :=
  setGranted d g (if g = 0 then s.onHeat fun h => { h with grants := h.grants.filter (· != d) } else s)

/-! ### The grant attempt (R124 to R126) -/

/-- Grant an entry (R126): it leaves the queue, the drum's granted stage becomes its wanted stage, the drum goes to the
tail of the grant list, and the burner supervisor is told. -/
def grantEntry (e : HeatEntry) (s : State) : State :=
  setGranted e.drum e.wanted
    (s.onHeat fun h => { h.without e.drum with grants := h.grants.filter (· != e.drum) ++ [e.drum] })

/-- One round of a grant attempt (R125): the state after it, or none where it grants nothing. -/
def grantRound (s : State) : Option State :=
  match s.heat.queue with
  | [] => none
  | head :: rest =>
    if head.cost ≤ s.heat.free then some (grantEntry head s)
    else if head.bypass < s.heat.bypassLimit then
      match rest.find? fun e => decide (e.cost ≤ s.heat.free) with
      | none => none
      | some e =>
        some
          (grantEntry e
            (s.onHeat fun h => { h with queue := { head with bypass := head.bypass + 1 } :: rest }))
    else none

/-- Rounds until one grants nothing; each round takes an entry from the queue, so its length bounds them. -/
def grantRounds : Nat → State → State
  | 0, s => s
  | n + 1, s =>
    match grantRound s with
    | none => s
    | some t => grantRounds n t

/-- A grant attempt (R125). -/
def grantAttempt (s : State) : State := grantRounds s.heat.queue.length s

/-! ### Demands (R121, R122) -/

/-- A demand above the drum's granted stage (R121): a new entry at the tail, or the entry updated in place. -/
def raisedDemand (d : Drum) (w : Nat) (s : State) : State :=
  match s.heat.entry? d with
  | none =>
    let c := (s.drum d).config
    let s1 := s.onShare d fun sh => { sh with costs := some (sh.costs.getD ⟨c.c1, c.c2⟩) }
    let sh := s1.share d
    s1.onHeat fun h => { h with queue := h.queue ++ [⟨d, w, sh.cost w - sh.heldCost, 0, s.clock, false⟩] }
  | some _ =>
    let sh := s.share d
    s.onHeat fun h =>
      { h with
        queue := h.queue.map fun e =>
          if e.drum = d then { e with wanted := w, cost := sh.cost w - sh.heldCost } else e }

/-- A demand at or below the drum's granted stage (R122). -/
def loweredDemand (d : Drum) (w : Nat) (s : State) : State :=
  let s1 := s.onHeat fun h => h.without d
  dropCopy d (if w < (s.share d).granted then lowerGrant d w s1 else s1)

/-- Take a demand (R121, R122). A demand of a drum in heat lockout is taken as a demand of 0 (R135). -/
def takeDemand (d : Drum) (w : Nat) (s : State) : State :=
  let w := if (s.drum d).burner.lockout = none then w else 0
  let s1 := s.onShare d fun sh => { sh with held := w }
  grantAttempt (if (s.share d).granted < w then raisedDemand d w s1 else loweredDemand d w s1)

/-- A drum gives up its heat by lockout or DRUM_RESET (R134, R136): entry removed, granted stage 0, held demand 0, cost
copy dropped, then a grant attempt. -/
def releaseDrum (d : Drum) (s : State) : State :=
  let s1 := s.onHeat fun h => h.without d
  let s2 := if (s.share d).granted = 0 then s1 else lowerGrant d 0 s1
  grantAttempt (s2.onShare d fun sh => { sh with held := 0, costs := none })

/-! ### Budget changes (R129 to R132) -/

/-- Place a revoked drum's held demand in the queue (R131). -/
def requeue (d : Drum) (s : State) : State :=
  let sh := s.share d
  match s.heat.entry? d with
  | none =>
    s.onHeat fun h =>
      { h with queue := h.queue ++ [⟨d, sh.held, sh.cost sh.held - sh.heldCost, 0, s.clock, false⟩] }
  | some _ =>
    s.onHeat fun h =>
      { h with
        queue := h.queue.map fun e => if e.drum = d then { e with cost := sh.cost e.wanted - sh.heldCost } else e }

/-- One revocation step on the drum at the tail of the grant list (R130). -/
def revokeStep (d : Drum) (s : State) : State :=
  let g := (s.share d).granted - 1
  requeue d (raise .allocator .heatRevoked d (some (byte g)) (lowerGrant d g s))

/-- Revocation steps while the held sum exceeds the new budget. Four drums hold at most two stages each, so eight steps
suffice. -/
def revokeTo (budget : Nat) : Nat → State → State
  | 0, s => s
  | n + 1, s =>
    if s.heat.heldSum ≤ budget then s
    else
      match s.heat.grants.getLast? with
      | none => s
      | some d => revokeTo budget n (revokeStep d s)

/-- Bring a new budget into force (R129): revocations first, the old budget staying in force, then a grant attempt. -/
def setBudget (budget : Nat) (s : State) : State :=
  grantAttempt ((revokeTo budget 8 s).onHeat fun h => { h with budget := budget })

/-! ### Heat wait (R127, R128) -/

/-- Judge the entry of one drum against the heat wait limit in force (R127). -/
def judgeWait (d : Drum) (s : State) : State :=
  match s.heat.entry? d with
  | none => s
  | some e =>
    if e.waited s.heat.waitLimit s.clock then
      raise .allocator .heatWait d (some (byte e.wanted))
        (s.onHeat fun h =>
          { h with queue := h.queue.map fun e => if e.drum = d then { e with reported := true } else e })
    else s

/-- Write the heat wait limit and judge every entry in queue order (R128). A write of the value in force changes
nothing. -/
def setWaitLimit (limit : Nat) (s : State) : State :=
  if limit = s.heat.waitLimit then s
  else
    let s1 := s.onHeat fun h => { h with waitLimit := limit }
    (s1.heat.queue.map (·.drum)).foldl (fun s d => judgeWait d s) s1

/-! ### Heat lockout (R134, R149) -/

/-- The detail of HEAT_LOCKOUT (Table 10-1). -/
def LockoutPath.code : LockoutPath → Nat
  | .ignition => 1
  | .byAttribute => 2

/-- Set the heat lockout: timers cancelled, LOCKED_OUT, the lockout and its path, and the recomputation that takes cap,
demand and commanded stage to 0 and writes FLAME stage 0 (R149). -/
def setLockout (d : Drum) (path : LockoutPath) (s : State) : State :=
  burnerUpdate d
    (s.onBurner d fun b =>
      { b with view := .lockedOut, lockout := some path, trial := none, retryDelay := none, stable := none })

/-- Lock the burner out by a path (R149). An attribute consequence on a drum already locked out changes nothing. -/
def lockOut (d : Drum) (path : LockoutPath) (s : State) : State :=
  if (s.drum d).burner.lockout.isSome then s
  else
    let s1 := releaseDrum d (setLockout d path s)
    let s2 := raise (.burner d) .heatLockout d (some (byte path.code)) s1
    let s3 := if path = .ignition then handIncrement (.burner d) d 1 s2 else s2
    heatEnd d .heatFault s3

/-! ### Commands -/

/-- HEAT_DEMAND (R121): the allocator takes the oldest demand handed on by a drum's burner supervisor. -/
def execHeatDemand (d : Drum) (s : State) : Host.Outcome State Fault Refusal :=
  running
    (fun s =>
      match s.flight.demands.find? fun p => p.1 == d with
      | none => s
      | some p => takeDemand d p.2 (s.onFlight fun f => { f with demands := f.demands.erase p }))
    s

/-- ENTRY_WAIT_EXPIRY (R127). -/
def execEntryWaitExpiry (d : Drum) (s : State) : Host.Outcome State Fault Refusal := running (judgeWait d) s

end Sys2Proof.Machine
end

