-- ==== Sys2Proof/Machine/Burner.lean ====
section
/-! DEFINITION. The burner supervisor's commands (chapter 8): temperatures, flame status, failed attempts, timers. -/

namespace Sys2Proof.Machine

/-! ### Work handed to a drum's blocks by the classifier -/

/-- The blocks that take absorbed values (R36, R37). -/
inductive Receiver
  | burner | tumble | dryness
  deriving DecidableEq, Repr

/-- The block an absorbed value is handed to (R36, R37). -/
def Absorbed.receiver : Absorbed → Receiver
  | .inletTemp _ | .exhaustTemp _ | .flameStat _ => .burner
  | .motorCurrent _ _ | .driveStat _ => .tumble
  | .wetCount _ _ => .dryness

/-- The oldest value handed to a block of a drum and not yet taken (R40, log 17). -/
def Flight.nextAbsorbed (f : Flight) (d : Drum) (r : Receiver) : Option (Drum × Absorbed) :=
  f.absorbs.find? fun p => p.1 == d && p.2.receiver == r

/-- Remove a value from the work in flight as its block takes it. -/
def dropAbsorbed (p : Drum × Absorbed) (s : State) : State :=
  s.onFlight fun f => { f with absorbs := f.absorbs.erase p }

/-! ### Temperatures -/

/-- Take an inlet temperature (R139, R141, R143): held, and in DRYING the starvation timer restarts and the wanted stage
is regulated, held at 0 while the exhaust-high flag is set. -/
def takeInlet (d : Drum) (t : Temperature) (s : State) : State :=
  let D := s.drum d
  let s1 := s.onBurner d fun b => { b with inlet := some t }
  match D.cycle.state, D.cycle.record with
  | .drying, some r =>
    let s2 := s1.onBurner d fun b => { b with starvation := seconds D.config.starvation }
    setWanted d (if D.burner.exhaustHigh then 0 else regulate r t.value D.burner.wanted) s2
  | _, _ => s1

/-- Judge an exhaust temperature against the exhaust cap (R142). -/
def judgeExhaust (d : Drum) (t : Temperature) (s : State) : State :=
  let D := s.drum d
  if D.config.exhaustCap < t.value then
    let s1 := setWanted d 0 (s.onBurner d fun b => { b with exhaustHigh := true })
    if D.burner.exhaustHigh then s1 else raise (.burner d) .exhaustHigh d none s1
  else s.onBurner d fun b => { b with exhaustHigh := false }

/-- Take an exhaust temperature: held (R139), judged against the cap (R142), and given to the cycle controller's cool
test (R76). -/
def takeExhaust (d : Drum) (t : Temperature) (s : State) : State :=
  coolTest d (judgeExhaust d t (s.onBurner d fun b => { b with exhaust := some t }))

/-- INLET_TEMP_ABSORBED (R141). -/
def execInletTempAbsorbed (d : Drum) (s : State) : Host.Outcome State Fault Refusal :=
  running
    (fun s =>
      match s.flight.nextAbsorbed d .burner with
      | some (e, .inletTemp t) => takeInlet d t (dropAbsorbed (e, .inletTemp t) s)
      | _ => s)
    s

/-- EXHAUST_TEMP_ABSORBED (R142). -/
def execExhaustTempAbsorbed (d : Drum) (s : State) : Host.Outcome State Fault Refusal :=
  running
    (fun s =>
      match s.flight.nextAbsorbed d .burner with
      | some (e, .exhaustTemp t) => takeExhaust d t (dropAbsorbed (e, .exhaustTemp t) s)
      | _ => s)
    s

/-! ### Attempts and flame status -/

/-- A failed attempt (R148): RETRY_WAIT with FLAME 0 below the retry limit, a lockout by ignition at it. A retry count above
the limit, which R148 does not name, locks the burner out as well (log 43). -/
def failedAttempt (d : Drum) (s : State) : State :=
  let D := s.drum d
  if D.burner.retries < D.config.retryLimit then
    let s1 :=
      burnerUpdate d
        (s.onBurner d fun b =>
          { b with
            view := .retryWait
            retries := b.retries + 1
            trial := none
            stable := none
            retryDelay := seconds D.config.retryDelay })
    let s2 := raise (.burner d) .ignitionRetry d (some (byte (D.burner.retries + 1))) s1
    handIncrement (.burner d) d 0 s2
  else lockOut d .ignition s

/-- Enter BURNING: the trial timer stops and the stable-flame timer starts (R146, R147). -/
def enterBurning (d : Drum) (s : State) : State :=
  let time := (s.drum d).config.stableTime
  burnerUpdate d (s.onBurner d fun b => { b with view := .burning, trial := none, stable := seconds time })

/-- The flame has been lost (R147): FLAME_LOST with the commanded stage, then a failed attempt. -/
def flameLost (d : Drum) (s : State) : State :=
  let stage := (s.drum d).burner.commanded
  failedAttempt d
    (raise (.burner d) .flameLost d (some (byte stage)) (s.onBurner d fun b => { b with stable := none }))

/-- What a flame status does by view state (R146 to R149). -/
def flameByView (d : Drum) (st : FlameState) (s : State) : State :=
  let b := (s.drum d).burner
  match b.view, st with
  | .lighting, .proven => enterBurning d s
  | .lighting, .failed | .lighting, .locked => failedAttempt d s
  | .burning, .off | .burning, .failed | .burning, .locked => if 0 < b.commanded then flameLost d s else s
  | _, _ => s

/-- Take a FLAME_STAT (R145): held, acted on by view state, and OFF sets the rest flag. -/
def takeFlameStat (d : Drum) (st : FlameStatus) (s : State) : State :=
  let s1 := flameByView d st.flame (s.onBurner d fun b => { b with flame := some st })
  if st.flame = .off then setRest d true s1 else s1

/-- FLAME_STAT_ABSORBED (R145). -/
def execFlameStatAbsorbed (d : Drum) (s : State) : Host.Outcome State Fault Refusal :=
  running
    (fun s =>
      match s.flight.nextAbsorbed d .burner with
      | some (e, .flameStat st) => takeFlameStat d st (dropAbsorbed (e, .flameStat st) s)
      | _ => s)
    s

/-! ### Timers -/

/-- The port of a drum is in UP, where the trial and stable-flame timers run (R152). -/
def State.portUp (s : State) (d : Drum) : Bool := (s.drum d).port.state == .up

/-- TRIAL_EXPIRY (R146): the attempt has failed. -/
def execTrialExpiry (d : Drum) (s : State) : Host.Outcome State Fault Refusal :=
  running
    (fun s =>
      let b := (s.drum d).burner
      onlyIf (b.view == .lighting && due b.trial && s.portUp d) (failedAttempt d) s)
    s

/-- The end of the retry delay (R148): LIGHTING with a commanded stage above 0, otherwise IDLE; the recomputation from
IDLE gives both. -/
def retryDelayEnds (d : Drum) (s : State) : State :=
  burnerUpdate d (s.onBurner d fun b => { b with view := .idle, retryDelay := none })

/-- RETRY_DELAY_EXPIRY (R148). -/
def execRetryDelayExpiry (d : Drum) (s : State) : Host.Outcome State Fault Refusal :=
  running
    (fun s =>
      let b := (s.drum d).burner
      onlyIf (b.view == .retryWait && due b.retryDelay) (retryDelayEnds d) s)
    s

/-- STABLE_FLAME_EXPIRY (R147): the retry count is set to 0 and the view stays. -/
def execStableFlameExpiry (d : Drum) (s : State) : Host.Outcome State Fault Refusal :=
  running
    (fun s =>
      let b := (s.drum d).burner
      onlyIf (b.view == .burning && due b.stable && s.portUp d)
        (fun s => s.onBurner d fun b => { b with retries := 0, stable := none }) s)
    s

/-- INLET_STARVATION_EXPIRY (R143): wanted stage 0 and SAMPLE_STARVED with detail INLET. -/
def execInletStarvationExpiry (d : Drum) (s : State) : Host.Outcome State Fault Refusal :=
  running
    (fun s =>
      let D := s.drum d
      onlyIf (D.cycle.state == .drying && due D.burner.starvation)
        (fun s =>
          raise (.burner d) .sampleStarved d (some 1)
            (setWanted d 0 (s.onBurner d fun b => { b with starvation := none })))
        s)
    s

/-- DRUM_RESET at the burner supervisor (R153): stages 0 and FLAME 0, timers cancelled, IDLE with retry count 0 unless
locked out. It hands no demand to the allocator. -/
def burnerReset (d : Drum) (s : State) : State :=
  writeFlame d 0
    (s.onBurner d fun b =>
      { b with
        wanted := 0
        demand := 0
        commanded := 0
        trial := none
        retryDelay := none
        stable := none
        starvation := none
        view := if b.lockout.isSome then .lockedOut else .idle
        retries := if b.lockout.isSome then b.retries else 0 })

/-- An accepted HEAT_LOCKOUT_CLEAR (R151): lockout and path cleared, retry count 0, IDLE, rest flag clear, FLAME 0 with
the reset-lockout flag. -/
def clearLockout (d : Drum) (s : State) : State :=
  writeResetLockout d
    (setRest d false (s.onBurner d fun b => { b with lockout := none, retries := 0, view := .idle }))

end Sys2Proof.Machine
end

