-- ==== Sys2Proof/Machine/Tumble.lean ====
section
/-! DEFINITION. The tumble controller's commands (chapters 5 and 6): drive status, motor current, the ends of a run,
dwell, recovery, stall, trip and failure to stop. -/

namespace Sys2Proof.Machine

/-! ### Motor current (R109) -/

/-- Take a motor current value into the open revolution window of a run, or discard it (R109). -/
def takeCurrent (d : Drum) (v : Nat) (s : State) : State :=
  let D := s.drum d
  if D.tumble.state.running && D.tangle.windowOpen then
    s.onTangle d fun m =>
      { m with
        greatest := if m.samples = 0 then v else max m.greatest v
        least := if m.samples = 0 then v else min m.least v
        samples := satSucc 65535 m.samples }
  else s

/-- MOTOR_CURRENT_ABSORBED (R109). No rule of the tangle monitor reads the arrival time handed with the value (R36). -/
def execMotorCurrentAbsorbed (d : Drum) (s : State) : Host.Outcome State Fault Refusal :=
  running
    (fun s =>
      match s.flight.nextAbsorbed d .tumble with
      | some (e, .motorCurrent v a) => takeCurrent d v (dropAbsorbed (e, .motorCurrent v a) s)
      | _ => s)
    s

/-! ### Drive status in a run (R96, R108, R110, R111) -/

/-- Judge the closed revolution window (R110): with two or more samples the swing becomes the last swing and raises the
tangle count or sets it to 0. The window reopens with no samples. -/
def Tangle.judge (m : Tangle) (threshold : Nat) : Tangle :=
  if m.samples < 2 then m.opened
  else
    let swing := m.greatest - m.least
    { m.opened with lastSwing := swing, count := if threshold ≤ swing then satSucc 255 m.count else 0 }

/-- The first DRIVE_STAT of a run takes the revolution base and, unless the status wait has already ended, starts the run
timer at 0; a later one sets the revolution count (R96). -/
def Tumble.takeCounter (t : Tumble) (counter : BitVec 16) : Tumble :=
  if t.baseTaken then { t with revCount := counter - t.revBase }
  else
    { t with
      baseTaken := true
      revBase := counter
      runTiming := true
      runTimer := if t.runTiming then t.runTimer else 0
      statusWait := none }

/-- The revolution count has reached the run length under REVOLUTIONS (R96). -/
def Tumble.revolutionsUp (t : Tumble) : Bool :=
  t.reverses && t.values.timebase == .revolutions && decide (t.runLength ≤ t.revCount.toNat)

/-- A running status in a run: count the revolution; open the window at the first one; close and judge it at the next
ones; then end the run normally, or early by the test, or go on (R96, R108, R110, R111). -/
def statusInRun (d : Drum) (st : DriveStatus) (s : State) : State :=
  let D := s.drum d
  let t := D.tumble.takeCounter st.counter
  let s1 := s.onTumble d fun _ => t
  if t.revCount = D.tumble.revCount then s1
  else
    let judged := D.tangle.windowOpen && decide (2 ≤ D.tangle.samples)
    let s2 :=
      if D.tangle.windowOpen then s1.onTangle d fun m => m.judge t.values.swingThreshold
      else if t.guardLength.isSome then s1
      else s1.onTangle d Tangle.opened
    if t.revolutionsUp then endNormalRun d s2
    else if judged && (s2.drum d).earlyTest then endEarlyRun d s2
    else s2

/-- A stall (R100): STOP, stall count, DRIVE_STALL, one DRIVE_STALLS increment, RECOVER; beyond the retry limit the halt
cause STALL. In a guard tumble the target is STOPPED (R101). -/
def stall (d : Drum) (st : DriveStatus) (s : State) : State :=
  let t := (s.drum d).tumble
  let stalls := t.stalls + 1
  let s1 := writeDrive d .stop (s.onTumble d fun t => { t.takeCounter st.counter with stalls := stalls })
  let s2 := raise (.tumble d) .driveStall d (some (byte stalls)) s1
  let s3 := handIncrement (.tumble d) d 3 s2
  let s4 :=
    leaveRun d
      (fun t =>
        { t.timersOff with
          state := .recover
          target := some (if t.guardLength.isSome then .stopped else .run)
          decel := seconds t.values.decelTimeout })
      s3
  if t.values.retryLimit < stalls then cycleHalt d .stall s4 else s4

/-- A trip (R102): in any state but STOPPED, STOP and STOPPED with every timer cancelled; in every state the halt cause
TRIP is reported. A trip in a run first sets the run's revolution count (R96, log 23). -/
def trip (d : Drum) (st : DriveStatus) (s : State) : State :=
  let s1 :=
    match (s.drum d).tumble.state with
    | .stopped => s
    | .runFwd | .runRev =>
      enterStopped d (writeDrive d .stop (s.onTumble d fun t => t.takeCounter st.counter))
    | .decel | .dwell | .recover => enterStopped d (writeDrive d .stop s)
  cycleHalt d .trip s1

/-- Take a DRIVE_STAT (R93): it replaces the held status in every tumble state and is then acted on by the state. -/
def takeDriveStat (d : Drum) (st : DriveStatus) (s : State) : State :=
  let s1 := s.onTumble d fun t => { t with status := some st }
  if st.motor = .tripped then trip d st s1
  else
    match (s.drum d).tumble.state with
    | .runFwd | .runRev => if st.motor = .stalled then stall d st s1 else statusInRun d st s1
    | .decel => if (s1.drum d).confirming then reachTarget d s1 else s1
    | .recover => if (s1.drum d).confirming then recoverConfirmed d s1 else s1
    | .dwell | .stopped => s1

/-- DRIVE_STAT_ABSORBED (R93). -/
def execDriveStatAbsorbed (d : Drum) (s : State) : Host.Outcome State Fault Refusal :=
  running
    (fun s =>
      match s.flight.nextAbsorbed d .tumble with
      | some (e, .driveStat st) => takeDriveStat d st (dropAbsorbed (e, .driveStat st) s)
      | _ => s)
    s

/-! ### The ends of a run -/

/-- STATUS_WAIT_EXPIRY (R96): the run timer starts at 0; the revolution base comes from the next DRIVE_STAT. -/
def execStatusWaitExpiry (d : Drum) (s : State) : Host.Outcome State Fault Refusal :=
  running
    (fun s =>
      let t := (s.drum d).tumble
      onlyIf (t.state.running && due t.statusWait && s.portUp d)
        (fun s => s.onTumble d fun t => { t with statusWait := none, runTimer := 0, runTiming := true }) s)
    s

/-- RUN_LENGTH_END (R96): under SECONDS the run timer reaches the run length. Under REVOLUTIONS the run length ends the
run within DRIVE_STAT_ABSORBED. -/
def execRunLengthEnd (d : Drum) (s : State) : Host.Outcome State Fault Refusal :=
  running
    (fun s =>
      let t := (s.drum d).tumble
      onlyIf (t.values.timebase == .seconds && t.timeUp) (endNormalRun d) s)
    s

/-- MAXIMUM_RUN_SECONDS (R96): under REVOLUTIONS the run timer reaches the maximum run seconds. -/
def execMaximumRunSeconds (d : Drum) (s : State) : Host.Outcome State Fault Refusal :=
  running
    (fun s =>
      let t := (s.drum d).tumble
      onlyIf (t.values.timebase == .revolutions && t.timeUp) (endNormalRun d) s)
    s

/-- The run timer reaches the minimum run (R111). Where the normal end falls at the same moment the run ends normally
(log 24); otherwise the early-reversal test is made. -/
def minimumRunReached (d : Drum) (s : State) : State :=
  if (s.drum d).tumble.timeUp then endNormalRun d s
  else if (s.drum d).earlyTest then endEarlyRun d s
  else s

/-- MINIMUM_RUN_REACHED (R111). -/
def execMinimumRunReached (d : Drum) (s : State) : Host.Outcome State Fault Refusal :=
  running
    (fun s =>
      let t := (s.drum d).tumble
      onlyIf (t.reverses && t.runTiming && decide (t.values.minRun * 1000 ≤ t.runTimer)) (minimumRunReached d) s)
    s

/-- A guard tumble's run timer has reached its length (R104). -/
def Tumble.guardUp (t : Tumble) : Bool :=
  match t.guardLength with
  | some n => t.state.running && t.runTiming && decide (n * 1000 ≤ t.runTimer)
  | none => false

/-- GUARD_TUMBLE_END (R104): STOP, DECEL with target STOPPED. -/
def execGuardTumbleEnd (d : Drum) (s : State) : Host.Outcome State Fault Refusal :=
  running (fun s => onlyIf (s.drum d).tumble.guardUp (enterDecel d .stopped) s) s

/-! ### Stopping and starting again -/

/-- The decel timer has expired (R98, R101): NO_STOP raised and counted, halt cause NO_STOP reported; DECEL stays, RECOVER
moves to DECEL with target STOPPED; the timer does not restart. R101 fixes no order in RECOVER between the move and the
report: the model moves to DECEL and makes it known first, and reports the halt cause last (log 36). -/
def decelTimeout (d : Drum) (s : State) : State :=
  let s1 :=
    match (s.drum d).tumble.state with
    | .recover => leaveRun d (fun t => { t.timersOff with state := .decel, target := some .stopped }) s
    | .decel | .stopped | .runFwd | .runRev | .dwell => s.onTumble d fun t => { t with decel := none }
  cycleHalt d .noStop (handIncrement (.tumble d) d 4 (raise (.tumble d) .noStop d none s1))

/-- DECEL_TIMEOUT (R98). -/
def execDecelTimeout (d : Drum) (s : State) : Host.Outcome State Fault Refusal :=
  running
    (fun s =>
      let t := (s.drum d).tumble
      onlyIf ((t.state == .decel || t.state == .recover) && due t.decel && s.portUp d) (decelTimeout d) s)
    s

/-- DWELL_EXPIRY (R99): the next run begins. -/
def execDwellExpiry (d : Drum) (s : State) : Host.Outcome State Fault Refusal :=
  running
    (fun s =>
      let t := (s.drum d).tumble
      onlyIf (t.state == .dwell && due t.dwell) (beginRun d) s)
    s

/-- RECOVER_DELAY_EXPIRY (R101): with target RUN a run begins opposite the stalled run. -/
def execRecoverDelayExpiry (d : Drum) (s : State) : Host.Outcome State Fault Refusal :=
  running
    (fun s =>
      let t := (s.drum d).tumble
      onlyIf (t.state == .recover && t.target == some .run && due t.recoverDelay) (beginRun d) s)
    s

end Sys2Proof.Machine
end

