-- ==== Sys2Proof/Machine/Cycle.lean ====
section
/-! DEFINITION. The cycle controller's timed commands (chapter 4). -/

namespace Sys2Proof.Machine

/-- PROVE_TIMEOUT (R73): HALTED with cause AIRFLOW. -/
def execProveTimeout (d : Drum) (s : State) : Host.Outcome State Fault Refusal :=
  running
    (fun s =>
      let c := (s.drum d).cycle
      onlyIf (c.state == .purge && due c.prove) (cycleHalt d .airflow) s)
    s

/-- AIR_TIME_END (R73): the cycle enters its target phase. -/
def execAirTimeEnd (d : Drum) (s : State) : Host.Outcome State Fault Refusal :=
  running
    (fun s =>
      let c := (s.drum d).cycle
      onlyIf (c.state == .purge && due c.air) (enterTarget d) s)
    s

/-- The drying elapsed time has reached the maximum drying time (R74). -/
def Cycle.dryingUp (c : Cycle) : Bool :=
  c.state == .drying &&
    (match c.record with
     | some r => decide (r.maxDrying * 60000 ≤ c.drying)
     | none => false)

/-- DRYING_TIME_LIMIT (R74): COOLING with reason TIME_LIMIT. -/
def execDryingTimeLimit (d : Drum) (s : State) : Host.Outcome State Fault Refusal :=
  running (fun s => onlyIf (s.drum d).cycle.dryingUp (startCooling d .timeLimit) s) s

/-- The cooling elapsed time has reached a number of minutes of the record (R76). -/
def Cycle.coolingReached (c : Cycle) (limit : CycleRecord → Nat) : Bool :=
  c.state == .cooling &&
    (match c.record with
     | some r => decide (limit r * 60000 ≤ c.cooling)
     | none => false)

/-- MINIMUM_COOL_TIME_REACHED (R76): the cool condition is tested once, as the minimum cool time is reached (log 20). -/
def execMinimumCoolTimeReached (d : Drum) (s : State) : Host.Outcome State Fault Refusal :=
  running
    (fun s =>
      let c := (s.drum d).cycle
      onlyIf (c.coolingReached (·.minCool) && !c.minCoolPassed)
        (fun s => coolTest d (s.onCycle d fun c => { c with minCoolPassed := true })) s)
    s

/-- MAXIMUM_COOL_TIME (R76): COOLING ends whatever the temperature. -/
def execMaximumCoolTime (d : Drum) (s : State) : Host.Outcome State Fault Refusal :=
  running (fun s => onlyIf ((s.drum d).cycle.coolingReached (·.maxCool)) (coolingEnds d) s) s

/-- The guard interval has expired (R77): FAN ON and GUARD_TUMBLE with the guard tumble length. -/
def guardIntervalEnds (d : Drum) (s : State) : State :=
  match (s.drum d).cycle.record.bind (·.guardPart) with
  | some g =>
    tumbleGuard d g.tumbleLength (writeFan d true (s.onCycle d fun c => { c with guardInterval := none }))
  | none => s

/-- GUARD_INTERVAL_EXPIRY (R77). -/
def execGuardIntervalExpiry (d : Drum) (s : State) : Host.Outcome State Fault Refusal :=
  running
    (fun s =>
      let c := (s.drum d).cycle
      onlyIf (c.state == .guarding && due c.guardInterval) (guardIntervalEnds d) s)
    s

/-- The guard elapsed time has reached the guard limit (R77). -/
def Cycle.guardUp (c : Cycle) : Bool :=
  c.state == .guarding &&
    (match c.record.bind (·.guardPart), c.guardElapsed with
     | some g, some ms => decide (g.limit * 60000 ≤ ms)
     | _, _ => false)

/-- GUARD_LIMIT (R77): the cycle enters DONE. -/
def execGuardLimit (d : Drum) (s : State) : Host.Outcome State Fault Refusal :=
  running (fun s => onlyIf (s.drum d).cycle.guardUp (enterDone d) s) s

/-- FAN_OVERRUN_EXPIRY (R81): FAN OFF. -/
def execFanOverrunExpiry (d : Drum) (s : State) : Host.Outcome State Fault Refusal :=
  running
    (fun s =>
      let c := (s.drum d).cycle
      onlyIf (c.state == .paused && due c.fanOverrun)
        (fun s => writeFan d false (s.onCycle d fun c => { c with fanOverrun := none })) s)
    s

/-- The pause limit has expired (R82): PAUSE_EXPIRED first, then DONE with reason ABANDONED. -/
def pauseLimitEnds (d : Drum) (s : State) : State :=
  enterDone d (raise (.cycle d) .pauseExpired d none (s.onCycle d fun c => { c with reason := .abandoned }))

/-- PAUSE_LIMIT_EXPIRY (R82). -/
def execPauseLimitExpiry (d : Drum) (s : State) : Host.Outcome State Fault Refusal :=
  running
    (fun s =>
      let c := (s.drum d).cycle
      onlyIf (c.state == .paused && due c.pauseLimit) (pauseLimitEnds d) s)
    s

end Sys2Proof.Machine
end

