-- ==== Sys2Proof/Machine/Dryness.lean ====
section
/-! DEFINITION. The dryness monitor's commands (chapter 9). -/

namespace Sys2Proof.Machine

/-- The window with an accepted value as newest; a seventeenth value evicts the oldest (R158). -/
def Dryness.accept (m : Dryness) (v : Nat) : Dryness :=
  let w := m.window ++ [v]
  { m with window := w.drop (w.length - 16) }

/-- The extra-dry time in whole seconds (R160): the drying elapsed time times the percent, by 100, rounded down. -/
def extraDrySeconds (drying percent : Nat) : Nat := drying * percent / 100 / 1000

/-- The extra-dry timer's expiry (R161): the cycle enters COOLING with reason DRY. -/
def extraDryEnds (d : Drum) (s : State) : State :=
  startCooling d .dry (s.onDryness d fun m => { m with extraDry := none })

/-- The load is dry (R160): flag set, DRY_REACHED, extra-dry timer started; with no extra time it expires at once. -/
def dryReached (d : Drum) (p : DrynessPart) (s : State) : State :=
  let extra := extraDrySeconds (s.drum d).cycle.drying (p.extraDry.getD 0)
  let s1 :=
    raise (.dryness d) .dryReached d none
      (s.onDryness d fun m => { m with dryReached := true, extraDry := seconds extra })
  if extra = 0 then extraDryEnds d s1 else s1

/-- The dry test of an accepted value (R159): while the dry-reached flag is clear and the minimum drying time has been
reached, a value that meets the condition counts and one that fails it clears the count. -/
def dryTest (d : Drum) (p : DrynessPart) (s : State) : State :=
  let D := s.drum d
  if D.dryness.dryReached = false ∧ p.minDrying * 60000 ≤ D.cycle.drying then
    if D.dryMet p then
      let s1 := s.onDryness d fun m => { m with confirm := m.confirm + 1 }
      if p.confirmCount ≤ D.dryness.confirm + 1 then dryReached d p s1 else s1
    else s.onDryness d fun m => { m with confirm := 0 }
  else s

/-- An accepted value joins the window, restarts the sample-starvation timer with the starved flag cleared, and is tested
(R156, R158, R163). -/
def acceptWet (d : Drum) (v : Nat) (p : DrynessPart) (s : State) : State :=
  let time := (s.drum d).config.starvation
  dryTest d p
    (s.onDryness d fun m => { m.accept v with starvation := seconds time, starved := false })

/-- Take a wet count (R156): in a run with the settle countdown above 0 it counts the countdown down and is discarded;
in DRYING in ELECTRODE mode, in a run, with the countdown at 0, it is accepted; otherwise it is discarded. -/
def takeWet (d : Drum) (v : Nat) (s : State) : State :=
  let D := s.drum d
  if D.tumble.state.running then
    if 0 < D.dryness.settle then s.onDryness d fun m => { m with settle := m.settle - 1 }
    else if D.cycle.dryingElectrode then
      match D.cycle.record.bind (·.dryness) with
      | some p => acceptWet d v p s
      | none => s
    else s
  else s

/-- WET_COUNT_ABSORBED (R156). No rule of the dryness monitor reads the arrival time handed with the value (R36). -/
def execWetCountAbsorbed (d : Drum) (s : State) : Host.Outcome State Fault Refusal :=
  running
    (fun s =>
      match s.flight.nextAbsorbed d .dryness with
      | some (e, .wetCount v a) => takeWet d v (dropAbsorbed (e, .wetCount v a) s)
      | _ => s)
    s

/-- EXTRA_DRY_EXPIRY (R161). -/
def execExtraDryExpiry (d : Drum) (s : State) : Host.Outcome State Fault Refusal :=
  running
    (fun s =>
      let D := s.drum d
      onlyIf (D.cycle.state == .drying && due D.dryness.extraDry) (extraDryEnds d) s)
    s

/-- SAMPLE_STARVATION_EXPIRY (R163): starved flag and SAMPLE_STARVED with detail WET; the timer is not reloaded. -/
def execSampleStarvationExpiry (d : Drum) (s : State) : Host.Outcome State Fault Refusal :=
  running
    (fun s =>
      let D := s.drum d
      onlyIf (D.cycle.dryingElectrode && D.tumble.state.running && due D.dryness.starvation)
        (fun s =>
          raise (.dryness d) .sampleStarved d (some 2)
            (s.onDryness d fun m => { m with starved := true, starvation := none }))
        s)
    s

/-- The window emptied and the dry decision cleared at an accepted CYCLE_START (R72, R158, Table 9-1). -/
def drynessStart (d : Drum) (s : State) : State :=
  s.onDryness d fun m => { settle := m.settle }

/-- DRUM_RESET at the dryness monitor (R166). -/
def drynessReset (d : Drum) (s : State) : State := s.onDryness d fun _ => {}

end Sys2Proof.Machine
end

