-- ==== Sys2Proof/Machine/Ports.lean ====
section
/-! DEFINITION. The drum port (chapter 1): lanes, grace, discretes, presence, the command image's frames, standby and
the line test. -/

namespace Sys2Proof.Machine

/-! ### Port state -/

/-- Move a port that is not in UP to a state other than UP; the lane's lock is lost outside TEST. -/
def setPortState (d : Drum) (st : PortState) (s : State) : State :=
  settleStandby d (s.onPort d fun p => { p with state := st, laneLocked := p.laneLocked && st == .test })

/-- Leave UP (R5, R16, R17, R18): marks cleared, slot emptied, refresh timer stopped; a frame under way is cut (log 13). -/
def leaveUp (d : Drum) (st : PortState) (s : State) : State :=
  setPortState d st
    (s.onPort d fun p =>
      { p with image := p.image.unmarked, slot := none, sending := none, refresh := none })

/-- Move a port out of UP or SEEK by request, standby or line test, with the link-lost notice where R6 and R7 give it:
from UP at the move, from SEEK where the move ends a grace interval. -/
def movePort (d : Drum) (st : PortState) (s : State) : State :=
  let p := (s.drum d).port
  if p.state = .up then linkLostNotice d (leaveUp d st s)
  else if p.grace.isSome then
    linkLostNotice d (setPortState d st (s.onPort d fun p => { p with grace := none }))
  else setPortState d st s

/-- Enter UP (R4). -/
def enterUp (d : Drum) (s : State) : State :=
  let c := (s.drum d).config
  settleStandby d
    (raise (.port d) .linkUp d none
      (s.onPort d fun p =>
        { p with
          state := .up
          laneLocked := true
          grace := none
          refresh := some (c.refreshSteps * 10)
          image := if p.hold then p.image else p.image.markAll c }))

/-- MAIN_LANE_LOCK (R4): in SEEK the port enters UP; in TEST the lane's lock is noted for the checker (R23, log 16); in any
other state a lock report has no effect. -/
def execMainLaneLock (d : Drum) (s : State) : Host.Outcome State Fault Refusal :=
  running
    (fun s =>
      match (s.drum d).port.state with
      | .seek => enterUp d s
      | .test => s.onPort d fun p => { p with laneLocked := true }
      | .off | .service | .up => s)
    s

/-- A grace interval expires (R6): the link-lost notice, and the grace expiry to the cycle controller. R105 lets the notice and
the HOLD of the pause (or the STOP of a guard that ends, R80) reach the tumble controller in either order: the model gives the
notice first, so a drum in DWELL or in a recover delay ends in DECEL and not in STOPPED (log 45). -/
def graceExpires (d : Drum) (s : State) : State :=
  cycleGraceExpired d (linkLostNotice d (s.onPort d fun p => { p with grace := none }))

/-- Loss of main-lane lock in UP (R5). A grace of 0 expires at the loss itself; without an active cycle the notice is
given at once. -/
def mainLaneLost (d : Drum) (s : State) : State :=
  let D := s.drum d
  let s1 := handIncrement (.port d) d 6 (raise (.port d) .linkLost d none (leaveUp d .seek s))
  if D.cycle.state.active then
    if D.config.graceSteps = 0 then graceExpires d s1
    else s1.onPort d fun p => { p with grace := some (D.config.graceSteps * 100) }
  else linkLostNotice d s1

/-- MAIN_LANE_LOCK_LOST (R5): in UP the loss; in TEST the checker's interval notes it (R23); elsewhere nothing. -/
def execMainLaneLockLost (d : Drum) (s : State) : Host.Outcome State Fault Refusal :=
  running
    (fun s =>
      match (s.drum d).port.state with
      | .up => mainLaneLost d s
      | .test => s.onPort d fun p => { p with laneLocked := false, lockGap := true }
      | .off | .service | .seek => s)
    s

/-- GRACE_EXPIRY (R6). -/
def execGraceExpiry (d : Drum) (s : State) : Host.Outcome State Fault Refusal :=
  running
    (fun s =>
      let p := (s.drum d).port
      onlyIf (p.state == .seek && due p.grace) (graceExpires d) s)
    s

/-! ### Arriving frames (R9) -/

/-- A frame is malformed when its length field exceeds 16 or it has fewer or more bytes than that field calls for. -/
def frameMalformed (bytes : List Byte) : Bool :=
  decide (bytes.length < 4) || decide (16 < natAt bytes 3) || decide (bytes.length ≠ natAt bytes 3 + 6)

/-- The check result of a whole frame (R8). -/
def checkPassed (bytes : List Byte) : Bool := withCheck (bytes.take (bytes.length - 2)) == bytes

/-- Take a frame from the main lane in UP (R9): malformed frames are counted and discarded, the others handed to the
classifier with check result and arrival time. -/
def takeFrame (d : Drum) (bytes : List Byte) (s : State) : State :=
  if frameMalformed bytes then s.onPort d fun p => { p with malformed := satSucc 65535 p.malformed }
  else
    let passed := checkPassed bytes
    let s1 := if passed then s else s.onPort d fun p => { p with checkFailed := satSucc 65535 p.checkFailed }
    s1.onFlight fun f =>
      { f with frames := f.frames ++ [⟨d, passed, s.clock, bytes.take (bytes.length - 2)⟩] }

/-- MAIN_LANE_FRAME_RECEIVED (R9). -/
def execMainLaneFrameReceived (d : Drum) (bytes : List Byte) (s : State) : Host.Outcome State Fault Refusal :=
  running (fun s => onlyIf (s.portUp d) (takeFrame d bytes) s) s

/-! ### Discretes (R10 to R12, R20, R169) -/

/-- The event of a change of a discrete, if Table 1-3 lists one. -/
def changeEvent (x : Discrete) (safe : Bool) : Option EventKind :=
  match x, safe with
  | .door, true => some .doorOpened
  | .door, false => some .doorClosed
  | .lint, true => some .lintOut
  | .airflow, true => some .airflowLost
  | .highlimit, true => some .highLimit
  | .lint, false | .airflow, false | .highlimit, false => none

/-- The cycle controller's act at a change of a discrete (Table 1-3, R169). -/
def cycleOnChange (d : Drum) (x : Discrete) (safe : Bool) (s : State) : State :=
  match x, safe with
  | .door, true => cycleDoorOpened d s
  | .airflow, true => cycleAirflowLost d s
  | .airflow, false => cycleAirflowProven d s
  | .highlimit, true => heatEnd d .overtemp s
  | .door, false | .lint, _ | .highlimit, false => s

/-- A change of a discrete to a reading, accepted or forced (R12): its event, the reading and the burner's cap, the
standby timer, HIGH_LIMIT_TRIPS for an accepted trip (R150), the cycle controller, and the wake of a port in SERVICE by
an accepted DOOR change (R20). The fixed action of R169 is made here, within the step that raises the event, so it comes
before the routed action of that event (log 38). -/
def changeReading (d : Drum) (x : Discrete) (safe accepted : Bool) (s : State) : State :=
  let s1 :=
    match changeEvent x safe with
    | some k => raise (.port d) k d none s
    | none => s
  let s2 := reloadStandby d (setReading d x safe s1)
  let s3 := if accepted && x == .highlimit && safe then handIncrement (.burner d) d 2 s2 else s2
  let s4 := cycleOnChange d x safe s3
  if accepted && x == .door && (s4.drum d).port.state == .service then setPortState d .seek s4 else s4

/-- Force one discrete to its safe reading if it is not there (R10). -/
def forceSafe (d : Drum) (x : Discrete) (s : State) : State :=
  if (s.drum d).port.readings.get x then s else changeReading d x true false s

/-- The raw value of a discrete against its reading and debounce timer (R11). -/
def debounceReport (t : Timer) (differs : Bool) (steps : Nat) : Timer :=
  if differs then
    (match t with
     | none => some (steps * 10)
     | some ms => some ms)
  else none

/-- Take a raw discrete report (R11): each discrete on its own. -/
def takeDiscretes (d : Drum) (raw : Readings) (s : State) : State :=
  let n := (s.drum d).config.debounceSteps
  s.onPort d fun p =>
    let r := p.readings
    { p with
      debounce :=
        { door := debounceReport p.debounce.door (raw.doorOpen != r.doorOpen) n
          lint := debounceReport p.debounce.lint (raw.lintOut != r.lintOut) n
          airflow := debounceReport p.debounce.airflow (raw.airflowNotProven != r.airflowNotProven) n
          highlimit := debounceReport p.debounce.highlimit (raw.highlimitTripped != r.highlimitTripped) n } }

/-- DISCRETE_REPORT (R11): taken while the service-lane lock flag is set (R10). -/
def execDiscreteReport (d : Drum) (raw : Readings) (s : State) : Host.Outcome State Fault Refusal :=
  running (fun s => onlyIf (s.drum d).port.serviceLock (takeDiscretes d raw) s) s

/-- A debounce timer expires (R11): the discrete takes its other reading as an accepted change. -/
def debounceExpires (d : Drum) (x : Discrete) (s : State) : State :=
  let v := !(s.drum d).port.readings.get x
  changeReading d x v true (s.onPort d fun p => { p with debounce := p.debounce.set x none })

/-- DEBOUNCE_EXPIRY (R11). -/
def execDebounceExpiry (d : Drum) (x : Discrete) (s : State) : Host.Outcome State Fault Refusal :=
  running (fun s => onlyIf (due ((s.drum d).port.debounce.get x)) (debounceExpires d x) s) s

/-! ### Presence and node hold (R13, R14) -/

/-- Node addresses 1 to 14, ascending. -/
def nodeAddresses : List Nat := [1, 2, 3, 4, 5, 6, 7, 8, 9, 10, 11, 12, 13, 14]

/-- One address of a replaced presence set: NODE_PRESENT or NODE_LOST, and the loss as the cycle controller takes it. -/
def presenceChange (d : Drum) (old new : BitVec 16) (s : State) (node : Nat) : State :=
  if new.getLsbD node && !old.getLsbD node then raise (.port d) .nodePresent d (some (byte node)) s
  else if old.getLsbD node && !new.getLsbD node then
    cycleNodeLost d node (raise (.port d) .nodeLost d (some (byte node)) s)
  else s

/-- Replace the presence set (R13); addresses 0 and 15 are disregarded. -/
def setPresence (d : Drum) (report : BitVec 16) (s : State) : State :=
  let old := (s.drum d).port.presence
  let new := report &&& 0x7FFE#16
  nodeAddresses.foldl (presenceChange d old new) (s.onPort d fun p => { p with presence := new })

/-- PRESENCE_REPORT (R13): taken while the lock flag is set and node hold is clear. -/
def execPresenceReport (d : Drum) (present : BitVec 16) (s : State) : Host.Outcome State Fault Refusal :=
  running
    (fun s => onlyIf ((s.drum d).port.serviceLock && !(s.drum d).port.hold) (setPresence d present) s) s

/-- Set node hold (R14). -/
def setHold (d : Drum) (s : State) : State :=
  setPresence d 0 (s.onPort d fun p => { p with hold := true, image := p.image.unmarked })

/-- Clear node hold (R14). -/
def clearHold (d : Drum) (s : State) : State :=
  let c := (s.drum d).config
  s.onPort d fun p =>
    { p with hold := false, image := if p.state = .up then p.image.markAll c else p.image }

/-! ### Service lane (R10) -/

/-- SERVICE_LANE_LOCK (R10): the running lane reports lock. It runs in every state except OFF. -/
def execServiceLaneLock (d : Drum) (s : State) : Host.Outcome State Fault Refusal :=
  running
    (fun s =>
      onlyIf ((s.drum d).port.state != .off) (fun s => s.onPort d fun p => { p with serviceLock := true }) s)
    s

/-- The service lane loses lock or stops (R10): flag clear, debounce timers cancelled, forced changes in the order DOOR,
LINT, AIRFLOW, HIGHLIMIT, then the presence set emptied. -/
def serviceLaneDown (d : Drum) (s : State) : State :=
  let s1 := s.onPort d fun p => { p with serviceLock := false, debounce := {} }
  setPresence d 0
    (forceSafe d .highlimit (forceSafe d .airflow (forceSafe d .lint (forceSafe d .door s1))))

/-- SERVICE_LANE_LOCK_LOST (R10). -/
def execServiceLaneLockLost (d : Drum) (s : State) : Host.Outcome State Fault Refusal :=
  running (fun s => onlyIf (s.drum d).port.serviceLock (serviceLaneDown d) s) s

/-! ### Frames sent to the nodes (R16 to R18) -/

/-- An image whose entries with binding 0 have no marks (R16). -/
def Image.dropUnbound (i : Image) (c : DrumConfig) : Image :=
  { i with
    driveMarks := if c.motorNode = 0 then {} else i.driveMarks
    flameMarks := if c.burnerNode = 0 then {} else i.flameMarks
    fanMarks := if c.fanNode = 0 then {} else i.fanMarks }

/-- The next frame of a port (R16): change-marked entries, the pass-through slot, refresh-marked entries. -/
def nextSender (i : Image) (slot : Option PassFrame) : Option Sender :=
  if i.driveMarks.change then some .drive
  else if i.flameMarks.change then some .flame
  else if i.fanMarks.change then some .fan
  else if slot.isSome then some .slot
  else if i.driveMarks.refresh then some .drive
  else if i.flameMarks.refresh then some .flame
  else if i.fanMarks.refresh then some .fan
  else none

/-- The image with both marks of one entry cleared (R16). -/
def Image.clearMarks (i : Image) : Sender → Image
  | .drive => { i with driveMarks := {} }
  | .flame => { i with flameMarks := {} }
  | .fan => { i with fanMarks := {} }
  | .slot => i

/-- The frame sent for an entry or the slot: source 0, channel 0 for an entry, check computed (R8, R16, R18). -/
def senderFrame (D : DrumState) : Sender → List Byte
  | .drive => linkFrame D.config.motorNode 0 16 0 D.port.image.drive.payload
  | .flame => linkFrame D.config.burnerNode 0 17 0 (flamePayload D.port.image.flameStage D.port.image.resetLockout)
  | .fan => linkFrame D.config.fanNode 0 18 0 (fanPayload D.port.image.fan)
  | .slot =>
    match D.port.slot with
    | some f => linkFrame f.dest 0 f.kind f.channel f.payload
    | none => []

/-- Begin sending the next frame of a port, if something waits (R16). -/
def beginSend (d : Drum) (s : State) : State :=
  let D := s.drum d
  let i := D.port.image.dropUnbound D.config
  match nextSender i D.port.slot with
  | none => s.onImage d fun _ => i
  | some x =>
    s.onPort d fun p =>
      { p with
        image := i.clearMarks x
        sending := some ⟨x, x == .flame && i.resetLockout, senderFrame D x⟩ }

/-- COMMAND_FRAME_SEND (R16): in UP with node hold clear and the lane free. -/
def execCommandFrameSend (d : Drum) (s : State) : Host.Outcome State Fault Refusal :=
  running
    (fun s => onlyIf ((s.drum d).port.sends && (s.drum d).port.sending.isNone) (beginSend d) s) s

/-- COMMAND_FRAME_SENT (R15, R18): the lane falls free; the slot is freed if its frame was sent, the reset-lockout flag
cleared if the frame carried it. That holds also for a flag that a second HEAT_LOCKOUT_CLEAR has set again while the frame was
under way: it is cleared at the end of that frame, and the FLAME_CMD that follows carries it clear (log 44). -/
def execCommandFrameSent (d : Drum) (s : State) : Host.Outcome State Fault Refusal :=
  running
    (fun s =>
      match (s.drum d).port.sending with
      | none => s
      | some f =>
        s.onPort d fun p =>
          { p with
            sending := none
            slot := if f.sender = .slot then none else p.slot
            image := if f.carriesReset then { p.image with resetLockout := false } else p.image })
    s

/-- Refresh-mark one entry if its binding is not 0. -/
def Marks.refreshIf (m : Marks) (node : Nat) : Marks := if node = 0 then m else { m with refresh := true }

/-- The refresh timer expires (R17): reloaded, and with node hold clear every bound entry refresh-marked. -/
def refreshExpires (d : Drum) (s : State) : State :=
  let c := (s.drum d).config
  s.onPort d fun p =>
    { p with
      refresh := some (c.refreshSteps * 10)
      image :=
        if p.hold then p.image
        else
          { p.image with
            driveMarks := p.image.driveMarks.refreshIf c.motorNode
            flameMarks := p.image.flameMarks.refreshIf c.burnerNode
            fanMarks := p.image.fanMarks.refreshIf c.fanNode } }

/-- REFRESH_EXPIRY (R17). -/
def execRefreshExpiry (d : Drum) (s : State) : Host.Outcome State Fault Refusal :=
  running (fun s => onlyIf (s.portUp d && due (s.drum d).port.refresh) (refreshExpires d) s) s

/-- STANDBY_EXPIRY (R19): the main lane stops, the port enters SERVICE with the link-lost notice and no event. -/
def execStandbyExpiry (d : Drum) (s : State) : Host.Outcome State Fault Refusal :=
  running (fun s => onlyIf (s.portUp d && due (s.drum d).port.standby) (movePort d .service) s) s

/-! ### Line test (1.8) -/

/-- The service-lane signal that starts a line test (R21). -/
def TestDirection.startSignal : TestDirection → ServiceSignal
  | .send => .armChecker
  | .receive => .generate

/-- Start a line test (R21): record re-initialised, TEST entered with the notice R7 gives, 1 s arm timer, signal sent. -/
def startTest (d : Drum) (dir : TestDirection) (mode : FlagMode) (s : State) : State :=
  (movePort d .test s).onPort d fun p =>
    { p with
      lineTest := { direction := dir, mode := mode, outcome := .arming }
      arm := some 1000
      checker := none
      lockGap := false
      signal := some dir.startSignal }

/-- Leave TEST for SEEK with an outcome, pattern and checker stopped and the disarm signal sent (R22, R24). -/
def leaveTest (d : Drum) (outcome : TestOutcome) (s : State) : State :=
  (setPortState d .seek s).onPort d fun p =>
    { p with
      lineTest := { p.lineTest with outcome := outcome }
      arm := none
      checker := none
      signal := some .disarm }

/-- The test arms (R22): RUNNING; in RECEIVE the checker's first interval of 100 ms begins (log 31). -/
def testArmed (d : Drum) (s : State) : State :=
  s.onPort d fun p =>
    { p with
      lineTest := { p.lineTest with outcome := .running }
      arm := none
      checker := if p.lineTest.direction = .receive then some 100 else none
      lockGap := !p.laneLocked }

/-- ARM_REPORT (R22): disregarded unless the outcome is ARMING; it needs the service lane's lock (R10). -/
def execArmReport (d : Drum) (s : State) : Host.Outcome State Fault Refusal :=
  running
    (fun s =>
      let p := (s.drum d).port
      onlyIf (p.state == .test && p.serviceLock && p.lineTest.outcome == .arming) (testArmed d) s)
    s

/-- ARM_TIMEOUT (R22). -/
def execArmTimeout (d : Drum) (s : State) : Host.Outcome State Fault Refusal :=
  running
    (fun s =>
      let p := (s.drum d).port
      onlyIf (p.state == .test && p.lineTest.outcome == .arming && due p.arm) (leaveTest d .armTimeout) s)
    s

/-- The close of one interval in a line-test record (R23). -/
def LineTest.close (t : LineTest) (n : Nat) : LineTest :=
  { t with
    errors := min 65535 (t.errors + n)
    errorFlag :=
      (match t.mode with
       | .latched => t.errorFlag || decide (0 < n)
       | .live => decide (0 < n)) }

/-- Close an interval (R23): the first that raises the error count above 0 raises LINE_TEST_ERROR. -/
def closeInterval (d : Drum) (n : Nat) (s : State) : State :=
  let first := (s.drum d).port.lineTest.errors == 0 && decide (0 < n)
  let s1 := s.onPort d fun p => { p with lineTest := p.lineTest.close n }
  if first then raise (.port d) .lineTestError d none s1 else s1

/-- A line test is running in a direction. -/
def Port.testing (p : Port) (dir : TestDirection) : Bool :=
  p.state == .test && p.lineTest.outcome == .running && p.lineTest.direction == dir

/-- TEST_REPORT (R23): in SEND the node's report closes an interval. -/
def execTestReport (d : Drum) (errors : Byte) (s : State) : Host.Outcome State Fault Refusal :=
  running
    (fun s =>
      let p := (s.drum d).port
      onlyIf (p.testing .send && p.serviceLock) (closeInterval d errors.toNat) s)
    s

/-- The part's checker closes an interval (R23): the errors it found, plus one if the lane was without lock in it. -/
def checkerCloses (d : Drum) (errors : Nat) (s : State) : State :=
  let p := (s.drum d).port
  closeInterval d (if p.lockGap then errors + 1 else errors)
    (s.onPort d fun p => { p with checker := some 100, lockGap := !p.laneLocked })

/-- CHECKER_INTERVAL (R23): in RECEIVE, every 100 ms. -/
def execCheckerInterval (d : Drum) (errors : Nat) (s : State) : Host.Outcome State Fault Refusal :=
  running
    (fun s =>
      let p := (s.drum d).port
      onlyIf (p.testing .receive && due p.checker) (checkerCloses d errors) s)
    s

end Sys2Proof.Machine
end

