-- ==== Sys2Proof/Machine/Lookup.lean ====
section
/-! DEFINITION. The classifier's folds, chains and lookups (chapter 2, 2.1 to 2.4). -/

namespace Sys2Proof.Machine

/-! ### Tuple, bucket index, signature -/

/-- The tuple number of port, node, kind and channel (R27). -/
def tupleNumber (p n k c : Nat) : BitVec 15 := BitVec.ofNat 15 (((p * 16 + n) * 32 + k) * 16 + c)

/-- Bit positions 0 to 14 of a tuple number. -/
def tupleBits : List Nat := [0, 1, 2, 3, 4, 5, 6, 7, 8, 9, 10, 11, 12, 13, 14]

/-- The fold of a tuple (R28, R29): the exclusive-or of the w-bit windows of the spread word that start at each bit at
which the tuple holds a 1. -/
def fold (w : Nat) (spread : BitVec 32) (t : BitVec 15) : BitVec w :=
  tupleBits.foldl (fun acc i => if t.getLsbD i then acc ^^^ (spread >>> i).setWidth w else acc) 0

/-- The bucket index of a tuple (R28). -/
def bucketIndex (spread : BitVec 32) (t : BitVec 15) : BitVec 8 := fold 8 spread t

/-- The signature of a tuple (R29). -/
def signature (spread : BitVec 32) (t : BitVec 15) : BitVec 16 := fold 16 spread t

/-! ### Chains -/

/-- The chain of a bucket, head first (R32). -/
def Classifier.chain (c : Classifier) (b : BitVec 8) : List ClassEntry := c.entries.filter fun e => e.bucket == b

/-- The in-use entry with a number, if any. -/
def Classifier.entry? (c : Classifier) (n : Nat) : Option ClassEntry := c.entries.find? fun e => e.number == n

/-- An entry matches a tuple (R34). -/
def ClassEntry.matches (e : ClassEntry) (t : BitVec 15) (sig : BitVec 16) : Bool :=
  match e.key with
  | .exact u => u == t
  | .signature g => g == sig

/-- The winning entry of a tuple, or a miss (R34): the first entry of its bucket's chain that matches. -/
def Classifier.winner (c : Classifier) (t : BitVec 15) : Option ClassEntry :=
  (c.chain (bucketIndex c.bucketSpread t)).find? fun e => e.matches t (signature c.signatureSpread t)

/-- Count a hit on an entry (R33). -/
def Classifier.hit (c : Classifier) (n : Nat) : Classifier :=
  { c with
    entries := c.entries.map fun e => if e.number = n then { e with hits := satSucc 65535 e.hits } else e }

/-! ### Fields of a handed frame (Table 12-1) -/

/-- Source node. -/
def HandedFrame.source (f : HandedFrame) : Nat := natAt f.bytes 0 % 16

/-- Kind. -/
def HandedFrame.kind (f : HandedFrame) : Nat := natAt f.bytes 1 % 32

/-- Channel. -/
def HandedFrame.channel (f : HandedFrame) : Nat := natAt f.bytes 2 % 16

/-- Payload. -/
def HandedFrame.payload (f : HandedFrame) : List Byte := f.bytes.drop 4

/-- The frame's tuple number (R27). -/
def HandedFrame.tuple (f : HandedFrame) : BitVec 15 := tupleNumber f.port.val f.source f.kind f.channel

/-! ### Absorb part (R36, R37) -/

/-- Limit a scaled value to a range. -/
def clamp (lo hi v : Int) : Int := max lo (min hi v)

/-- Scale a raw value (R36): times the gain, divided by 256 toward zero, plus the offset. -/
def ClassEntry.scale (e : ClassEntry) (raw : Int) : Int := (raw * e.gain).tdiv 256 + e.offset

/-- The value a measurement role takes from a frame, with the frame's arrival time, for its receiving block, or none where
the absorb part is skipped (R36). -/
def measurement (e : ClassEntry) (f : HandedFrame) : Option Absorbed :=
  if f.kind ≠ 1 ∨ f.payload.length < 2 * e.valueIndex + 2 then none
  else
    let raw := nat16At f.payload (2 * e.valueIndex)
    let temperature : Temperature := ⟨clamp (-32768) 32767 (e.scale (signed16 raw)), f.arrival⟩
    match e.role with
    | .inletTemp => some (.inletTemp temperature)
    | .exhaustTemp => some (.exhaustTemp temperature)
    | .motorCurrent => some (.motorCurrent (clamp 0 65535 (e.scale raw)).toNat f.arrival)
    | .wetCount => some (.wetCount (clamp 0 255 (e.scale raw)).toNat f.arrival)
    | .none | .driveStatus | .flameStatus => none

/-- The motor state of a coded byte (Table 12-2). -/
def motorState (n : Nat) : Option MotorState :=
  match n with
  | 0 => some .stopped
  | 1 => some .running
  | 2 => some .slowing
  | 3 => some .stalled
  | 4 => some .tripped
  | _ => none

/-- The flame state of a coded byte (Table 12-2). -/
def flameState (n : Nat) : Option FlameState :=
  match n with
  | 0 => some .off
  | 1 => some .purging
  | 2 => some .trial
  | 3 => some .proven
  | 4 => some .failed
  | 5 => some .locked
  | _ => none

/-- The content of a DRIVE_STAT frame of the length and codes of Table 12-2 (R37). -/
def driveStatOf (f : HandedFrame) : Option DriveStatus :=
  if f.kind = 2 ∧ f.payload.length = 5 ∧ natAt f.payload 1 ≤ 1 then
    (motorState (natAt f.payload 0)).map fun m => ⟨m, BitVec.ofNat 16 (nat16At f.payload 3), f.arrival⟩
  else none

/-- The content of a FLAME_STAT frame of the length and codes of Table 12-2 (R37). -/
def flameStatOf (f : HandedFrame) : Option FlameStatus :=
  if f.kind = 3 ∧ f.payload.length = 2 ∧ natAt f.payload 1 ≤ 2 then
    (flameState (natAt f.payload 0)).map fun x => ⟨x, natAt f.payload 1, f.arrival⟩
  else none

/-- Hand a value to a block of the frame's drum (R36). -/
def handAbsorbed (d : Drum) (a : Absorbed) (s : State) : State :=
  s.onFlight fun f => { f with absorbs := f.absorbs ++ [(d, a)] }

/-- Hand a status value on if the frame's source is the bound node, otherwise raise BINDING_MISMATCH (R37). -/
def handStatus (f : HandedFrame) (bound : Nat) (a : Option Absorbed) (s : State) : State :=
  match a with
  | none => s
  | some a =>
    if bound ≠ 0 ∧ f.source = bound then handAbsorbed f.port a s
    else raise .classifier .bindingMismatch f.port (some (byte f.source)) s

/-- The absorb part of a frame won by an entry (R36, R37). -/
def absorbPart (e : ClassEntry) (f : HandedFrame) (s : State) : State :=
  let c := (s.drum f.port).config
  match e.role with
  | .none => s
  | .driveStatus => handStatus f c.motorNode ((driveStatOf f).map .driveStat) s
  | .flameStatus => handStatus f c.burnerNode ((flameStatOf f).map .flameStat) s
  | .wetCount | .inletTemp | .exhaustTemp | .motorCurrent =>
    match measurement e f with
    | none => s
    | some a => handAbsorbed f.port a s

/-! ### Forward part (R39) -/

/-- Offer a forward record to the forward queue: it joins the tail below 32 records, otherwise it is dropped with
FORWARD_OVERRUN (R39). -/
def forwardPart (entry : Option Nat) (f : HandedFrame) (s : State) : State :=
  if s.cabinet.forwards.length < 32 then
    s.onCabinet fun c =>
      { c with
        forwards := c.forwards ++ [⟨f.port, entry, entry.isNone, !f.passed, f.arrival, f.bytes⟩] }
  else raise .classifier .forwardOverrun f.port none s

/-! ### Lookup (R34, R35, R38) -/

/-- The outcome of a frame won by an entry (Table 2-2). R35 needs no order between the two parts of BOTH: the model does the
absorb part first, so a BINDING_MISMATCH goes before a FORWARD_OVERRUN of the same lookup (log 41). -/
def matched (e : ClassEntry) (f : HandedFrame) (s : State) : State :=
  match e.action with
  | .absorb => if f.passed then absorbPart e f s else s
  | .forward => forwardPart (some e.number) f s
  | .both => forwardPart (some e.number) f (if f.passed then absorbPart e f s else s)
  | .drop => s

/-- A miss (R38): CLASS_MISS, and the forward part under FORWARD_MARKED. R38 and R39 give the two no order: the model raises
CLASS_MISS first, before a FORWARD_OVERRUN of the same lookup (log 41). -/
def missed (f : HandedFrame) (s : State) : State :=
  let s1 := raise .classifier .classMiss f.port (some (byte f.source)) s
  match s.classifier.miss[f.port] with
  | .forwardMarked => forwardPart none f s1
  | .drop => s1

/-- A lookup (R34): the winning entry's hit is counted and its outcome carried out, or the miss action. -/
def lookUp (f : HandedFrame) (s : State) : State :=
  match s.classifier.winner f.tuple with
  | some e => matched e f (s.onClassifier fun c => c.hit e.number)
  | none => missed f s

/-- LOOKUP (R34): the classifier takes the oldest frame a port has handed it (R40). -/
def execLookup (d : Drum) (s : State) : Host.Outcome State Fault Refusal :=
  running
    (fun s =>
      match s.flight.frames.find? fun f => f.port == d with
      | none => s
      | some f => lookUp f (s.onFlight fun w => { w with frames := w.frames.erase f }))
    s

end Sys2Proof.Machine
end

