-- ==== Sys2Proof/Machine/Router.lean ====
section
/-! DEFINITION. The event router (chapter 10): events taken, the alert list, alert frames. -/

namespace Sys2Proof.Machine

/-- The code of an event (Table 10-1). -/
def EventKind.code : EventKind → Fin 32
  | .doorOpened => 0
  | .doorClosed => 1
  | .lintOut => 2
  | .airflowLost => 3
  | .highLimit => 4
  | .flameLost => 5
  | .ignitionRetry => 6
  | .heatLockout => 7
  | .driveStall => 8
  | .noStop => 9
  | .tangleReversal => 10
  | .tanglePersist => 11
  | .dryReached => 12
  | .cycleDone => 13
  | .cycleHalted => 14
  | .linkLost => 15
  | .linkUp => 16
  | .nodeLost => 17
  | .nodePresent => 18
  | .classMiss => 19
  | .forwardOverrun => 20
  | .bindingMismatch => 21
  | .attrCrossed => 22
  | .sampleStarved => 23
  | .pauseExpired => 24
  | .heatWait => 25
  | .exhaustHigh => 26
  | .lineTestError => 27
  | .heatRevoked => 28
  | .cyclePaused => 29

/-- An entry is the one of an event and drum (R173). -/
def AlertEntry.isFor (e : AlertEntry) (event : Nat) (d : Drum) : Bool := e.event == event && e.drum == d

/-- The alert list entry of an event and drum, if any. -/
def Router.entry? (r : Router) (event : Nat) (d : Drum) : Option AlertEntry := r.alerts.find? fun e => e.isFor event d

/-- Change the entry of an event and drum; it keeps its place (R173). -/
def Router.update (r : Router) (event : Nat) (d : Drum) (f : AlertEntry → AlertEntry) : Router :=
  { r with alerts := r.alerts.map fun e => if e.isFor event d then f e else e }

/-- The send state after a merge or a partial acknowledgement (R174, R177). -/
def SendState.again : SendState → SendState
  | .unsent => .unsent
  | .sending | .sent | .resend => .resend

/-- Merge an occurrence into an entry (R174). -/
def AlertEntry.merge (e : AlertEntry) (rt : Route) (ev : Event) : AlertEntry :=
  { e with
    count := satSucc 255 e.count
    last := ev.time
    detail := ev.detail
    cls := rt.cls
    line := rt.line
    send := e.send.again }

/-- The new entry of an occurrence (R174). -/
def newEntry (rt : Route) (ev : Event) : AlertEntry :=
  { event := ev.kind.code.val, drum := ev.drum, cls := rt.cls, line := rt.line, count := 1, first := ev.time,
    last := ev.time, detail := ev.detail, send := .unsent, countSent := 0 }

/-- Set MGMT_OVERRUN; while a reply is being sent its recurrence is noted (R53). -/
def Cabinet.setMgmtOverrun (c : Cabinet) : Cabinet :=
  { c with
    mgmtOverrun := true
    outgoing :=
      (match c.outgoing with
       | some (.reply m a _ aa bytes) => some (.reply m a true aa bytes)
       | o => o) }

/-- Set ALERT_OVERRUN; while a reply is being sent its recurrence is noted (R53). -/
def Cabinet.setAlertOverrun (c : Cabinet) : Cabinet :=
  { c with
    alertOverrun := true
    outgoing :=
      (match c.outgoing with
       | some (.reply m a ma _ bytes) => some (.reply m a ma true bytes)
       | o => o) }

/-- Enter an occurrence in the alert list by the route in force (R174). -/
def enterAlert (ev : Event) (s : State) : State :=
  let rt := s.router.routes[ev.kind.code]
  if rt.cls = .none then s
  else
    match s.router.entry? ev.kind.code.val ev.drum with
    | some _ => s.onRouter fun r => r.update ev.kind.code.val ev.drum fun e => e.merge rt ev
    | none =>
      if s.router.alerts.length < 32 then
        s.onRouter fun r => { r with alerts := r.alerts ++ [newEntry rt ev] }
      else s.onCabinet Cabinet.setAlertOverrun

/-- Take an event (R168): hand its routed action to the drum's cycle controller (R172) and enter it in the alert list
(R174). -/
def takeEvent (ev : Event) (s : State) : State :=
  enterAlert ev (routedAction ev.drum (s.router.routes[ev.kind.code]).action s)

/-- An event that follows another at the router: the HEAT_LOCKOUT of a lockout by attribute follows the ATTR_CROSSED that
caused it (R185). -/
def Event.follows (ev e : Event) : Bool :=
  ev.kind == .heatLockout && ev.detail == some (byte LockoutPath.byAttribute.code) && e.kind == .attrCrossed &&
    e.drum == ev.drum

/-- The event that reaches the router next from a block: its oldest, unless one raised before it that it follows is still to
be taken. An ATTR_CROSSED of the drum raised before the HEAT_LOCKOUT is the one that caused it or stands before that one,
since the store's events keep their order (R168, R185). -/
def Flight.nextEvent (f : Flight) (src : Block) : Option Event :=
  (f.events.find? fun e => e.src == src).filter fun ev => !(f.events.takeWhile (· != ev)).any ev.follows

/-- EVENT_TAKEN (R174): the router takes the oldest event a block has raised. -/
def execEventTaken (src : Block) (s : State) : Host.Outcome State Fault Refusal :=
  running
    (fun s =>
      match s.flight.nextEvent src with
      | none => s
      | some ev => takeEvent ev (s.onFlight fun f => { f with events := f.events.erase ev }))
    s

/-- The purge of a drum's entries at DRUM_RESET (R179). -/
def purgeAlerts (d : Drum) (s : State) : State :=
  s.onRouter fun r => { r with alerts := r.alerts.filter fun e => e.drum != d }

/-! ### Alert frames (R175, R176) -/

/-- The class code in an alert record (Table 12-4). -/
def AlertClass.code : AlertClass → Nat
  | .none => 0
  | .notice => 1
  | .warning => 2
  | .fault => 3

/-- The body of an alert frame (Table 12-4). -/
def AlertEntry.body (e : AlertEntry) : List Byte :=
  [byte e.event, byte e.drum.val, byte e.cls.code, byte e.count] ++ clockBytes e.first ++ clockBytes e.last ++
    e.detail.toList

/-- A frame that ends complete (R176): SENDING becomes SENT, RESEND stays, and the count sent is the count carried. An
entry UNSENT is a new one made after the supplied entry left, and is not touched. -/
def AlertEntry.sentComplete (e : AlertEntry) (count : Nat) : AlertEntry :=
  match e.send with
  | .sending => { e with send := .sent, countSent := count }
  | .resend => { e with countSent := count }
  | .unsent | .sent => e

/-- A frame cut by a loss of lock (R176): SENDING becomes UNSENT with count sent 0, RESEND otherwise. -/
def AlertEntry.sendCut (e : AlertEntry) : AlertEntry :=
  match e.send with
  | .sending => { e with send := if e.countSent = 0 then .unsent else .resend }
  | .unsent | .sent | .resend => e

/-- ALERT_FRAME_END (R176). -/
def execAlertFrameEnd (s : State) : Host.Outcome State Fault Refusal :=
  running
    (fun s =>
      match s.cabinet.outgoing with
      | some (.alert event d count _) =>
        (s.onRouter fun r => r.update event d fun e => e.sentComplete count).onCabinet fun c =>
          { c with outgoing := none }
      | _ => s)
    s

end Sys2Proof.Machine
end

