-- ==== Sys2Proof/Machine/Attributes.lean ====
section
/-! DEFINITION. The attribute store (chapter 11): increments, crossings, the threshold image, clearing. -/

namespace Sys2Proof.Machine

/-- One attribute record of a drum. -/
def State.attr (s : State) (d : Drum) (a : Fin 8) : AttrRecord := s.attributes.records[d][a]

/-- Change one attribute record. -/
def State.onAttr (s : State) (d : Drum) (a : Fin 8) (f : AttrRecord → AttrRecord) : State :=
  s.onAttributes fun t => { t with records := t.records.set d (t.records[d].set a (f t.records[d][a])) }

/-- A crossing (R185): flag set, ATTR_CROSSED raised, consequence applied. -/
def cross (d : Drum) (a : Fin 8) (s : State) : State :=
  let s1 :=
    raise .attributes .attrCrossed d (some (byte a.val)) (s.onAttr d a fun r => { r with crossed := true })
  match (s.attributes.table[a]).consequence with
  | .none => s1
  | .heatLockout => lockOut d .byAttribute s1
  | .noStart => s1.onAttr d a fun r => { r with noStart := true }

/-- A record is found crossed: a valid table, a limit above 0, the flag clear and the count at or above the limit (R183,
R184). -/
def State.crosses (s : State) (d : Drum) (a : Fin 8) : Bool :=
  let limit := (s.attributes.table[a]).limit
  s.attributes.valid && decide (0 < limit) && !(s.attr d a).crossed && decide (limit ≤ (s.attr d a).raw)

/-- Take an increment (R181): the raw count rises by one, saturating, and the record is judged (R184). -/
def takeIncrement (d : Drum) (a : Fin 8) (s : State) : State :=
  let s1 := s.onAttr d a fun r => { r with raw := satSucc 4294967295 r.raw }
  if s1.crosses d a then cross d a s1 else s1

/-- ATTRIBUTE_INCREMENT (R181): the store takes the oldest increment a block has handed on. -/
def execAttributeIncrement (src : Block) (s : State) : Host.Outcome State Fault Refusal :=
  running
    (fun s =>
      match s.flight.increments.find? fun i => i.src == src with
      | none => s
      | some i => takeIncrement i.drum i.attr (s.onFlight fun f => { f with increments := f.increments.erase i }))
    s

/-- The 32 records in the order a load judges them (R183): drum order, then attribute order. -/
def attrOrder : List (Drum × Fin 8) := drums.flatMap fun d => [0, 1, 2, 3, 4, 5, 6, 7].map fun a => (d, a)

/-- Judge records in order at a load, crossing those found crossed and counting them (R183). -/
def evaluate (order : List (Drum × Fin 8)) (s : State) : State × Nat :=
  order.foldl (fun p r => if p.1.crosses r.1 r.2 then (cross r.1 r.2 p.1, p.2 + 1) else p) (s, 0)

/-- Clear one record (R187). -/
def clearAttr (d : Drum) (a : Fin 8) (s : State) : State := s.onAttr d a fun _ => {}

/-- Clear all eight records of a drum (R187). -/
def clearAttrs (d : Drum) (s : State) : State :=
  s.onAttributes fun t => { t with records := t.records.set d (Vector.replicate 8 {}) }

/-- A NO_START bit of the drum is set (R72). -/
def State.noStart (s : State) (d : Drum) : Bool := s.attributes.records[d].toList.any fun r => r.noStart

end Sys2Proof.Machine
end

