-- ==== Sys2Proof/Machine/Operands.lean ====
section
/-! DEFINITION. The arguments of requests (12.4, 12.5): lengths, coded bytes, records and their ranges. Each reader
answers none where the request is refused BAD_ARG. -/

namespace Sys2Proof.Machine

/-! ### Lengths and drums -/

/-- The argument length a request code allows (Table 12-5); an unknown code allows none (R51). -/
def lengthAllowed (code len : Nat) : Bool :=
  match code with
  | 1 => len == 5
  | 2 => len == 23
  | 3 => len == 22
  | 4 => len == 4
  | 5 => len == 12
  | 6 => len == 2
  | 7 => len == 4
  | 8 => len == 3
  | 9 => len == 16 || len == 20 || len == 24 || len == 28
  | 10 | 11 | 12 | 13 | 14 | 15 | 16 | 17 => len == 1
  | 18 => len == 3
  | 19 => decide (4 ≤ len) && decide (len ≤ 62)
  | 20 => len == 3
  | 21 => len == 48
  | 22 => len == 1
  | 23 => len == 2
  | 24 => len == 2
  | 25 => len == 0
  | _ => false

/-- A drum or port argument: 0 to 3. -/
def drumOf (n : Nat) : Option Drum := if h : n < 4 then some ⟨n, h⟩ else none

/-- The drum a request names (Table 3-1, R52): none where the argument is above 3 or the request names no drum. -/
def Request.names (r : Request) : Option Drum :=
  match r.code.toNat with
  | 1 => if natAt r.args 0 = 6 then drumOf (natAt r.args 3) else none
  | 2 | 9 | 10 | 11 | 12 | 13 | 14 | 15 | 16 | 17 | 18 | 19 | 22 | 23 => drumOf (natAt r.args 0)
  | 5 => if (byteAt r.args 0).getLsbD 6 then none else drumOf (natAt r.args 2)
  | 7 => drumOf (natAt r.args 0)
  | 20 => drumOf (natAt r.args 1)
  | 24 => if natAt r.args 0 = 1 ∨ natAt r.args 0 = 2 then drumOf (natAt r.args 1) else none
  | _ => none

/-- A number within a range. -/
def within (lo hi n : Nat) : Bool := decide (lo ≤ n) && decide (n ≤ hi)

/-! ### Drum configuration record (Tables 4-1 and 12-6) -/

/-- The gate mode of a coded byte. -/
def gateModeOf (n : Nat) : Option GateMode :=
  match n with
  | 0 => some .auto
  | 1 => some .service
  | _ => none

/-- Every field within its range, and c2 not below c1 (R67). -/
def DrumConfig.inRange (c : DrumConfig) : Bool :=
  within 0 14 c.motorNode && within 0 14 c.burnerNode && within 0 14 c.fanNode && within 5 100 c.refreshSteps &&
    within 0 20 c.graceSteps && within 1 25 c.debounceSteps && within 0 255 c.standbyCode && within 1 127 c.c1 &&
    within c.c1 255 c.c2 && within 5 60 c.proveTimeout && within 5 120 c.minAir && within 0 255 c.fanOverrun &&
    within 0 120 c.pauseLimit && within 5 120 c.starvation && within 5 30 c.trialLimit && within 0 3 c.retryLimit &&
    within 10 120 c.retryDelay && within 10 600 c.stableTime && decide (120 ≤ c.exhaustCap) &&
    decide (c.exhaustCap ≤ 300)

/-- The drum configuration record at argument offset 1 (Table 12-6). -/
def configOf (a : List Byte) : Option DrumConfig :=
  match gateModeOf (natAt a 4) with
  | none => none
  | some g =>
    let c : DrumConfig :=
      { motorNode := natAt a 1
        burnerNode := natAt a 2
        fanNode := natAt a 3
        gateMode := g
        refreshSteps := natAt a 5
        graceSteps := natAt a 6
        debounceSteps := natAt a 7
        standbyCode := natAt a 8
        c1 := natAt a 9
        c2 := natAt a 10
        proveTimeout := natAt a 11
        minAir := natAt a 12
        fanOverrun := natAt a 13
        pauseLimit := natAt a 14
        starvation := natAt a 15
        trialLimit := natAt a 16
        retryLimit := natAt a 17
        retryDelay := natAt a 18
        stableTime := nat16At a 19
        exhaustCap := signed16 (nat16At a 21) }
    if c.inRange then some c else none

/-! ### Cycle record (Tables 4-2 and 12-7) -/

/-- The dryness mode of a coded byte. -/
def drynessModeOf (n : Nat) : Option DrynessMode :=
  match n with
  | 0 => some .electrode
  | 1 => some .time
  | _ => none

/-- The dryness part within its ranges (Table 4-2); optional fields count only when present. -/
def DrynessPart.inRange (p : DrynessPart) (maxDrying : Nat) : Bool :=
  within 0 4080 p.dryLimit && within 1 8 p.confirmCount && within 0 15 p.settleCount && within 0 60 p.minDrying &&
    decide (p.minDrying < maxDrying) &&
    (match p.exhaustThreshold with
     | some t => decide (60 ≤ t) && decide (t ≤ 240)
     | none => true) &&
    (match p.extraDry with
     | some n => within 0 50 n
     | none => true)

/-- The guard part within its ranges (Table 4-2). -/
def GuardPart.inRange (g : GuardPart) : Bool :=
  within 30 600 g.interval && within 5 60 g.tumbleLength && decide (g.tumbleLength < g.interval) && within 1 120 g.limit

/-- Every field of a cycle record within its range, and the dryness part present in ELECTRODE mode (R68, R69). -/
def CycleRecord.inRange (r : CycleRecord) : Bool :=
  within 1 240 r.maxDrying && decide (80 ≤ r.setpoint) && decide (r.setpoint ≤ 240) && decide (4 ≤ r.highBand) &&
    decide (r.highBand ≤ 60) && decide (1 ≤ r.hysteresis) && decide (r.hysteresis ≤ 20) &&
    decide (r.hysteresis < r.highBand) && within 0 2 r.maxStage && within 0 1 r.dwellCap &&
    (within 0 7 r.profile || r.profile == 255) && decide (40 ≤ r.coolTarget) && decide (r.coolTarget ≤ 160) &&
    within 0 30 r.minCool && within 1 60 r.maxCool && decide (r.minCool ≤ r.maxCool) &&
    (match r.dryness with
     | some p => p.inRange r.maxDrying
     | none => r.mode == .time) &&
    (match r.guardPart with
     | some g => g.inRange
     | none => true)

/-- The cycle record at argument offset 1 (Table 12-7): presence flags that agree with the length, an optional flag only
with the dryness flag (R190), and every field in range. Bits 7 to 4 of the flags, which Table 12-7 does not name, are
disregarded (log 39). -/
def recordOf (a : List Byte) : Option CycleRecord :=
  let flags := byteAt a 1
  let hasDry := flags.getLsbD 0
  let hasThreshold := flags.getLsbD 1
  let hasExtra := flags.getLsbD 2
  let hasGuard := flags.getLsbD 3
  let guardAt := if hasDry then 24 else 16
  let length := guardAt + if hasGuard then 4 else 0
  if a.length ≠ length ∨ ((hasThreshold || hasExtra) && !hasDry) = true then none
  else
    match drynessModeOf (natAt a 3) with
    | none => none
    | some m =>
      let r : CycleRecord :=
        { label := natAt a 2
          mode := m
          maxDrying := natAt a 4
          setpoint := signed16 (nat16At a 5)
          highBand := natAt a 7
          hysteresis := natAt a 8
          maxStage := natAt a 9
          dwellCap := natAt a 10
          profile := natAt a 11
          coolTarget := signed16 (nat16At a 12)
          minCool := natAt a 14
          maxCool := natAt a 15
          dryness :=
            if hasDry then
              some
                { dryLimit := nat16At a 16
                  confirmCount := natAt a 18
                  settleCount := natAt a 19
                  minDrying := natAt a 20
                  exhaustThreshold := if hasThreshold then some (signed16 (nat16At a 21)) else none
                  extraDry := if hasExtra then some (natAt a 23) else none }
            else none
          guardPart :=
            if hasGuard then
              some
                { interval := nat16At a guardAt
                  tumbleLength := natAt a (guardAt + 2)
                  limit := natAt a (guardAt + 3) }
            else none }
      if r.inRange then some r else none

/-! ### Reversal profile (Tables 5-2 and 12-8) -/

/-- The timebase of a coded byte. -/
def timebaseOf (n : Nat) : Option Timebase :=
  match n with
  | 0 => some .seconds
  | 1 => some .revolutions
  | _ => none

/-- The persist action of a coded byte. -/
def persistActionOf (n : Nat) : Option PersistAction :=
  match n with
  | 0 => some .eventOnly
  | 1 => some .extendDwell
  | 2 => some .slow
  | _ => none

/-- A run length within the range of its timebase (R91). -/
def runInRange (b : Timebase) (n : Nat) : Bool :=
  match b with
  | .seconds => within 5 600 n
  | .revolutions => within 2 1000 n

/-- Every field of a profile within its range (Table 5-2, R91). -/
def Profile.inRange (p : Profile) : Bool :=
  runInRange p.timebase p.fwdRun && runInRange p.timebase p.revRun && within 5 900 p.maxRun && within 2 60 p.dwell &&
    within 20 60 p.fwdSpeed && within 20 60 p.revSpeed && within 5 300 p.minRun && within 2 30 p.decelTimeout &&
    within 2 30 p.recoverDelay && within 0 3 p.retryLimit && within 1 65535 p.swingThreshold && within 1 15 p.trigger &&
    within 1 7 p.persistCount && within 1 10 p.speedStep

/-- The reversal profile record at argument offset 1 (Table 12-8). -/
def profileOf (a : List Byte) : Option Profile :=
  match timebaseOf (natAt a 1), persistActionOf (natAt a 20) with
  | some b, some x =>
    let p : Profile :=
      { timebase := b
        fwdRun := nat16At a 2
        revRun := nat16At a 4
        maxRun := nat16At a 6
        dwell := natAt a 8
        fwdSpeed := natAt a 9
        revSpeed := natAt a 10
        minRun := nat16At a 11
        decelTimeout := natAt a 13
        recoverDelay := natAt a 14
        retryLimit := natAt a 15
        swingThreshold := nat16At a 16
        trigger := natAt a 18
        persistCount := natAt a 19
        persistAction := x
        speedStep := natAt a 21 }
    if p.inRange then some p else none
  | _, _ => none

/-! ### Route (R170, Table 12-5) -/

/-- The class of a coded byte. -/
def alertClassOf (n : Nat) : Option AlertClass :=
  match n with
  | 0 => some .none
  | 1 => some .notice
  | 2 => some .warning
  | 3 => some .fault
  | _ => none

/-- The routed action of a coded byte. -/
def routedActionOf (n : Nat) : Option RoutedAction :=
  match n with
  | 0 => some .none
  | 1 => some .pause
  | 2 => some .endHeat
  | 3 => some .halt
  | _ => none

/-- An event code that can be routed or acknowledged: 0 to 29 (R171, R177). -/
def eventOf (n : Nat) : Option (Fin 32) := if h : n ≤ 29 then some ⟨n, by omega⟩ else none

/-- The route in the arguments of a ROUTE_WRITE; bits 7 to 1 of the line byte, which Table 12-5 does not name, are
disregarded (log 39). -/
def routeOf (a : List Byte) : Option Route :=
  match alertClassOf (natAt a 1), routedActionOf (natAt a 3) with
  | some c, some x => some ⟨c, (byteAt a 2).getLsbD 0, x⟩
  | _, _ => none

/-! ### Classification entry (Tables 2-1 and 12-9) -/

/-- The role of a coded nibble. -/
def roleOf (n : Nat) : Option Role :=
  match n with
  | 0 => some .none
  | 1 => some .wetCount
  | 2 => some .inletTemp
  | 3 => some .exhaustTemp
  | 4 => some .motorCurrent
  | 5 => some .driveStatus
  | 6 => some .flameStatus
  | _ => none

/-- The action of a coded nibble. -/
def entryActionOf (n : Nat) : Option EntryAction :=
  match n with
  | 0 => some .absorb
  | 1 => some .forward
  | 2 => some .both
  | 3 => some .drop
  | _ => none

/-- The kind an EXACT tuple must carry for a role, if the role asks for one (R41). -/
def Role.kind : Role → Option Nat
  | .none => Option.none
  | .wetCount | .inletTemp | .exhaustTemp | .motorCurrent => some 1
  | .driveStatus => some 2
  | .flameStatus => some 3

/-- A tuple of four numbers in range (R27). -/
def tupleOf (p n k c : Nat) : Option (BitVec 15) :=
  if p ≤ 3 ∧ n ≤ 15 ∧ k ≤ 31 ∧ c ≤ 15 then some (tupleNumber p n k c) else none

/-- The entry a CLASS_ADD asks for (R41, first check), with its target bucket (R32): SIGNATURE names its bucket, EXACT
folds to it. -/
def classEntryOf (a : List Byte) (spread : BitVec 32) : Option ClassEntry :=
  let number := nat16At a 0 % 16384
  let role := roleOf (natAt a 6 / 16)
  let action := entryActionOf (natAt a 6 % 16)
  let gain := nat16At a 8
  if 511 < number ∨ 7 < natAt a 7 ∨ gain = 0 then none
  else
    match role, action with
    | some role, some action =>
      if role = .none ∧ (action = .absorb ∨ action = .both) then none
      else
        let entry (bucket : BitVec 8) (key : MatchKey) : ClassEntry :=
          ⟨number, bucket, key, role, action, natAt a 7, gain, signed16 (nat16At a 10), 0⟩
        if (byteAt a 0).getLsbD 6 then some (entry (byteAt a 2) (.signature (BitVec.ofNat 16 (nat16At a 4))))
        else
          match tupleOf (natAt a 2) (natAt a 3) (natAt a 4) (natAt a 5) with
          | none => none
          | some t =>
            if role.kind = none ∨ role.kind = some (natAt a 4) then some (entry (bucketIndex spread t) (.exact t))
            else none
    | _, _ => none

/-! ### Pass-through (R58) -/

/-- The direction of a coded byte. -/
def directionOf (n : Nat) : Option Direction :=
  match n with
  | 0 => some .fwd
  | 1 => some .rev
  | _ => none

/-- A valid DRIVE_CMD payload (Table 12-2): STOP with zeros, or RUN with a direction and 20 to 60 rpm. -/
def driveCmdOf (p : List Byte) : Option DriveCmd :=
  if p.length ≠ 3 then none
  else if natAt p 0 = 0 then (if natAt p 1 = 0 ∧ natAt p 2 = 0 then some .stop else none)
  else if natAt p 0 = 1 ∧ within 20 60 (natAt p 2) = true then
    (directionOf (natAt p 1)).map fun dir => .run dir (natAt p 2)
  else none

/-- A valid FAN_CMD payload (Table 12-2). -/
def fanCmdOf (p : List Byte) : Option Bool :=
  if p.length ≠ 1 then none
  else
    match natAt p 0 with
    | 0 => some false
    | 1 => some true
    | _ => none

/-! ### Threshold image (R182, Table 12-9) -/

/-- The 8-bit sum of the image, carries discarded. -/
def byteSum (a : List Byte) : Byte := a.foldl (· + ·) 0

/-- The consequence of a coded byte. -/
def consequenceOf (n : Nat) : Option Consequence :=
  match n with
  | 0 => some .none
  | 1 => some .heatLockout
  | 2 => some .noStart
  | _ => none

/-- The limit and consequence of attribute a in the image. -/
def thresholdAt (img : List Byte) (a : Fin 8) : Option Threshold :=
  (consequenceOf (natAt img (6 + 5 * a.val))).map fun c => ⟨nat32At img (2 + 5 * a.val), c⟩

/-- The eight limits and consequences of an image whose limit count, consequences and zero bytes are right (R182). -/
def tableOf (img : List Byte) : Option (Vector Threshold 8) :=
  if natAt img 1 = 8 ∧ natAt img 42 = 0 ∧ natAt img 43 = 0 ∧ natAt img 44 = 0 ∧ natAt img 45 = 0 ∧ natAt img 46 = 0 then
    match thresholdAt img 0, thresholdAt img 1, thresholdAt img 2, thresholdAt img 3, thresholdAt img 4,
      thresholdAt img 5, thresholdAt img 6, thresholdAt img 7 with
    | some t0, some t1, some t2, some t3, some t4, some t5, some t6, some t7 =>
      some #v[t0, t1, t2, t3, t4, t5, t6, t7]
    | _, _, _, _, _, _, _, _ => none
  else none

end Sys2Proof.Machine
end

