-- ==== Sys2Proof/Machine/Management.lean ====
section
/-! DEFINITION. The management engine (chapter 3): how a request is taken from the inbox, served by its owner and
answered; the cabinet link's configuration and table requests (R51, R57). -/

namespace Sys2Proof.Machine

/-- What an owner returns (R51): the state after its work, a status and result data. -/
structure Answer where
  state : State
  status : Status
  data : List Byte := []

/-- An OK answer without result data. -/
def ok (s : State) : Answer := ⟨s, .ok, []⟩

/-- A refusal: nothing changes and no result data (R52). -/
def refuse (st : Status) (s : State) : Answer := ⟨s, st, []⟩

/-- A reply is the OK reply to a PART_RESET, which holds the engine until it has been sent (R64). -/
def Reply.resetsPart (r : Reply) : Bool := r.code == 25 && r.status == .ok

/-- The engine takes requests: fewer than 4 replies queued and no PART_RESET reply waiting (R51, R64). -/
def Cabinet.takes (c : Cabinet) : Bool := decide (c.replies.length < 4) && !c.replies.any Reply.resetsPart

/-- The request code is known and the argument length allowed (R51). -/
def Request.valid (r : Request) : Bool := lengthAllowed r.code.toNat r.args.length

/-- Take a request from the head of the inbox, have its owner serve it, and place the reply (R51, R52). A request that is
not answered BAD_REQUEST reloads the standby timer of the drum it names (R19). -/
def answer (r : Request) (rest : List Request) (h : State → Answer) (s : State) : State :=
  let a := h (s.onCabinet fun c => { c with inbox := rest })
  let s1 :=
    match (if r.valid then r.names else none) with
    | some d => reloadStandby d a.state
    | none => a.state
  s1.onCabinet fun c => { c with replies := c.replies ++ [⟨r.tag, r.code, a.status, a.data⟩] }

/-- The engine takes the oldest request if it is one this command serves (R51); otherwise nothing happens (log 4). -/
def serve (mine : Request → Bool) (h : Request → State → Answer) (s : State) : State :=
  match s.cabinet.inbox with
  | [] => s
  | r :: rest => if s.cabinet.takes && mine r then answer r rest (h r) s else s

/-- A valid request of a code. -/
def isCode (code : Nat) (r : Request) : Bool := r.valid && r.code.toNat == code

/-- A valid request of a code whose byte at an offset is a value, or a value the code does not define (log 4). -/
def isSub (code offset value known : Nat) (r : Request) : Bool :=
  isCode code r && (natAt r.args offset == value || decide (known < natAt r.args offset))

/-- Serve a request that names a drum: a drum above 3 is refused BAD_ARG. -/
def onDrumArg (h : Drum → State → Answer) (r : Request) (s : State) : Answer :=
  match drumOf (natAt r.args 0) with
  | some d => h d s
  | none => refuse .badArg s

/-- BAD_REQUEST (R51): the code is unknown or the argument length not allowed. -/
def execBadRequest (s : State) : Host.Outcome State Fault Refusal :=
  running (serve (fun r => !r.valid) fun _ s => refuse .badRequest s) s

/-! ### CONFIG_WRITE (R57) -/

/-- A CONFIG_WRITE of an item, or of an item Table 3-4 does not name. -/
def isItem (item : Nat) (r : Request) : Bool := isCode 1 r && (natAt r.args 0 == item || !within 1 6 (natAt r.args 0))

/-- The owner of an item serves its value; an item that is not in Table 3-4 is refused BAD_ARG (R57). -/
def serveItem (h : Nat → State → Answer) (r : Request) (s : State) : Answer :=
  if within 1 6 (natAt r.args 0) then h (nat32At r.args 1) s else refuse .badArg s

/-- HEAT_BUDGET (R129). -/
def writeBudget (v : Nat) (s : State) : Answer := if 255 < v then refuse .badArg s else ok (setBudget v s)

/-- CONFIG_WRITE_HEAT_BUDGET (R129). -/
def execConfigWriteHeatBudget (s : State) : Host.Outcome State Fault Refusal :=
  running (serve (isItem 1) (serveItem writeBudget)) s

/-- BYPASS_LIMIT (R133). -/
def writeBypass (v : Nat) (s : State) : Answer :=
  if 7 < v then refuse .badArg s else ok (grantAttempt (s.onHeat fun h => { h with bypassLimit := v }))

/-- CONFIG_WRITE_BYPASS_LIMIT (R133). -/
def execConfigWriteBypassLimit (s : State) : Host.Outcome State Fault Refusal :=
  running (serve (isItem 2) (serveItem writeBypass)) s

/-- HEAT_WAIT_LIMIT (R128). -/
def writeWaitLimit (v : Nat) (s : State) : Answer := if 600 < v then refuse .badArg s else ok (setWaitLimit v s)

/-- CONFIG_WRITE_HEAT_WAIT_LIMIT (R128). -/
def execConfigWriteHeatWaitLimit (s : State) : Host.Outcome State Fault Refusal :=
  running (serve (isItem 3) (serveItem writeWaitLimit)) s

/-- BUCKET_SPREAD (R30): refused BUSY while any entry is in use. -/
def writeBucketSpread (v : Nat) (s : State) : Answer :=
  if s.classifier.entries.isEmpty then
    ok (s.onClassifier fun c => { c with bucketSpread := BitVec.ofNat 32 v })
  else refuse .busy s

/-- CONFIG_WRITE_BUCKET_SPREAD (R30). -/
def execConfigWriteBucketSpread (s : State) : Host.Outcome State Fault Refusal :=
  running (serve (isItem 4) (serveItem writeBucketSpread)) s

/-- SIGNATURE_SPREAD (R30): refused BUSY while any entry is in use. -/
def writeSignatureSpread (v : Nat) (s : State) : Answer :=
  if s.classifier.entries.isEmpty then
    ok (s.onClassifier fun c => { c with signatureSpread := BitVec.ofNat 32 v })
  else refuse .busy s

/-- CONFIG_WRITE_SIGNATURE_SPREAD (R30). -/
def execConfigWriteSignatureSpread (s : State) : Host.Outcome State Fault Refusal :=
  running (serve (isItem 5) (serveItem writeSignatureSpread)) s

/-- The miss action of a coded byte (Table 12-5). -/
def missActionOf (n : Nat) : Option MissAction :=
  match n with
  | 0 => some .forwardMarked
  | 1 => some .drop
  | _ => none

/-- MISS_ACTION (R31): the port stands in argument byte 3, the action in byte 4. -/
def writeMissAction (r : Request) (s : State) : Answer :=
  match drumOf (natAt r.args 3), missActionOf (natAt r.args 4) with
  | some p, some m => ok (s.onClassifier fun c => { c with miss := c.miss.set p m })
  | _, _ => refuse .badArg s

/-- CONFIG_WRITE_MISS_ACTION (R31). -/
def execConfigWriteMissAction (s : State) : Host.Outcome State Fault Refusal :=
  running (serve (isItem 6) fun r => serveItem (fun _ => writeMissAction r) r) s

/-! ### DRUM_CONFIG_WRITE (R67), PROFILE_WRITE (R91), ROUTE_WRITE (R171) -/

/-- Change-mark an entry whose binding has changed to a node other than 0, if the port sends (R15). -/
def Port.rebound (p : Port) (old new : Nat) (m : Marks) : Marks := if old = new then m else p.changed new m

/-- Replace a drum's configuration record: changed bindings marked, and on a change from SERVICE to AUTO the image's
DRIVE and FAN stopped (R67). The standby conditions are judged with the new code (R19). -/
def replaceConfig (d : Drum) (c : DrumConfig) (s : State) : State :=
  let old := (s.drum d).config
  let s1 :=
    s.onDrum d fun D =>
      { D with
        config := c
        port :=
          { D.port with
            image :=
              { D.port.image with
                driveMarks := D.port.rebound old.motorNode c.motorNode D.port.image.driveMarks
                flameMarks := D.port.rebound old.burnerNode c.burnerNode D.port.image.flameMarks
                fanMarks := D.port.rebound old.fanNode c.fanNode D.port.image.fanMarks } } }
  let s2 :=
    if old.gateMode = .service ∧ c.gateMode = .auto then writeFan d false (writeDrive d .stop s1) else s1
  settleStandby d s2

/-- DRUM_CONFIG_WRITE as the cycle controller takes it (R67). -/
def writeDrumConfig (r : Request) : State → Answer :=
  onDrumArg
    (fun d s =>
      match configOf r.args with
      | none => refuse .badArg s
      | some c => if (s.drum d).cycle.state.idle then ok (replaceConfig d c s) else refuse .busy s)
    r

/-- DRUM_CONFIG_WRITE (R67). -/
def execDrumConfigWrite (s : State) : Host.Outcome State Fault Refusal :=
  running (serve (isCode 2) writeDrumConfig) s

/-- PROFILE_WRITE as the tumble controllers take it (R91). -/
def writeProfile (r : Request) (s : State) : Answer :=
  if h : natAt r.args 0 < 8 then
    match profileOf r.args with
    | some p => ok { s with profiles := s.profiles.set (natAt r.args 0) p h }
    | none => refuse .badArg s
  else refuse .badArg s

/-- PROFILE_WRITE (R91). -/
def execProfileWrite (s : State) : Host.Outcome State Fault Refusal := running (serve (isCode 3) writeProfile) s

/-- ROUTE_WRITE as the event router takes it (R171). -/
def writeRoute (r : Request) (s : State) : Answer :=
  match eventOf (natAt r.args 0), routeOf r.args with
  | some e, some rt => ok (s.onRouter fun t => { t with routes := t.routes.set e rt })
  | _, _ => refuse .badArg s

/-- ROUTE_WRITE (R171). -/
def execRouteWrite (s : State) : Host.Outcome State Fault Refusal := running (serve (isCode 4) writeRoute) s

/-! ### PART_RESET (R64) -/

/-- PART_RESET (R64): an OK reply is queued; while it waits the engine takes no request, and the part resets when it has
been sent. -/
def execPartReset (s : State) : Host.Outcome State Fault Refusal :=
  running (serve (isCode 25) fun _ s => ok s) s

end Sys2Proof.Machine
end

