-- ==== Sys2Proof/Machine/Classify.lean ====
section
/-! DEFINITION. The classification table's requests (chapter 2, 2.5). -/

namespace Sys2Proof.Machine

/-- Two keys on one chain, or two EXACT keys anywhere, may not be equal (R41): the in-use entry that makes a new one a
duplicate. -/
def ClassEntry.duplicates (e new : ClassEntry) : Bool :=
  match e.key, new.key with
  | .exact t, .exact u => t == u
  | .signature g, .signature h => g == h && e.bucket == new.bucket
  | _, _ => false

/-- CLASS_ADD (R41, R42): the checks in order, then the entry joins the tail of its bucket's chain. -/
def addEntry (r : Request) (s : State) : Answer :=
  match classEntryOf r.args s.classifier.bucketSpread with
  | none => refuse .badArg s
  | some e =>
    let c := s.classifier
    if (c.entry? e.number).isSome then refuse .inUse s
    else if c.entries.any fun x => x.duplicates e then refuse .duplicate s
    else if 8 ≤ (c.chain e.bucket).length then refuse .chainFull s
    else
      ⟨s.onClassifier fun c => { c with entries := c.entries ++ [e] }, .ok,
        [e.bucket, byte ((c.chain e.bucket).length + 1)]⟩

/-- CLASS_ADD (R41). -/
def execClassAdd (s : State) : Host.Outcome State Fault Refusal := running (serve (isCode 5) addEntry) s

/-- The drums an entry may serve (R43): the port of an EXACT tuple, every drum for a SIGNATURE entry. -/
def ClassEntry.serves (e : ClassEntry) (d : Drum) : Bool :=
  match e.key with
  | .exact t => t.toNat / 8192 == d.val
  | .signature _ => true

/-- The entry carries a status role on which a drum with a cycle depends (R43). -/
def roleBusy (e : ClassEntry) (s : State) : Bool :=
  (e.role == .driveStatus || e.role == .flameStatus) &&
    drums.any fun d => e.serves d && (s.drum d).cycle.state.withCycle

/-- CLASS_REMOVE (R43): the checks in order, then the entry is unlinked and its final hit count reported. -/
def removeEntry (r : Request) (s : State) : Answer :=
  let n := nat16At r.args 0
  if 511 < n then refuse .badArg s
  else
    match s.classifier.entry? n with
    | none => refuse .notFound s
    | some e =>
      if roleBusy e s then refuse .roleBusy s
      else
        ⟨s.onClassifier fun c => { c with entries := c.entries.filter fun x => x.number != n }, .ok, bytes16 e.hits⟩

/-- CLASS_REMOVE (R43). -/
def execClassRemove (s : State) : Host.Outcome State Fault Refusal := running (serve (isCode 6) removeEntry) s

/-- The match kind's code (Table 12-9). -/
def MatchKey.code : MatchKey → Nat
  | .exact _ => 0
  | .signature _ => 1

/-- What a lookup of a tuple would find (R44, Table 12-10). -/
def queryData (c : Classifier) (t : BitVec 15) : List Byte :=
  let b := bucketIndex c.bucketSpread t
  let sig := signature c.signatureSpread t
  let chain := c.chain b
  let head := b :: bytes16 sig.toNat
  if chain.isEmpty then head ++ [0]
  else
    match c.winner t with
    | none => head ++ [1, byte chain.length]
    | some e =>
      head ++ [2] ++ bytes16 e.number ++
        [byte (chain.findIdx (fun x => x.number == e.number) + 1), byte e.key.code]

/-- CLASS_QUERY (R44): no hit is counted. -/
def queryTuple (r : Request) (s : State) : Answer :=
  match tupleOf (natAt r.args 0) (natAt r.args 1) (natAt r.args 2) (natAt r.args 3) with
  | none => refuse .badArg s
  | some t => ⟨s, .ok, queryData s.classifier t⟩

/-- CLASS_QUERY (R44). -/
def execClassQuery (s : State) : Host.Outcome State Fault Refusal := running (serve (isCode 7) queryTuple) s

/-- The code of a role (Table 12-9). -/
def Role.code : Role → Nat
  | .none => 0
  | .wetCount => 1
  | .inletTemp => 2
  | .exhaustTemp => 3
  | .motorCurrent => 4
  | .driveStatus => 5
  | .flameStatus => 6

/-- The code of an action (Table 12-9). -/
def EntryAction.code : EntryAction → Nat
  | .absorb => 0
  | .forward => 1
  | .both => 2
  | .drop => 3

/-- The key bytes of an entry record (Table 12-9). -/
def ClassEntry.keyBytes (e : ClassEntry) : List Byte :=
  match e.key with
  | .exact t =>
    [byte (t.toNat / 8192), byte (t.toNat / 512 % 16), byte (t.toNat / 16 % 32), byte (t.toNat % 16)]
  | .signature g => [e.bucket, 0] ++ bytes16 g.toNat

/-- The 14-byte record of entry number n (R45, Table 12-9); a free entry's other fields are 0. -/
def entryRecord (c : Classifier) (n : Nat) : List Byte :=
  match c.entry? n with
  | none => bytes16 n ++ [0, 0, 0, 0, 0, 0, 0, 0, 0, 0, 0, 0]
  | some e =>
    bytes16 (32768 + e.key.code * 16384 + n) ++ e.keyBytes ++ [byte (e.role.code * 16 + e.action.code)] ++
      [byte e.valueIndex] ++ bytes16 e.gain ++ signedBytes16 e.offset ++ bytes16 e.hits

/-- The number of records a CLASS_READ returns (R45): the requested count (0 means 16), 6, and 512 less the first. -/
def readCount (first count : Nat) : Nat := min (if count = 0 then 16 else count) (min 6 (512 - first))

/-- CLASS_READ (R45). -/
def readEntries (r : Request) (s : State) : Answer :=
  let first := nat16At r.args 0
  let count := natAt r.args 2
  if 511 < first ∨ 16 < count then refuse .badArg s
  else
    let n := readCount first count
    ⟨s, .ok, byte n :: (List.range n).flatMap fun i => entryRecord s.classifier (first + i)⟩

/-- CLASS_READ (R45). -/
def execClassRead (s : State) : Host.Outcome State Fault Refusal := running (serve (isCode 8) readEntries) s

end Sys2Proof.Machine
end

