-- ==== Sys2Proof/Machine/CycleRequests.lean ====
section
/-! DEFINITION. The cycle controller's requests (chapter 4), DRUM_RESET and HEAT_LOCKOUT_CLEAR. -/

namespace Sys2Proof.Machine

/-- An accepted load (R69): record taken, READY, elapsed times 0, reason and halt cause NONE, cause set empty. -/
def loadCycle (d : Drum) (r : CycleRecord) (s : State) : State :=
  setCycle d .ready
    (fun c =>
      { c.cleared with
        record := some r, drying := 0, cooling := 0, minCoolPassed := false, reason := .none, halt := .none }) s

/-- A cycle state that allows a load (R69). -/
def CycleState.loads : CycleState → Bool
  | .vacant | .ready | .done => true
  | .purge | .drying | .cooling | .guarding | .paused | .halted => false

/-- The nodes a record needs are bound (R69). -/
def DrumConfig.bound (c : DrumConfig) (maxStage : Nat) : Bool :=
  c.motorNode != 0 && c.fanNode != 0 && (maxStage == 0 || c.burnerNode != 0)

/-- CYCLE_LOAD as the cycle controller takes it (R69). -/
def cycleLoad (r : Request) : State → Answer :=
  onDrumArg
    (fun d s =>
      let D := s.drum d
      match recordOf r.args with
      | none => refuse .badArg s
      | some x =>
        if !D.cycle.state.loads then refuse .state s
        else if D.port.state ≠ .up then refuse .portDown s
        else if D.config.gateMode = .service then refuse .gated s
        else if !D.config.bound x.maxStage then refuse .badArg s
        else ok (loadCycle d x s))
    r

/-- CYCLE_LOAD (R69). -/
def execCycleLoad (s : State) : Host.Outcome State Fault Refusal := running (serve (isCode 9) cycleLoad) s

/-- CYCLE_UNLOAD as the cycle controller takes it (R70). -/
def cycleUnload : Request → State → Answer :=
  onDrumArg fun d s => if (s.drum d).cycle.state = .ready then ok (enterVacant d s) else refuse .state s

/-- CYCLE_UNLOAD (R70). -/
def execCycleUnload (s : State) : Host.Outcome State Fault Refusal := running (serve (isCode 10) cycleUnload) s

/-- The profile a cycle record names (R92). -/
def State.cycleProfile (s : State) (d : Drum) : Nat :=
  match (s.drum d).cycle.record with
  | some r => r.profile
  | none => 255

/-- An accepted start (R72): window emptied, PURGE toward DRYING, FAN ON, START. -/
def startCycle (d : Drum) (s : State) : State :=
  tumbleStart d (s.cycleProfile d)
    (firstStart d (s.cycleProfile d) (enterPurge d (some .drying) id (drynessStart d s)))

/-- CYCLE_START as the cycle controller takes it (R72). -/
def cycleStart : Request → State → Answer :=
  onDrumArg fun d s =>
    let D := s.drum d
    let heats :=
      match D.cycle.record with
      | some r => r.maxStage != 0
      | none => false
    if D.cycle.state ≠ .ready then refuse .state s
    else if D.port.state ≠ .up then refuse .portDown s
    else if D.port.readings.doorOpen || D.port.readings.lintOut then refuse .busy s
    else if !D.boundPresent then refuse .busy s
    else if heats && D.burner.lockout.isSome then refuse .lockout s
    else if s.noStart d then refuse .lockout s
    else ok (startCycle d s)

/-- CYCLE_START (R72). -/
def execCycleStart (s : State) : Host.Outcome State Fault Refusal := running (serve (isCode 11) cycleStart) s

/-- CYCLE_PAUSE as the cycle controller takes it (R82). -/
def cyclePause : Request → State → Answer :=
  onDrumArg fun d s =>
    match (s.drum d).cycle.state with
    | .purge | .drying | .cooling | .paused => ok (pauseOrJoin d .request s)
    | .vacant | .ready | .guarding | .done | .halted => refuse .state s

/-- CYCLE_PAUSE (R82). -/
def execCyclePause (s : State) : Host.Outcome State Fault Refusal := running (serve (isCode 12) cyclePause) s

/-- An accepted resume (R83): cause set and timers cleared, PURGE toward the paused-from phase, FAN ON, START,
dry-confirm count 0. -/
def resumeCycle (d : Drum) (s : State) : State :=
  let from' := (s.drum d).cycle.pausedFrom
  let s1 := enterPurge d from' Cycle.cleared (s.onDryness d fun m => { m with confirm := 0 })
  tumbleStart d (s1.cycleProfile d) s1

/-- CYCLE_RESUME as the cycle controller takes it (R83). -/
def cycleResume : Request → State → Answer :=
  onDrumArg fun d s =>
    let D := s.drum d
    if D.cycle.state ≠ .paused then refuse .state s
    else if D.port.readings.doorOpen || D.port.state != .up || !D.boundPresent then refuse .busy s
    else ok (resumeCycle d s)

/-- CYCLE_RESUME (R83). -/
def execCycleResume (s : State) : Host.Outcome State Fault Refusal := running (serve (isCode 13) cycleResume) s

/-- CYCLE_END_HEAT as the cycle controller takes it (R75). -/
def cycleEndHeat : Request → State → Answer :=
  onDrumArg fun d s =>
    match (s.drum d).cycle.state with
    | .purge | .drying | .cooling | .guarding | .paused => ok (heatEnd d .endHeat s)
    | .vacant | .ready | .done | .halted => refuse .state s

/-- CYCLE_END_HEAT (R75). -/
def execCycleEndHeat (s : State) : Host.Outcome State Fault Refusal := running (serve (isCode 14) cycleEndHeat) s

/-- Set the completion reason. -/
def setReason (d : Drum) (reason : Reason) (s : State) : State := s.onCycle d fun c => { c with reason := reason }

/-- An accepted abort by cycle state (R84). -/
def abortCycle (d : Drum) (s : State) : State :=
  let c := (s.drum d).cycle
  match c.state with
  | .drying => startCooling d .aborted s
  | .purge =>
    if c.purgeTarget = some .cooling then
      setCycle d .cooling (fun c => { c.cleared with reason := .aborted }) s
    else startCooling d .aborted s
  | .cooling | .guarding | .paused => enterDone d (setReason d .aborted s)
  | .ready => enterVacant d s
  | .vacant | .done | .halted => s

/-- CYCLE_ABORT as the cycle controller takes it (R84). -/
def cycleAbort : Request → State → Answer :=
  onDrumArg fun d s =>
    if (s.drum d).cycle.state.idle then refuse .state s else ok (abortCycle d s)

/-- CYCLE_ABORT (R84). -/
def execCycleAbort (s : State) : Host.Outcome State Fault Refusal := running (serve (isCode 15) cycleAbort) s

/-- DRUM_RESET (R87): burner supervisor, tumble controller, cycle controller, dryness monitor, heat allocator and event
router, each by its own chapter. The burner is reset before the allocator takes the drum's reset (R153), and the drum's
demands in flight are discarded with it (log 15). -/
def resetDrum (d : Drum) (s : State) : State :=
  let s1 := tumbleReset d (burnerReset d s)
  let s2 :=
    setCycle d .vacant
      (fun c =>
        { c.cleared with
          record := none, drying := 0, cooling := 0, minCoolPassed := false, reason := .none, halt := .none }) s1
  let s3 := (drynessReset d s2).onFlight fun f => { f with demands := f.demands.filter fun p => p.1 != d }
  purgeAlerts d (releaseDrum d s3)

/-- DRUM_RESET (R87). -/
def execDrumReset (s : State) : Host.Outcome State Fault Refusal :=
  running (serve (isCode 16) (onDrumArg fun d s => ok (resetDrum d s))) s

/-- HEAT_LOCKOUT_CLEAR (R151): refused STATE with the lockout clear. -/
def execHeatLockoutClear (s : State) : Host.Outcome State Fault Refusal :=
  running
    (serve (isCode 17)
      (onDrumArg fun d s =>
        if (s.drum d).burner.lockout.isSome then ok (clearLockout d s) else refuse .state s))
    s

end Sys2Proof.Machine
end

