-- ==== Sys2Proof/Machine/PortRequests.lean ====
section
/-! DEFINITION. The drum port's requests: the eight PORT_CONTROL actions (chapter 1) and PASS_THROUGH through the
command gate (3.5). -/

namespace Sys2Proof.Machine

/-! ### PORT_CONTROL (R2, R3, R14, R21, R24) -/

/-- A PORT_CONTROL of an action, or of an action Table 12-5 does not define (log 4). -/
def isPortAction (action : Nat) : Request → Bool := isSub 18 1 action 7

/-- Serve a PORT_CONTROL on its drum: a drum above 3 or an unknown action is refused BAD_ARG (R2). -/
def onPortArg (h : Drum → State → Answer) (r : Request) (s : State) : Answer :=
  match drumOf (natAt r.args 0) with
  | some d => if 7 < natAt r.args 1 then refuse .badArg s else h d s
  | none => refuse .badArg s

/-- The states in which POWER_OFF and SERVICE_ONLY are accepted (R3). -/
def DrumState.canRest (D : DrumState) : Bool := D.cycle.state.idle && D.port.state != .test

/-- An accepted POWER_OFF (R3): both lanes stop, the port enters OFF, and stopping the service lane has the effects of a
loss of its lock (R10). -/
def powerOff (d : Drum) (s : State) : State :=
  if (s.drum d).port.state = .off then s else serviceLaneDown d (movePort d .off s)

/-- POWER_OFF (R3). -/
def execPowerOff (s : State) : Host.Outcome State Fault Refusal :=
  running
    (serve (isPortAction 0)
      (onPortArg fun d s => if (s.drum d).canRest then ok (powerOff d s) else refuse .busy s))
    s

/-- An accepted SERVICE_ONLY (R3). -/
def serviceOnly (d : Drum) (s : State) : State :=
  if (s.drum d).port.state = .service then s else movePort d .service s

/-- SERVICE_ONLY (R3). -/
def execServiceOnly (s : State) : Host.Outcome State Fault Refusal :=
  running
    (serve (isPortAction 1)
      (onPortArg fun d s => if (s.drum d).canRest then ok (serviceOnly d s) else refuse .busy s))
    s

/-- BRING_UP as the drum port takes it, by port state (R2). -/
def bringUp (d : Drum) (s : State) : Answer :=
  match (s.drum d).port.state with
  | .off | .service => ok (setPortState d .seek s)
  | .seek | .up => ok s
  | .test => refuse .busy s

/-- BRING_UP (R2). -/
def execBringUp (s : State) : Host.Outcome State Fault Refusal :=
  running (serve (isPortAction 2) (onPortArg bringUp)) s

/-- The states in which HOLD_NODES is accepted (R14). -/
def DrumState.canHold (D : DrumState) : Bool :=
  (D.cycle.state.idle || D.cycle.state == .ready) && D.port.state != .test

/-- HOLD_NODES as the drum port takes it (R14). -/
def holdNodes (d : Drum) (s : State) : Answer :=
  if (s.drum d).canHold then ok (if (s.drum d).port.hold then s else setHold d s) else refuse .busy s

/-- HOLD_NODES (R14). -/
def execHoldNodes (s : State) : Host.Outcome State Fault Refusal :=
  running (serve (isPortAction 3) (onPortArg holdNodes)) s

/-- RELEASE_NODES as the drum port takes it (R14). -/
def releaseNodes (d : Drum) (s : State) : Answer := ok (if (s.drum d).port.hold then clearHold d s else s)

/-- RELEASE_NODES (R14). -/
def execReleaseNodes (s : State) : Host.Outcome State Fault Refusal :=
  running (serve (isPortAction 4) (onPortArg releaseNodes)) s

/-- The flag mode of a coded byte (Table 12-5). -/
def flagModeOf (n : Nat) : Option FlagMode :=
  match n with
  | 0 => some .latched
  | 1 => some .live
  | _ => none

/-- The states in which a line test is accepted (R21). -/
def DrumState.canTest (D : DrumState) : Bool :=
  (D.port.state == .up || D.port.state == .seek) && D.cycle.state.idle && !D.port.hold

/-- TEST_SEND and TEST_RECEIVE as the drum port takes them: a flag mode above 1 is refused BAD_ARG before the port's
state is read (R21, R190). -/
def testRequest (dir : TestDirection) (r : Request) : State → Answer :=
  onPortArg
    (fun d s =>
      match flagModeOf (natAt r.args 2) with
      | none => refuse .badArg s
      | some mode => if (s.drum d).canTest then ok (startTest d dir mode s) else refuse .busy s)
    r

/-- TEST_SEND (R21). -/
def execTestSend (s : State) : Host.Outcome State Fault Refusal :=
  running (serve (isPortAction 5) (testRequest .send)) s

/-- TEST_RECEIVE (R21). -/
def execTestReceive (s : State) : Host.Outcome State Fault Refusal :=
  running (serve (isPortAction 6) (testRequest .receive)) s

/-- The outcome a TEST_END leaves (R24): ENDED if it was ARMING or RUNNING. -/
def TestOutcome.atEnd : TestOutcome → TestOutcome
  | .arming | .running => .ended
  | .none => .none
  | .ended => .ended
  | .armTimeout => .armTimeout

/-- An accepted TEST_END (R24). -/
def endTest (d : Drum) (s : State) : State :=
  let p := (s.drum d).port
  if p.state = .test then leaveTest d p.lineTest.outcome.atEnd s else s

/-- TEST_END (R24). -/
def execTestEnd (s : State) : Host.Outcome State Fault Refusal :=
  running (serve (isPortAction 7) (onPortArg fun d s => ok (endTest d s))) s

/-! ### PASS_THROUGH (R58 to R61) -/

/-- The first check of R58 on the arguments other than the drum. -/
def passInRange (a : List Byte) : Bool :=
  within 1 15 (natAt a 1) && within 0 31 (natAt a 2) && within 0 15 (natAt a 3) && decide (a.length ≤ 20)

/-- The frame of a PASS_THROUGH. -/
def passFrameOf (a : List Byte) : PassFrame := ⟨natAt a 1, natAt a 2, natAt a 3, a.drop 4⟩

/-- The DRIVE entry holds RUN in the direction opposite to a request (R61). -/
def DriveCmd.opposes (held : DriveCmd) (dir : Direction) : Bool :=
  match held with
  | .run h _ => h != dir
  | .stop => false

/-- The gate refuses a RUN under SERVICE (R61). -/
def runGated (D : DrumState) (now : Clock) (dir : Direction) : Bool :=
  D.port.image.drive.opposes dir || !D.confirming ||
    (match D.tumble.status with
     | some st => decide (elapsed now st.arrival < 2000)
     | none => true) ||
    D.port.readings.doorOpen

/-- The gate refuses a DRIVE_CMD under SERVICE (R60, R61). -/
def driveGated (D : DrumState) (now : Clock) (v : DriveCmd) : Bool :=
  match v with
  | .stop => false
  | .run dir _ => runGated D now dir

/-- The destination is the node bound to an entry (R58, fifth check). -/
def boundTo (f : PassFrame) (node : Nat) : Bool := node != 0 && f.dest == node

/-- A DRIVE_CMD under SERVICE (R58, R60, R61). -/
def passDrive (d : Drum) (f : PassFrame) (s : State) : Answer :=
  let D := s.drum d
  match driveCmdOf f.payload with
  | none => refuse .badArg s
  | some v =>
    if driveGated D s.clock v then refuse .gated s
    else if boundTo f D.config.motorNode then ok (writeDrive d v s)
    else refuse .badArg s

/-- A FAN_CMD under SERVICE (R58, R60). -/
def passFan (d : Drum) (f : PassFrame) (s : State) : Answer :=
  match fanCmdOf f.payload with
  | none => refuse .badArg s
  | some on => if boundTo f (s.drum d).config.fanNode then ok (writeFan d on s) else refuse .badArg s

/-- A frame of a kind that is no actuator kind goes to the pass-through slot (R59). -/
def passSlot (d : Drum) (f : PassFrame) (s : State) : Answer :=
  if (s.drum d).port.slot.isSome then refuse .busy s
  else ok (s.onPort d fun p => { p with slot := some f })

/-- The command gate of Table 3-5. -/
def gate (d : Drum) (f : PassFrame) (s : State) : Answer :=
  if f.kind = 16 ∨ f.kind = 17 ∨ f.kind = 18 then
    match (s.drum d).config.gateMode with
    | .auto => refuse .gated s
    | .service =>
      if f.kind = 16 then passDrive d f s else if f.kind = 18 then passFan d f s else refuse .gated s
  else passSlot d f s

/-- PASS_THROUGH as the drum port takes it (R58). -/
def passThrough (r : Request) : State → Answer :=
  onDrumArg
    (fun d s =>
      if !passInRange r.args then refuse .badArg s
      else if (s.drum d).port.state ≠ .up then refuse .portDown s
      else gate d (passFrameOf r.args) s)
    r

/-- PASS_THROUGH (R58). -/
def execPassThrough (s : State) : Host.Outcome State Fault Refusal := running (serve (isCode 19) passThrough) s

end Sys2Proof.Machine
end

