-- ==== Sys2Proof/Machine/StoreRequests.lean ====
section
/-! DEFINITION. The requests of the event router and of the attribute store: ALERT_ACK (chapter 10), ATTR_LOAD,
ATTR_READ and ATTR_CLEAR (chapter 11). -/

namespace Sys2Proof.Machine

/-! ### ALERT_ACK (R177) -/

/-- Remove the entry of an event and drum; the others keep their order (R173, R177). -/
def Router.remove (r : Router) (event : Nat) (d : Drum) : Router :=
  { r with alerts := r.alerts.filter fun e => !e.isFor event d }

/-- A partial acknowledgement of an entry (R177): the count less the count seen, marked for re-send. -/
def AlertEntry.acked (e : AlertEntry) (seen : Nat) : AlertEntry :=
  { e with count := e.count - seen, send := e.send.again }

/-- ALERT_ACK of an event on a drum as the event router takes it (R177). -/
def ackAlert (event : Nat) (d : Drum) (seen : Nat) (s : State) : Answer :=
  match s.router.entry? event d with
  | none => refuse .notFound s
  | some e =>
    if e.count ≤ seen then ⟨s.onRouter fun r => r.remove event d, .ok, [0]⟩
    else ⟨s.onRouter fun r => r.update event d fun e => e.acked seen, .ok, [byte (e.count - seen)]⟩

/-- ALERT_ACK (R177): the arguments are checked first. -/
def alertAck (r : Request) (s : State) : Answer :=
  match eventOf (natAt r.args 0), drumOf (natAt r.args 1) with
  | some e, some d => ackAlert e.val d (natAt r.args 2) s
  | _, _ => refuse .badArg s

/-- ALERT_ACK (R177). -/
def execAlertAck (s : State) : Host.Outcome State Fault Refusal := running (serve (isCode 20) alertAck) s

/-! ### ATTR_LOAD (R182, R183) -/

/-- An accepted image replaces the table, sets the validity flag and the revision, and every record is evaluated; the
reply carries the number of records found crossed (R182, R183). -/
def loadTable (t : Vector Threshold 8) (s : State) : Answer :=
  let p := evaluate attrOrder (s.onAttributes fun a => { a with valid := true, revision := 2, table := t })
  ⟨p.1, .ok, [byte p.2]⟩

/-- ATTR_LOAD as the attribute store takes it, checks in order (R182). -/
def attrLoad (r : Request) (s : State) : Answer :=
  if byteSum r.args ≠ 0 then refuse .checksum s
  else if natAt r.args 0 ≠ 2 then refuse .revision s
  else
    match tableOf r.args with
    | none => refuse .badArg s
    | some t => loadTable t s

/-- ATTR_LOAD (R182). -/
def execAttrLoad (s : State) : Host.Outcome State Fault Refusal := running (serve (isCode 21) attrLoad) s

/-! ### ATTR_READ (R186) -/

/-- The code of a consequence (Table 12-9). -/
def Consequence.code : Consequence → Nat
  | .none => 0
  | .heatLockout => 1
  | .noStart => 2

/-- The limit and consequence in force for an attribute: 0 and NONE while no valid table is loaded (R186). -/
def AttrStore.inForce (t : AttrStore) (a : Fin 8) : Threshold := if t.valid then t.table[a] else {}

/-- The ten bytes of one attribute in the result of ATTR_READ (Table 12-10). -/
def attrBytes (s : State) (d : Drum) (a : Fin 8) : List Byte :=
  let r := s.attr d a
  let t := s.attributes.inForce a
  bytes32 r.raw ++ [byte (r.crossed.toNat + 2 * r.noStart.toNat)] ++ bytes32 t.limit ++ [byte t.consequence.code]

/-- ATTR_READ as the attribute store takes it (R186). -/
def attrRead : Request → State → Answer :=
  onDrumArg fun d s =>
    ⟨s, .ok, flagByte s.attributes.valid :: ([0, 1, 2, 3, 4, 5, 6, 7] : List (Fin 8)).flatMap (attrBytes s d)⟩

/-- ATTR_READ (R186). -/
def execAttrRead (s : State) : Host.Outcome State Fault Refusal := running (serve (isCode 22) attrRead) s

/-! ### ATTR_CLEAR (R187) -/

/-- ATTR_CLEAR as the attribute store takes it: one attribute, or ALL coded 255 (R187, Table 12-5). -/
def attrClear (r : Request) : State → Answer :=
  onDrumArg
    (fun d s =>
      if h : natAt r.args 1 < 8 then ok (clearAttr d ⟨natAt r.args 1, h⟩ s)
      else if natAt r.args 1 = 255 then ok (clearAttrs d s)
      else refuse .badArg s)
    r

/-- ATTR_CLEAR (R187). -/
def execAttrClear (s : State) : Host.Outcome State Fault Refusal := running (serve (isCode 23) attrClear) s

end Sys2Proof.Machine
end

