-- ==== Sys2Proof/Machine/Status.lean ====
section
/-! DEFINITION. STATUS_READ and its four reports (R62, Table 12-11). -/

namespace Sys2Proof.Machine

/-! ### Fields (R189) -/

/-- The marker of an absent one-byte field. -/
def absent8 : List Byte := [0xFF]

/-- The marker of an absent two-byte field. -/
def absent16 : List Byte := [0xFF, 0xFF]

/-- A one-byte field, or its marker. -/
def field8 (x : Option Nat) : List Byte :=
  match x with
  | some n => [byte n]
  | none => absent8

/-- A time in whole seconds, rounded down, in two bytes short of the marker. -/
def secs16 (ms : Nat) : List Byte := bytes16 (min (ms / 1000) 65534)

/-- The time left on a timer in whole seconds in two bytes, or the marker. -/
def left16 (t : Timer) : List Byte :=
  match t with
  | some ms => secs16 ms
  | none => absent16

/-- The time left on a timer in whole seconds in one byte short of the marker, or the marker. -/
def left8 (t : Timer) : List Byte :=
  match t with
  | some ms => [byte (min (ms / 1000) 254)]
  | none => absent8

/-- A timer that counts only while a condition holds is not running while it does not (log 11). -/
def whileRuns (runs : Bool) (t : Timer) : Timer := if runs then t else none

/-- A number of entries padded with zeros to the slots of a report. -/
def padded (n : Nat) (bs : List Byte) : List Byte := bs ++ List.replicate (n - bs.length) 0

/-- Serve a STATUS_READ of a drum's or port's scope: an unknown scope or a number above 3 is refused BAD_ARG (R62). -/
def onScopeDrum (report : Drum → State → List Byte) (r : Request) (s : State) : Answer :=
  match drumOf (natAt r.args 1) with
  | some d => if 3 < natAt r.args 0 then refuse .badArg s else ⟨s, .ok, report d s⟩
  | none => refuse .badArg s

/-- Serve a STATUS_READ of a scope of the whole part: an unknown scope is refused BAD_ARG (R62). -/
def onScopePart (report : State → List Byte) (r : Request) (s : State) : Answer :=
  if 3 < natAt r.args 0 then refuse .badArg s else ⟨s, .ok, report s⟩

/-- A STATUS_READ of a scope, or of a scope Table 12-5 does not define (log 4). -/
def isScope (scope : Nat) : Request → Bool := isSub 24 0 scope 3

/-! ### PART (R63) -/

/-- The two overrun flags as one byte (Table 12-4). -/
def overrunFlags (mgmt alert : Bool) : Byte := byte (mgmt.toNat + 2 * alert.toNat)

/-- The PART report, 26 bytes. -/
def partReport (s : State) : List Byte :=
  let c := s.cabinet
  bytes16 4120 ++ [1, 2] ++ clockBytes s.clock ++
    [flagByte c.linkUp, byte c.inbox.length, byte c.replies.length, byte c.forwards.length, byte c.alertRun,
      overrunFlags c.mgmtOverrun c.alertOverrun] ++
    bytes32 s.classifier.bucketSpread.toNat ++ bytes32 s.classifier.signatureSpread.toNat ++
    [byte s.router.alerts.length, flagByte s.router.alertLow, flagByte s.attributes.valid, byte s.attributes.revision]

/-- STATUS_READ_PART (R63). -/
def execStatusReadPart (s : State) : Host.Outcome State Fault Refusal :=
  running (serve (isScope 0) (onScopePart partReport)) s

/-! ### DRUM (R89, R107, R116, R155, R167) -/

/-- The code of a phase: that of its cycle state (Table 12-11). -/
def Phase.code (p : Phase) : Nat := p.state.code

/-- The pause cause set as one byte, bit c for cause code c. -/
def causeBits (cs : List PauseCause) : Byte := cs.foldl (fun b c => b ||| ((1 : Byte) <<< c.code)) 0

/-- The cycle controller's 14 bytes (R89). -/
def cycleReport (c : Cycle) : List Byte :=
  [byte c.state.code, flagByte c.record.isSome] ++ field8 (c.record.map (·.label)) ++
    [byte c.reason.code, byte c.halt.code, causeBits c.causes] ++ field8 (c.pausedFrom.map Phase.code) ++
    field8 (c.purgeTarget.map Phase.code) ++ secs16 c.drying ++ secs16 c.cooling ++ left16 c.pauseLimit

/-- The code of a tumble state (Table 5-1). -/
def TumbleState.code : TumbleState → Nat
  | .stopped => 0
  | .runFwd => 1
  | .runRev => 2
  | .decel => 3
  | .dwell => 4
  | .recover => 5

/-- The byte of a target: the code of the tumble state it names; RUN names none and has an open code (log 9). -/
def Target.byte : Target → Byte
  | .dwell => 4
  | .stopped => 0
  | .run => Config.tumbleTargetRunCode

/-- The target's byte, or its marker. -/
def targetByte (t : Option Target) : Byte :=
  match t with
  | some x => x.byte
  | none => 0xFF

/-- The code of a motor state (Table 12-2). -/
def MotorState.code : MotorState → Nat
  | .stopped => 0
  | .running => 1
  | .slowing => 2
  | .stalled => 3
  | .tripped => 4

/-- The tumble controller's 13 bytes (R107). The run timer is reported as the reading it holds, also while it does not run
(log 42). -/
def tumbleReport (t : Tumble) : List Byte :=
  [byte t.state.code, targetByte t.target] ++ field8 t.inForce ++ field8 (t.lastDir.map Direction.code) ++
    secs16 t.runTimer ++ bytes16 t.revCount.toNat ++ [byte t.stalls, byte t.multiplier, byte t.reduction] ++
    field8 (t.status.map (·.motor.code)) ++ [flagByte t.guardLength.isSome]

/-- The tangle monitor's 7 bytes (R116). -/
def tangleReport (m : Tangle) : List Byte :=
  [byte m.count] ++ bytes16 m.lastSwing ++ [byte m.earlyRuns, flagByte m.windowOpen] ++ bytes16 m.samples

/-- The code of a view state (Table 8-2). -/
def View.code : View → Nat
  | .idle => 0
  | .lighting => 1
  | .burning => 2
  | .retryWait => 3
  | .lockedOut => 4

/-- The code of a flame state (Table 12-2). -/
def FlameState.code : FlameState → Nat
  | .off => 0
  | .purging => 1
  | .trial => 2
  | .proven => 3
  | .failed => 4
  | .locked => 5

/-- A held temperature and its age, four bytes, or two markers. -/
def temperatureReport (now : Clock) (t : Option Temperature) : List Byte :=
  match t with
  | some t => signedBytes16 t.value ++ secs16 (elapsed now t.arrival)
  | none => absent16 ++ absent16

/-- The running one of the trial, retry-delay and stable-flame timers (R155); the trial and stable-flame timers run only
in UP (R152, log 11). -/
def Burner.runningTimer (b : Burner) (portUp : Bool) : Timer :=
  match b.view with
  | .lighting => whileRuns portUp b.trial
  | .burning => whileRuns portUp b.stable
  | .retryWait => b.retryDelay
  | .idle | .lockedOut => none

/-- The burner supervisor's 22 bytes (R155). -/
def burnerReport (now : Clock) (D : DrumState) (granted : Nat) : List Byte :=
  let b := D.burner
  [byte b.view.code, byte b.wanted, byte D.permissiveCap, byte b.demand, byte granted, byte b.commanded] ++
    temperatureReport now b.inlet ++ temperatureReport now b.exhaust ++ [flagByte b.exhaustHigh] ++
    field8 (b.flame.map (·.flame.code)) ++ field8 (b.flame.map (·.lit)) ++ [flagByte b.rest, byte b.retries] ++
    [byte ((b.lockout.map LockoutPath.code).getD 0)] ++ left16 (b.runningTimer (D.port.state == .up))

/-- The dryness monitor's 11 bytes (R167): the extra-dry time while the timer is held, the sample-starvation time while
its timer runs. The newest value of an empty window is sent as 0, as Table 12-11 sends a window slot beyond its length. -/
def drynessReport (D : DrumState) : List Byte :=
  let m := D.dryness
  bytes16 m.sum ++ [byte m.window.length, byte (m.window.getLast?.getD 0)] ++
    [byte m.settle, byte m.confirm, flagByte m.dryReached] ++ left16 m.extraDry ++
    left8 (whileRuns (D.cycle.dryingElectrode && D.tumble.state.running) m.starvation) ++ [flagByte m.starved]

/-- The DRUM report, 67 bytes. -/
def drumReport (d : Drum) (s : State) : List Byte :=
  let D := s.drum d
  cycleReport D.cycle ++ tumbleReport D.tumble ++ tangleReport D.tangle ++
    burnerReport s.clock D (s.share d).granted ++ drynessReport D

/-- STATUS_READ_DRUM (R62). -/
def execStatusReadDrum (s : State) : Host.Outcome State Fault Refusal :=
  running (serve (isScope 1) (onScopeDrum drumReport)) s

/-! ### PORT (R26) -/

/-- The code of a port state (Table 1-1). -/
def PortState.code : PortState → Nat
  | .off => 0
  | .service => 1
  | .seek => 2
  | .up => 3
  | .test => 4

/-- The four discretes as one byte (Table 12-11). -/
def Readings.byte (r : Readings) : Byte :=
  Machine.byte
    (r.doorOpen.toNat + 2 * r.lintOut.toNat + 4 * r.airflowNotProven.toNat + 8 * r.highlimitTripped.toNat)

/-- The code of a test direction (Table 12-11). -/
def TestDirection.code : TestDirection → Nat
  | .send => 0
  | .receive => 1

/-- The code of a flag mode (Table 12-5). -/
def FlagMode.code : FlagMode → Nat
  | .latched => 0
  | .live => 1

/-- The code of a line-test outcome, in the order of 1.8. -/
def TestOutcome.code : TestOutcome → Nat
  | .none => 0
  | .arming => 1
  | .running => 2
  | .ended => 3
  | .armTimeout => 4

/-- The line-test record's 6 bytes (Table 12-11). -/
def lineTestReport (t : LineTest) : List Byte :=
  [byte t.direction.code, byte t.mode.code, byte t.outcome.code] ++ bytes16 t.errors ++ [flagByte t.errorFlag]

/-- The grace time left in steps of 100 ms (log 12), or the marker. -/
def graceLeft (t : Timer) : List Byte :=
  match t with
  | some ms => bytes16 (ms / 100)
  | none => absent16

/-- The code of a miss action (Table 12-5). -/
def MissAction.code : MissAction → Nat
  | .forwardMarked => 0
  | .drop => 1

/-- The PORT report, 32 bytes. -/
def portReport (d : Drum) (s : State) : List Byte :=
  let p := (s.drum d).port
  [byte p.state.code, flagByte p.serviceLock, Readings.byte p.readings] ++ bytes16 p.presence.toNat ++
    [flagByte p.hold] ++ p.image.drive.payload ++ clockBytes p.image.stopTime ++
    flamePayload p.image.flameStage p.image.resetLockout ++ fanPayload p.image.fan ++ [flagByte p.slot.isSome] ++
    graceLeft p.grace ++ left16 p.standby ++ lineTestReport p.lineTest ++ bytes16 p.malformed ++
    bytes16 p.checkFailed ++ [byte (s.classifier.miss[d]).code]

/-- STATUS_READ_PORT (R26). -/
def execStatusReadPort (s : State) : Host.Outcome State Fault Refusal :=
  running (serve (isScope 2) (onScopeDrum portReport)) s

/-! ### HEAT (R138) -/

/-- The granted stage and cost copy of one drum, zeros when no copy is held (Table 12-11). -/
def shareReport (h : HeatShare) : List Byte :=
  match h.costs with
  | some c => [byte h.granted, byte c.c1, byte c.c2]
  | none => [byte h.granted, 0, 0]

/-- One queue entry's 7 bytes (Table 12-11). -/
def entryReport (now : Clock) (e : HeatEntry) : List Byte :=
  [byte e.drum.val, byte e.wanted, byte e.cost, byte e.bypass] ++ secs16 (elapsed now e.enqueued) ++
    [flagByte e.reported]

/-- The HEAT report, 53 bytes. -/
def heatReport (s : State) : List Byte :=
  let h := s.heat
  [byte h.budget, byte h.bypassLimit] ++ bytes16 h.waitLimit ++ bytes16 h.heldSum ++ [byte h.free] ++
    drums.flatMap (fun d => shareReport h.shares[d]) ++
    [byte h.grants.length] ++ padded 4 (h.grants.map fun d => byte d.val) ++
    [byte h.queue.length] ++ padded 28 (h.queue.flatMap (entryReport s.clock))

/-- STATUS_READ_HEAT (R138). -/
def execStatusReadHeat (s : State) : Host.Outcome State Fault Refusal :=
  running (serve (isScope 3) (onScopePart heatReport)) s

end Sys2Proof.Machine
end

