-- ==== Sys2Proof/Machine/Reset.lean ====
section
/-! DEFINITION. The part-wide resets (R64, R65 and each chapter's reset table). These commands act also while RESETn is
held low. -/

namespace Sys2Proof.Machine

/-- The values of RESETn and PART_RESET: every block at its table of reset values but the attribute store, which keeps
its own (R188). The clock is at 0, work in flight is lost (log 25), and the queue of commands, which is outside the part,
stays. -/
def resetValues (held : Bool) (s : State) : State :=
  { State.reset with attributes := s.attributes, pending := s.pending, resetHeld := held }

/-- PART_RESET once its reply has been sent (R64): as an assertion and release of RESETn. -/
def partReset (s : State) : State := resetValues false s

/-- POWER_ON_RESET (R65): every block at its power-on values, the attribute store included. The RESETn pin keeps its
level (log 19). -/
def execPowerOnReset (s : State) : Host.Outcome State Fault Refusal :=
  .next { State.reset with pending := s.pending, resetHeld := s.resetHeld }

/-- RESETN_ASSERT (R65): the part is held in reset at its RESETn values. -/
def execResetnAssert (s : State) : Host.Outcome State Fault Refusal := .next (resetValues true s)

/-- RESETN_RELEASE (R65): the clock starts from 0. Without RESETn held low there is nothing to release. -/
def execResetnRelease (s : State) : Host.Outcome State Fault Refusal :=
  .next (if s.resetHeld then { s with resetHeld := false, clock := 0 } else s)

end Sys2Proof.Machine
end

