-- ==== Sys2Proof/Machine/Cabinet.lean ====
section
/-! DEFINITION. The cabinet link and the upstream transmitter (chapter 3, 3.1 to 3.3). -/

namespace Sys2Proof.Machine

/-! ### Link state and arriving frames (R48 to R50) -/

/-- CABINET_LOCK (R48): the link enters UP. -/
def execCabinetLock (s : State) : Host.Outcome State Fault Refusal :=
  running (fun s => s.onCabinet fun c => { c with linkUp := true }) s

/-- The router's part of a cut transmission (R176). -/
def cutAlert (o : Option Outgoing) (s : State) : State :=
  match o with
  | some (.alert event d _ _) => s.onRouter fun r => r.update event d AlertEntry.sendCut
  | _ => s

/-- Loss of the receiver's lock (R48): the link enters DOWN and a frame being transmitted is cut; its record stays at
the head of its queue. -/
def cabinetLost (s : State) : State :=
  (cutAlert s.cabinet.outgoing s).onCabinet fun c => { c with linkUp := false, outgoing := none }

/-- CABINET_LOCK_LOST (R48). -/
def execCabinetLockLost (s : State) : Host.Outcome State Fault Refusal := running cabinetLost s

/-- The request in a cabinet link frame (R49, Table 12-3): none for a malformed frame and for a frame of another type. -/
def requestOf (bytes : List Byte) : Option Request :=
  let len := natAt bytes 1
  if bytes.length = len + 4 ∧ checkPassed bytes = true ∧ natAt bytes 0 = 1 ∧ within 2 64 len = true then
    some ⟨byteAt bytes 2, byteAt bytes 3, (bytes.drop 4).take (len - 2)⟩
  else none

/-- Offer a request to the inbox (R50). -/
def offerRequest (r : Request) (s : State) : State :=
  if s.cabinet.inbox.length < 4 then s.onCabinet fun c => { c with inbox := c.inbox ++ [r] }
  else s.onCabinet Cabinet.setMgmtOverrun

/-- Take a whole frame from the incoming lane in UP (R49). -/
def takeCabinetFrame (bytes : List Byte) (s : State) : State :=
  match requestOf bytes with
  | some r => offerRequest r s
  | none => s

/-- CABINET_FRAME_RECEIVED (R49): in DOWN nothing is received (R48). -/
def execCabinetFrameReceived (bytes : List Byte) (s : State) : Host.Outcome State Fault Refusal :=
  running (fun s => onlyIf s.cabinet.linkUp (takeCabinetFrame bytes) s) s

/-! ### Frames sent (R53 to R56) -/

/-- The code of a status (Table 3-2). -/
def Status.code : Status → Nat
  | .ok => 0
  | .badRequest => 1
  | .badArg => 2
  | .busy => 3
  | .state => 4
  | .inUse => 5
  | .duplicate => 6
  | .chainFull => 7
  | .notFound => 8
  | .gated => 9
  | .portDown => 10
  | .checksum => 11
  | .revision => 12
  | .roleBusy => 13
  | .lockout => 14

/-- The body of a reply with its flags (Table 12-4). -/
def Reply.body (r : Reply) (mgmt alert : Bool) : List Byte :=
  [r.tag, r.code, byte r.status.code, overrunFlags mgmt alert] ++ r.data

/-- The body of a forward record (Table 12-4). -/
def ForwardRecord.body (r : ForwardRecord) : List Byte :=
  [byte r.drum.val] ++ bytes16 (r.entry.getD 65535) ++ [byte (r.miss.toNat + 2 * r.checkFailed.toNat)] ++
    clockBytes r.arrival ++ r.frame

/-- Begin sending a reply: its flags are filled as they stand (R53); the run count stays (R56). -/
def beginReply (r : Reply) (s : State) : State :=
  s.onCabinet fun c =>
    { c with
      outgoing :=
        some
          (.reply c.mgmtOverrun c.alertOverrun false false
            (cabinetFrame 2 (r.body c.mgmtOverrun c.alertOverrun))) }

/-- Begin sending a forward record: the run count becomes 0 (R56). -/
def beginForward (r : ForwardRecord) (s : State) : State :=
  s.onCabinet fun c => { c with alertRun := 0, outgoing := some (.forward (cabinetFrame 3 r.body)) }

/-- Begin sending an alert: the entry is marked SENDING and its record built from it as it stands (R175); the run count
rises while forward records wait and becomes 0 otherwise (R56). -/
def beginAlert (e : AlertEntry) (s : State) : State :=
  (s.onRouter fun r => r.update e.event e.drum fun e => { e with send := .sending }).onCabinet fun c =>
    { c with
      alertRun := if c.forwards.isEmpty then 0 else min 4 (c.alertRun + 1)
      outgoing := some (.alert e.event e.drum e.count (cabinetFrame 4 e.body)) }

/-- Begin the head forward record, if there is one. -/
def beginHead (s : State) : State :=
  match s.cabinet.forwards with
  | f :: _ => beginForward f s
  | [] => s

/-- The arbiter's choice (R55). -/
def choose (s : State) : State :=
  match s.cabinet.replies with
  | r :: _ => beginReply r s
  | [] =>
    if 4 ≤ s.cabinet.alertRun ∧ s.cabinet.forwards ≠ [] then beginHead s
    else
      match s.router.nextAlert with
      | some e => beginAlert e s
      | none => beginHead s

/-- TRANSMIT_CHOICE (R55): with the link UP and the outgoing lane free. -/
def execTransmitChoice (s : State) : Host.Outcome State Fault Refusal :=
  running (fun s => onlyIf (s.cabinet.linkUp && s.cabinet.outgoing.isNone) choose s) s

/-- A reply ends complete (R52, R53): it leaves its queue, and each flag it carried set is cleared unless its cause
recurred since. -/
def replyEnds (mgmt alert mgmtAgain alertAgain : Bool) (s : State) : State :=
  s.onCabinet fun c =>
    { c with
      replies := c.replies.tail
      mgmtOverrun := c.mgmtOverrun && (!mgmt || mgmtAgain)
      alertOverrun := c.alertOverrun && (!alert || alertAgain)
      outgoing := none }

/-- REPLY_TRANSMIT_END (R53): after the PART_RESET reply the part resets (R64). -/
def execReplyTransmitEnd (s : State) : Host.Outcome State Fault Refusal :=
  running
    (fun s =>
      match s.cabinet.outgoing with
      | some (.reply m a ma aa _) =>
        if (s.cabinet.replies.head?.map Reply.resetsPart).getD false then partReset s else replyEnds m a ma aa s
      | _ => s)
    s

/-- FORWARD_RECORD_END (R54): the record leaves the head of the forward queue. -/
def execForwardRecordEnd (s : State) : Host.Outcome State Fault Refusal :=
  running
    (fun s =>
      match s.cabinet.outgoing with
      | some (.forward _) => s.onCabinet fun c => { c with forwards := c.forwards.tail, outgoing := none }
      | _ => s)
    s

end Sys2Proof.Machine
end

