-- ==== Sys2Proof/Machine/Dispatch.lean ====
section
/-! DEFINITION. Dispatch: one arm for each command. -/

namespace Sys2Proof.Machine

def exec (i : Instr) (s : State) : Host.Outcome State Fault Refusal :=
  match i with
  | .powerOnReset => Sys2Proof.Machine.execPowerOnReset s
  | .resetnAssert => Sys2Proof.Machine.execResetnAssert s
  | .resetnRelease => Sys2Proof.Machine.execResetnRelease s
  | .cabinetLock => Sys2Proof.Machine.execCabinetLock s
  | .cabinetLockLost => Sys2Proof.Machine.execCabinetLockLost s
  | .cabinetFrameReceived bytes => Sys2Proof.Machine.execCabinetFrameReceived bytes s
  | .badRequest => Sys2Proof.Machine.execBadRequest s
  | .transmitChoice => Sys2Proof.Machine.execTransmitChoice s
  | .replyTransmitEnd => Sys2Proof.Machine.execReplyTransmitEnd s
  | .alertFrameEnd => Sys2Proof.Machine.execAlertFrameEnd s
  | .forwardRecordEnd => Sys2Proof.Machine.execForwardRecordEnd s
  | .configWriteHeatBudget => Sys2Proof.Machine.execConfigWriteHeatBudget s
  | .configWriteBypassLimit => Sys2Proof.Machine.execConfigWriteBypassLimit s
  | .configWriteHeatWaitLimit => Sys2Proof.Machine.execConfigWriteHeatWaitLimit s
  | .configWriteBucketSpread => Sys2Proof.Machine.execConfigWriteBucketSpread s
  | .configWriteSignatureSpread => Sys2Proof.Machine.execConfigWriteSignatureSpread s
  | .configWriteMissAction => Sys2Proof.Machine.execConfigWriteMissAction s
  | .drumConfigWrite => Sys2Proof.Machine.execDrumConfigWrite s
  | .profileWrite => Sys2Proof.Machine.execProfileWrite s
  | .routeWrite => Sys2Proof.Machine.execRouteWrite s
  | .classAdd => Sys2Proof.Machine.execClassAdd s
  | .classRemove => Sys2Proof.Machine.execClassRemove s
  | .classQuery => Sys2Proof.Machine.execClassQuery s
  | .classRead => Sys2Proof.Machine.execClassRead s
  | .cycleLoad => Sys2Proof.Machine.execCycleLoad s
  | .cycleUnload => Sys2Proof.Machine.execCycleUnload s
  | .cycleStart => Sys2Proof.Machine.execCycleStart s
  | .cyclePause => Sys2Proof.Machine.execCyclePause s
  | .cycleResume => Sys2Proof.Machine.execCycleResume s
  | .cycleEndHeat => Sys2Proof.Machine.execCycleEndHeat s
  | .cycleAbort => Sys2Proof.Machine.execCycleAbort s
  | .drumReset => Sys2Proof.Machine.execDrumReset s
  | .heatLockoutClear => Sys2Proof.Machine.execHeatLockoutClear s
  | .powerOff => Sys2Proof.Machine.execPowerOff s
  | .serviceOnly => Sys2Proof.Machine.execServiceOnly s
  | .bringUp => Sys2Proof.Machine.execBringUp s
  | .holdNodes => Sys2Proof.Machine.execHoldNodes s
  | .releaseNodes => Sys2Proof.Machine.execReleaseNodes s
  | .testSend => Sys2Proof.Machine.execTestSend s
  | .testReceive => Sys2Proof.Machine.execTestReceive s
  | .testEnd => Sys2Proof.Machine.execTestEnd s
  | .passThrough => Sys2Proof.Machine.execPassThrough s
  | .alertAck => Sys2Proof.Machine.execAlertAck s
  | .attrLoad => Sys2Proof.Machine.execAttrLoad s
  | .attrRead => Sys2Proof.Machine.execAttrRead s
  | .attrClear => Sys2Proof.Machine.execAttrClear s
  | .statusReadPart => Sys2Proof.Machine.execStatusReadPart s
  | .statusReadDrum => Sys2Proof.Machine.execStatusReadDrum s
  | .statusReadPort => Sys2Proof.Machine.execStatusReadPort s
  | .statusReadHeat => Sys2Proof.Machine.execStatusReadHeat s
  | .partReset => Sys2Proof.Machine.execPartReset s
  | .mainLaneLock d => Sys2Proof.Machine.execMainLaneLock d s
  | .mainLaneLockLost d => Sys2Proof.Machine.execMainLaneLockLost d s
  | .graceExpiry d => Sys2Proof.Machine.execGraceExpiry d s
  | .mainLaneFrameReceived d bytes => Sys2Proof.Machine.execMainLaneFrameReceived d bytes s
  | .lookup d => Sys2Proof.Machine.execLookup d s
  | .inletTempAbsorbed d => Sys2Proof.Machine.execInletTempAbsorbed d s
  | .exhaustTempAbsorbed d => Sys2Proof.Machine.execExhaustTempAbsorbed d s
  | .motorCurrentAbsorbed d => Sys2Proof.Machine.execMotorCurrentAbsorbed d s
  | .wetCountAbsorbed d => Sys2Proof.Machine.execWetCountAbsorbed d s
  | .driveStatAbsorbed d => Sys2Proof.Machine.execDriveStatAbsorbed d s
  | .flameStatAbsorbed d => Sys2Proof.Machine.execFlameStatAbsorbed d s
  | .serviceLaneLock d => Sys2Proof.Machine.execServiceLaneLock d s
  | .serviceLaneLockLost d => Sys2Proof.Machine.execServiceLaneLockLost d s
  | .discreteReport d raw => Sys2Proof.Machine.execDiscreteReport d raw s
  | .debounceExpiry d x => Sys2Proof.Machine.execDebounceExpiry d x s
  | .presenceReport d present => Sys2Proof.Machine.execPresenceReport d present s
  | .commandFrameSend d => Sys2Proof.Machine.execCommandFrameSend d s
  | .commandFrameSent d => Sys2Proof.Machine.execCommandFrameSent d s
  | .refreshExpiry d => Sys2Proof.Machine.execRefreshExpiry d s
  | .standbyExpiry d => Sys2Proof.Machine.execStandbyExpiry d s
  | .armReport d => Sys2Proof.Machine.execArmReport d s
  | .armTimeout d => Sys2Proof.Machine.execArmTimeout d s
  | .testReport d errors => Sys2Proof.Machine.execTestReport d errors s
  | .checkerInterval d errors => Sys2Proof.Machine.execCheckerInterval d errors s
  | .proveTimeout d => Sys2Proof.Machine.execProveTimeout d s
  | .airTimeEnd d => Sys2Proof.Machine.execAirTimeEnd d s
  | .dryingTimeLimit d => Sys2Proof.Machine.execDryingTimeLimit d s
  | .minimumCoolTimeReached d => Sys2Proof.Machine.execMinimumCoolTimeReached d s
  | .maximumCoolTime d => Sys2Proof.Machine.execMaximumCoolTime d s
  | .guardIntervalExpiry d => Sys2Proof.Machine.execGuardIntervalExpiry d s
  | .guardLimit d => Sys2Proof.Machine.execGuardLimit d s
  | .fanOverrunExpiry d => Sys2Proof.Machine.execFanOverrunExpiry d s
  | .pauseLimitExpiry d => Sys2Proof.Machine.execPauseLimitExpiry d s
  | .statusWaitExpiry d => Sys2Proof.Machine.execStatusWaitExpiry d s
  | .runLengthEnd d => Sys2Proof.Machine.execRunLengthEnd d s
  | .maximumRunSeconds d => Sys2Proof.Machine.execMaximumRunSeconds d s
  | .minimumRunReached d => Sys2Proof.Machine.execMinimumRunReached d s
  | .guardTumbleEnd d => Sys2Proof.Machine.execGuardTumbleEnd d s
  | .decelTimeout d => Sys2Proof.Machine.execDecelTimeout d s
  | .dwellExpiry d => Sys2Proof.Machine.execDwellExpiry d s
  | .recoverDelayExpiry d => Sys2Proof.Machine.execRecoverDelayExpiry d s
  | .trialExpiry d => Sys2Proof.Machine.execTrialExpiry d s
  | .retryDelayExpiry d => Sys2Proof.Machine.execRetryDelayExpiry d s
  | .stableFlameExpiry d => Sys2Proof.Machine.execStableFlameExpiry d s
  | .inletStarvationExpiry d => Sys2Proof.Machine.execInletStarvationExpiry d s
  | .heatDemand d => Sys2Proof.Machine.execHeatDemand d s
  | .entryWaitExpiry d => Sys2Proof.Machine.execEntryWaitExpiry d s
  | .extraDryExpiry d => Sys2Proof.Machine.execExtraDryExpiry d s
  | .sampleStarvationExpiry d => Sys2Proof.Machine.execSampleStarvationExpiry d s
  | .eventTaken src => Sys2Proof.Machine.execEventTaken src s
  | .attributeIncrement src => Sys2Proof.Machine.execAttributeIncrement src s
end Sys2Proof.Machine
end

