-- ==== Sys2Proof/Machine/Time.lean ====
section
/-! DEFINITION. One millisecond of the part's clock: what the clock, the timers and the elapsed times do (log 2). -/

namespace Sys2Proof.Machine

/-- One millisecond off a timer that runs; a suspended or stopped timer keeps what it holds. -/
def countDown (runs : Bool) (t : Timer) : Timer := if runs then t.map (· - 1) else t

/-- The port's timers run in every state that loads them (R11, R17, R19, R21, R23). -/
def Port.tick (p : Port) : Port :=
  { p with
    debounce :=
      { door := countDown true p.debounce.door
        lint := countDown true p.debounce.lint
        airflow := countDown true p.debounce.airflow
        highlimit := countDown true p.debounce.highlimit }
    refresh := countDown true p.refresh
    grace := countDown true p.grace
    standby := countDown true p.standby
    arm := countDown true p.arm
    checker := countDown true p.checker }

/-- The cycle's timers run; drying time counts in DRYING, cooling time in COOLING, guard time in GUARD (R74, R76, R77). -/
def Cycle.tick (c : Cycle) : Cycle :=
  { c with
    drying := if c.state = .drying then c.drying + 1 else c.drying
    cooling := if c.state = .cooling then c.cooling + 1 else c.cooling
    prove := countDown true c.prove
    air := countDown true c.air
    fanOverrun := countDown true c.fanOverrun
    pauseLimit := countDown true c.pauseLimit
    guardInterval := countDown true c.guardInterval
    guardElapsed := c.guardElapsed.map (· + 1) }

/-- The run and dwell timers run in every port state; the decel and status wait timers only while the port is in UP (R96, R97,
R99, R101). No rule says in which port states the recover delay timer runs: that it runs in every one is the model's choice
(log 47). -/
def Tumble.tick (portUp : Bool) (t : Tumble) : Tumble :=
  { t with
    runTimer := if t.runTiming then t.runTimer + 1 else t.runTimer
    statusWait := countDown portUp t.statusWait
    decel := countDown portUp t.decel
    dwell := countDown true t.dwell
    recoverDelay := countDown true t.recoverDelay }

/-- The retry-delay and inlet starvation timers run in every port state; the trial and stable-flame timers only while
the port is in UP (R143, R152). -/
def Burner.tick (portUp : Bool) (b : Burner) : Burner :=
  { b with
    trial := countDown portUp b.trial
    retryDelay := countDown true b.retryDelay
    stable := countDown portUp b.stable
    starvation := countDown true b.starvation }

/-- The extra-dry timer runs in DRYING (R161); the sample-starvation timer in DRYING and a run (R162). -/
def Dryness.tick (drying inRun : Bool) (m : Dryness) : Dryness :=
  { m with
    extraDry := countDown drying m.extraDry
    starvation := countDown (drying && inRun) m.starvation }

/-- One millisecond of one drum's blocks. -/
def DrumState.tick (D : DrumState) : DrumState :=
  { D with
    port := D.port.tick
    cycle := D.cycle.tick
    tumble := D.tumble.tick (D.port.state == .up)
    burner := D.burner.tick (D.port.state == .up)
    dryness := D.dryness.tick (D.cycle.state == .drying) D.tumble.state.running }

/-- One millisecond of the part. While RESETn is held low no block acts and the clock does not run (R65). -/
def tick (s : State) : State :=
  if s.resetHeld then s
  else
    { s with
      clock := s.clock + 1
      drums := #v[s.drums[0].tick, s.drums[1].tick, s.drums[2].tick, s.drums[3].tick] }

end Sys2Proof.Machine
end

