-- ==== Sys2Proof/Safety.lean ====
section
/-! DEFINITION. The properties the manual states of every state of the part, as predicates on State. -/

namespace Sys2Proof.Machine

/-! ### Flame (R144) -/

/-- The FLAME image stage of a drum is at most the permissive cap, at most the granted stage, and at most each demand of
the drum that the allocator has not taken (R122). The cap is above 0 only in DRYING with the discretes quiet, the lockout
clear and the rest flag set, so this is R144's sentence and more. -/
def FlameOk (s : State) (d : Drum) : Prop :=
  (s.drum d).port.image.flameStage ≤ (s.drum d).permissiveCap ∧
    (s.drum d).port.image.flameStage ≤ (s.share d).granted ∧
    ∀ p ∈ s.flight.demands, p.1 = d → (s.drum d).port.image.flameStage ≤ p.2

/-- Every drum's FLAME image stage is permitted. -/
def FlameSafe (s : State) : Prop := ∀ d, FlameOk s d

/-- R144's sentence: a FLAME image stage above 0 only in DRYING, with DOOR closed, AIRFLOW proven and HIGHLIMIT normal,
the heat lockout clear, and the granted stage at least the image stage. -/
def FlamePermitted (s : State) : Prop :=
  ∀ d, 0 < (s.drum d).port.image.flameStage →
    (s.drum d).cycle.state = .drying ∧ (s.drum d).port.readings.doorOpen = false ∧
      (s.drum d).port.readings.airflowNotProven = false ∧ (s.drum d).port.readings.highlimitTripped = false ∧
      (s.drum d).burner.lockout = none ∧ (s.drum d).port.image.flameStage ≤ (s.share d).granted

/-- R122's sentence: the allocator finds the FLAME entry of a drum at or below each demand it is still to take. -/
def DemandsFindFlameLowered (s : State) : Prop :=
  ∀ p ∈ s.flight.demands, (s.drum p.1).port.image.flameStage ≤ p.2

/-! ### Bounded queues and lists (R50, R52, R54, R56, R158, R173) -/

/-- The inbox, the reply queue, the forward queue, the alert run count and the alert list are within their bounds. -/
def QueuesBounded (s : State) : Prop :=
  s.cabinet.inbox.length ≤ 4 ∧ s.cabinet.replies.length ≤ 4 ∧ s.cabinet.forwards.length ≤ 32 ∧
    s.cabinet.alertRun ≤ 4 ∧ s.router.alerts.length ≤ 32

/-- At most one alert list entry for each event and drum (R173). -/
def AlertsDistinct (s : State) : Prop := (s.router.alerts.map fun e => (e.event, e.drum)).Nodup

/-- Every drum's wetness window holds at most 16 values (R158). -/
def WindowsBounded (s : State) : Prop := ∀ d, (s.drum d).dryness.window.length ≤ 16

/-! ### The classification table (R32) -/

/-- Entries in use have distinct numbers of the pool; an EXACT entry lies on the bucket its tuple folds to; no chain
holds more than 8 entries; no two EXACT entries share a tuple and no two SIGNATURE entries of a chain a signature. -/
def TableSound (s : State) : Prop :=
  (s.classifier.entries.map (·.number)).Nodup ∧
    (∀ e ∈ s.classifier.entries, e.number < 512) ∧
    (∀ e ∈ s.classifier.entries, ∀ t, e.key = .exact t → e.bucket = bucketIndex s.classifier.bucketSpread t) ∧
    (∀ b, (s.classifier.chain b).length ≤ 8) ∧
    s.classifier.entries.Pairwise fun e x => e.duplicates x = false

/-! ### The heat allocator (R117 to R120) -/

/-- The held sum is within the budget in force (R117). -/
def WithinBudget (s : State) : Prop := s.heat.heldSum ≤ s.heat.budget

/-- At most one queue entry per drum, hence at most four (R120). -/
def HeatQueueSound (s : State) : Prop := (s.heat.queue.map (·.drum)).Nodup

/-- No drum in heat lockout has an entry or a granted stage above 0 (R120). -/
def LockedOutDrumsHoldNoHeat (s : State) : Prop :=
  ∀ d, (s.drum d).burner.lockout ≠ none → (s.share d).granted = 0 ∧ s.heat.entry? d = none

/-- The costs of a stage do not fall as the stage rises (R67: c2 is not below c1). -/
def CostsOrdered (s : State) : Prop :=
  ∀ d, (s.drum d).config.c1 ≤ (s.drum d).config.c2 ∧ ∀ c, (s.share d).costs = some c → c.c1 ≤ c.c2

/-- The grant list holds exactly the drums with a granted stage above 0, each once; stages are 0 to 2; a drum with a
stage or an entry holds its cost copy (R118, R119). -/
def GrantsSound (s : State) : Prop :=
  s.heat.grants.Nodup ∧ (∀ d, d ∈ s.heat.grants ↔ 0 < (s.share d).granted) ∧ (∀ d, (s.share d).granted ≤ 2) ∧
    (∀ d, 0 < (s.share d).granted → (s.share d).costs ≠ none)

/-- Every queue entry wants more than its drum holds, at the incremental cost from the drum's copy (R120). -/
def EntriesSound (s : State) : Prop :=
  ∀ e ∈ s.heat.queue,
    (s.share e.drum).granted < e.wanted ∧ e.wanted ≤ 2 ∧ (s.share e.drum).costs ≠ none ∧
      e.cost + (s.share e.drum).heldCost = (s.share e.drum).cost e.wanted

/-! ### Routes (R170) -/

/-- The routes of codes 30 and 31 hold class NONE, line flag clear and action NONE (R170). -/
def SpareRoutesEmpty (s : State) : Prop := s.router.routes[(30 : Fin 32)] = {} ∧ s.router.routes[(31 : Fin 32)] = {}

/-! ### Bounds of the allocator's stages (R117, R120, R121) -/

/-- Wanted stages, demands under way and held demands are 0 to 2; an entry wants its drum's held demand, and no drum
holds more than it last demanded (R121, R122, R131). -/
def StagesBounded (s : State) : Prop :=
  (∀ d, (s.drum d).burner.wanted ≤ 2) ∧ (∀ p ∈ s.flight.demands, p.2 ≤ 2) ∧
    (∀ d, (s.share d).held ≤ 2 ∧ (s.share d).granted ≤ (s.share d).held) ∧
    ∀ e ∈ s.heat.queue, e.wanted = (s.share e.drum).held

/-- What the rules of chapter 7 keep together. -/
def HeatSound (s : State) : Prop :=
  WithinBudget s ∧ HeatQueueSound s ∧ LockedOutDrumsHoldNoHeat s ∧ CostsOrdered s ∧ GrantsSound s ∧ EntriesSound s ∧
    StagesBounded s

/-! ### Links (R19, R80) -/

/-- A cycle is in PURGE, DRYING, COOLING or GUARD only while its port is in UP, or in SEEK within a link-loss grace
interval (R80). -/
def ActiveCyclesHaveLinks (s : State) : Prop :=
  ∀ d, (s.drum d).cycle.state.active = true →
    (s.drum d).port.state = .up ∨ ((s.drum d).port.state = .seek ∧ (s.drum d).port.grace ≠ none)

/-- The standby timer is loaded exactly while its conditions hold (R19). -/
def StandbyTimersFollow (s : State) : Prop :=
  ∀ d, (s.drum d).port.standby.isSome = (s.drum d).standbyRuns

/-! ### The DRIVE entry (R67, R69, R94, R103) -/

/-- A tumble controller at rest or on its way to rest: STOPPED, or DECEL or RECOVER with target STOPPED and no recover delay
under way. -/
def Tumble.comesToRest (t : Tumble) : Prop :=
  t.state = .stopped ∨ ((t.state = .decel ∨ t.state = .recover) ∧ t.target = some .stopped ∧ t.recoverDelay = none)

/-- The DRIVE entry of a drum follows its tumble controller. SERVICE gate mode stands only in VACANT, DONE and HALTED (R67,
R69); outside a cycle under way the controller comes to rest (R78, R85, R103); in AUTO the entry holds RUN in the run's
direction in a run and STOP in any other state (R95 to R97). A recover delay runs only in RECOVER (R101). The dwell and the
recover delay in use last at least 2 s (R94, Table 5-2). -/
def DriveFollows (s : State) (d : Drum) : Prop :=
  ((s.drum d).config.gateMode = .service → (s.drum d).cycle.state.idle = true) ∧
    ((s.drum d).cycle.state ∈ [CycleState.vacant, .ready, .done, .halted] → (s.drum d).tumble.comesToRest) ∧
    ((s.drum d).config.gateMode = .auto →
      ((s.drum d).tumble.state = .runFwd → ∃ v, (s.drum d).port.image.drive = .run .fwd v) ∧
        ((s.drum d).tumble.state = .runRev → ∃ v, (s.drum d).port.image.drive = .run .rev v) ∧
        ((s.drum d).tumble.state.running = false → (s.drum d).port.image.drive = .stop)) ∧
    ((s.drum d).tumble.recoverDelay ≠ none → (s.drum d).tumble.state = .recover) ∧
    2 ≤ (s.drum d).tumble.values.dwell ∧ 2 ≤ (s.drum d).tumble.values.recoverDelay ∧ 1 ≤ (s.drum d).tumble.multiplier

/-- Every drum's DRIVE entry follows its tumble controller, and every profile's dwell and recover delay last at least 2 s. -/
def DrivesFollow (s : State) : Prop :=
  (∀ d, DriveFollows s d) ∧ ∀ n : Fin 8, 2 ≤ s.profiles[n].dwell ∧ 2 ≤ s.profiles[n].recoverDelay

/-- What START does to the tumble controller and DRIVE entry of a drum, from s to t (R94, R103): a drum already tumbling goes
on; DECEL and RECOVER take target RUN; STOPPED without a confirming status enters DECEL with target RUN; STOPPED with one
enters the start dwell, which ends 2 s after its arrival and at once where that moment has passed, with a run FWD where
`first` holds and otherwise opposite the last run. A guard tumble's mark ends (log 14). -/
def Started (s t : State) (d : Drum) (profile : Nat) (first : Bool) : Prop :=
  (t.drum d).tumble.inForce = some profile ∧ (t.drum d).tumble.stalls = 0 ∧ (t.drum d).tumble.guardLength = none ∧
    ((s.drum d).tumble.state ∈ [TumbleState.dwell, .runFwd, .runRev] →
      (t.drum d).tumble =
        { (s.drum d).tumble with inForce := some profile, stalls := 0, guardLength := none, first255 := first }) ∧
    ((s.drum d).tumble.state ∈ [TumbleState.decel, .recover] →
      (t.drum d).tumble =
        { (s.drum d).tumble with
          inForce := some profile, stalls := 0, guardLength := none, first255 := first, target := some .run }) ∧
    ((s.drum d).tumble.state ≠ .stopped → (t.drum d).port.image.drive = (s.drum d).port.image.drive) ∧
    ((s.drum d).tumble.state = .stopped → (s.drum d).confirming = false →
      (t.drum d).tumble.state = .decel ∧ (t.drum d).tumble.target = some .run ∧
        (t.drum d).tumble.decel = seconds (s.drum d).tumble.values.decelTimeout ∧
        (t.drum d).tumble.first255 = first ∧ (t.drum d).port.image.drive = .stop) ∧
    ∀ st, (s.drum d).tumble.state = .stopped → (s.drum d).tumble.status = some st → (s.drum d).confirming = true →
      (elapsed s.clock st.arrival < 2000 →
        (t.drum d).tumble.state = .dwell ∧ (t.drum d).tumble.target = none ∧
          (t.drum d).tumble.dwell = some (2000 - elapsed s.clock st.arrival) ∧
          (t.drum d).tumble.first255 = first ∧ (t.drum d).port.image.drive = (s.drum d).port.image.drive) ∧
      (2000 ≤ elapsed s.clock st.arrival →
        ∀ dir : Direction, (first = true → dir = .fwd) →
          (first = false → dir = if (s.drum d).tumble.lastDir = some .fwd then .rev else .fwd) →
          (t.drum d).tumble.state = (if dir = .fwd then .runFwd else .runRev) ∧
            (t.drum d).tumble.lastDir = some dir ∧ (t.drum d).tumble.first255 = false ∧
            ∀ n : Fin 8, (profile = n.val ∨ (profile = 255 ∧ n = 0)) →
              (t.drum d).tumble.values = s.profiles[n] ∧
                (t.drum d).port.image.drive =
                  .run dir
                    (max 20
                      ((if dir = .fwd then s.profiles[n].fwdSpeed else s.profiles[n].revSpeed) -
                        (s.drum d).tumble.reduction)))

/-! ### The link-lost notice, guard tumbles and early runs (R104, R105, R112, R152) -/

/-- What the link-lost notice makes of a drum from s to t, whatever the cycle controller then does (R105, R108, R114, R152;
that a HOLD or STOP of a grace expiry comes after it is log 45).
The tumble controller drops the held status and writes STOP; STOPPED stays, any other state becomes DECEL with target STOPPED,
the full decel timeout and no other timer. Persistence is kept, but for the STOP of a guard that ends (R80). The burner
supervisor drops the flame status and the rest flag, so that demand, commanded stage and FLAME entry are 0; LIGHTING and
BURNING become IDLE with no timer, any other view stands, and RETRY_WAIT keeps its timer. -/
def NoticeTaken (s t : State) (d : Drum) : Prop :=
  (t.drum d).port.image.drive = .stop ∧ (t.drum d).port.image.flameStage = 0 ∧
    { (t.drum d).tumble with
        multiplier := (s.drum d).tumble.multiplier
        reduction := (s.drum d).tumble.reduction
        stalls := (s.drum d).tumble.stalls } =
      (if (s.drum d).tumble.state = .stopped then { (s.drum d).tumble with status := none }
       else
        { (s.drum d).tumble with
          status := none
          state := .decel
          target := some .stopped
          decel := seconds (s.drum d).tumble.values.decelTimeout
          runTiming := false
          statusWait := none
          dwell := none
          recoverDelay := none }) ∧
    ((s.drum d).tumble.state ≠ .stopped → (t.drum d).tangle.windowOpen = false) ∧
    ((s.drum d).cycle.state ≠ .guarding →
      (t.drum d).tumble.multiplier = (s.drum d).tumble.multiplier ∧
        (t.drum d).tumble.reduction = (s.drum d).tumble.reduction ∧
        (t.drum d).tangle.earlyRuns = (s.drum d).tangle.earlyRuns) ∧
    ((t.drum d).cycle = (s.drum d).cycle → (t.drum d).tumble.stalls = (s.drum d).tumble.stalls) ∧
    { (t.drum d).burner with
        wanted := (s.drum d).burner.wanted
        starvation := (s.drum d).burner.starvation } =
      { (s.drum d).burner with
        flame := none
        rest := false
        demand := 0
        commanded := 0
        view :=
          if (s.drum d).burner.view = .lighting ∨ (s.drum d).burner.view = .burning then .idle
          else (s.drum d).burner.view
        trial := none
        stable := none }

/-- A tumble controller has entered STOPPED from s to t (R77, R97, R101, R104): the mark of a guard tumble ends and the done
report goes to the cycle controller, which in GUARD writes FAN OFF and starts the guard interval again, and elsewhere
disregards it. Without a mark nothing is reported. -/
def GuardTumbleReported (s t : State) (d : Drum) : Prop :=
  (t.drum d).tumble.state = .stopped ∧ (t.drum d).tumble.guardLength = none ∧
    (∀ x g, (s.drum d).tumble.guardLength ≠ none → (s.drum d).cycle.state = .guarding →
      (s.drum d).cycle.record = some x → x.guardPart = some g →
      (t.drum d).cycle = { (s.drum d).cycle with guardInterval := seconds g.interval } ∧
        (t.drum d).port.image.fan = false) ∧
    ((s.drum d).tumble.guardLength = none ∨ (s.drum d).cycle.state ≠ .guarding →
      (t.drum d).cycle = (s.drum d).cycle ∧ (t.drum d).port.image.fan = (s.drum d).port.image.fan)

/-- The tangle count after a revolution with two or more samples is judged (R110). -/
def Tangle.judgedCount (m : Tangle) (threshold : Nat) : Nat :=
  if threshold ≤ m.greatest - m.least then min (m.count + 1) 255 else 0

/-- A run has ended early from s to t, at tangle count n (R108, R112, R113): STOP and DECEL with target DWELL, TANGLE_REVERSAL
with the count, one TANGLE_REVERSALS increment, the early-run count one higher, and at the persist count TANGLE_PERSIST after
it, the persist action and an early-run count of 0. A count beyond the persist count is taken as one at it (the model's
choice, log 48). -/
def EndedEarly (s t : State) (d : Drum) (n : Nat) : Prop :=
  (t.drum d).port.image.drive = .stop ∧ (t.drum d).tumble.state = .decel ∧ (t.drum d).tumble.target = some .dwell ∧
    (t.drum d).tumble.decel = seconds (s.drum d).tumble.values.decelTimeout ∧ (t.drum d).tumble.runTiming = false ∧
    (t.drum d).tangle.windowOpen = false ∧ (t.drum d).tangle.count = n ∧ (t.drum d).cycle = (s.drum d).cycle ∧
    t.flight.increments = s.flight.increments ++ [⟨.tumble d, d, 5⟩] ∧
    ((s.drum d).tangle.earlyRuns + 1 < (s.drum d).tumble.values.persistCount →
      (t.drum d).tangle.earlyRuns = (s.drum d).tangle.earlyRuns + 1 ∧
        (t.drum d).tumble.multiplier = (s.drum d).tumble.multiplier ∧
        (t.drum d).tumble.reduction = (s.drum d).tumble.reduction ∧
        t.flight.events = s.flight.events ++ [⟨.tumble d, .tangleReversal, d, s.clock, some (byte n)⟩]) ∧
    ((s.drum d).tumble.values.persistCount ≤ (s.drum d).tangle.earlyRuns + 1 →
      (t.drum d).tangle.earlyRuns = 0 ∧
        (t.drum d).tumble.multiplier =
          (if (s.drum d).tumble.values.persistAction = .extendDwell then min 4 ((s.drum d).tumble.multiplier * 2)
           else (s.drum d).tumble.multiplier) ∧
        (t.drum d).tumble.reduction =
          (if (s.drum d).tumble.values.persistAction = .slow then
            min 40 ((s.drum d).tumble.reduction + (s.drum d).tumble.values.speedStep)
           else (s.drum d).tumble.reduction) ∧
        t.flight.events =
          s.flight.events ++
            [⟨.tumble d, .tangleReversal, d, s.clock, some (byte n)⟩,
              ⟨.tumble d, .tanglePersist, d, s.clock, some (byte (s.drum d).tumble.values.persistAction.code)⟩])

/-- A run has ended normally from s to t (R96, R97, R108, R114): STOP and DECEL with target DWELL and the full decel timeout,
the persistence cleared, and nothing reported. -/
def EndedNormally (s t : State) (d : Drum) : Prop :=
  (t.drum d).port.image.drive = .stop ∧
    ((s.drum d).port.image.drive ≠ .stop → (t.drum d).port.image.stopTime = s.clock) ∧
    (t.drum d).tumble.state = .decel ∧ (t.drum d).tumble.target = some .dwell ∧
    (t.drum d).tumble.decel = seconds (s.drum d).tumble.values.decelTimeout ∧ (t.drum d).tumble.runTiming = false ∧
    (t.drum d).tumble.multiplier = 1 ∧ (t.drum d).tumble.reduction = 0 ∧ (t.drum d).tangle.earlyRuns = 0 ∧
    (t.drum d).tangle.windowOpen = false ∧ (t.drum d).cycle = (s.drum d).cycle ∧
    (t.drum d).dryness = (s.drum d).dryness ∧ t.flight.events = s.flight.events ∧
    t.flight.increments = s.flight.increments

/-- The full standby time of a drum by its standby code (Table 1-5). -/
def DrumState.fullStandby (D : DrumState) : Nat := if D.config.standbyCode ≤ 7 then 30000 else D.config.standbyCode * 4000

/-! ### Events under way (R168, R185) -/

/-- Event ev waits behind the events raised before it: a HEAT_LOCKOUT by attribute (detail 2) follows the ATTR_CROSSED that
caused it (R185). -/
def WaitsForCrossing (before : List Event) (ev : Event) : Prop :=
  ev.kind = .heatLockout ∧ ev.detail = some 2 ∧ ∃ x ∈ before, x.kind = .attrCrossed ∧ x.drum = ev.drum

/-! ### Grant attempts and revocations (R125, R126, R129 to R132) -/

/-- A grant attempt: rounds that grant lead on, and the attempt ends where a round grants nothing (R125). -/
inductive GrantRounds : State → State → Prop
  | stop {s : State} : grantRound s = none → GrantRounds s s
  | round {s u t : State} : grantRound s = some u → GrantRounds u t → GrantRounds s t

/-- The revocation steps of a budget cut, each on the drum at the tail of the grant list, while the held sum exceeds the
budget (R130). The list holds the drum and the new stage of each step, in order. -/
inductive Revocations (budget : Nat) : State → List (Drum × Nat) → State → Prop
  | stop {s : State} : s.heat.heldSum ≤ budget → Revocations budget s [] s
  | step {s t : State} {d : Drum} {taken : List (Drum × Nat)} :
      budget < s.heat.heldSum → s.heat.grants.getLast? = some d → Revocations budget (revokeStep d s) taken t →
      Revocations budget s ((d, (s.share d).granted - 1) :: taken) t

/-- A burner supervisor has been told granted stage g, from s to t: it recomputes its stages and writes the FLAME entry from
its view, and nothing else of any drum changes (R126, R132, R144). While a demand of the drum waits to be taken, the commanded
stage stays at or below it too (log 37). -/
def BurnerTold (s t : State) (d : Drum) (g : Nat) : Prop :=
  (t.drum d).burner = (s.drum d).burnerNow (s.limited d g) ∧
    (t.drum d).burner.commanded = min (s.drum d).demandNow (s.limited d g) ∧
    (t.drum d).port.image.flameStage = (t.drum d).burner.view.flameStage (t.drum d).burner.commanded ∧
    (t.drum d).port.image.flameStage ≤ g ∧
    { t.drum d with
      burner := (s.drum d).burner
      port :=
        { (t.drum d).port with
          image :=
            { (t.drum d).port.image with
              flameStage := (s.drum d).port.image.flameStage
              flameMarks := (s.drum d).port.image.flameMarks } } } = s.drum d ∧
    ∀ e, e ≠ d → t.drum e = s.drum e

/-- One round of a grant attempt (R125): the head where its cost fits the free amount; else, with the head's bypass count
below the limit, the first later entry that fits, the head's count rising by one; else nothing. -/
def GrantRoundsByRule : Prop :=
  ∀ s : State,
    (s.heat.queue = [] → grantRound s = none) ∧
    ∀ head rest, s.heat.queue = head :: rest →
      (head.cost ≤ s.heat.free → grantRound s = some (grantEntry head s)) ∧
      (s.heat.free < head.cost →
        (s.heat.bypassLimit ≤ head.bypass → grantRound s = none) ∧
        (head.bypass < s.heat.bypassLimit →
          ((∀ e ∈ rest, s.heat.free < e.cost) → grantRound s = none) ∧
          ∀ pre e post, rest = pre ++ e :: post → (∀ x ∈ pre, s.heat.free < x.cost) → e.cost ≤ s.heat.free →
            grantRound s =
              some
                (grantEntry e
                  { s with
                    heat := { s.heat with queue := { head with bypass := head.bypass + 1 } :: rest } })))

/-- A grant (R126): the entry leaves the queue, the drum's granted stage becomes its wanted stage, the drum goes to the tail of
the grant list, and its burner supervisor is told. A grant raises no event. -/
def GrantsByRule : Prop :=
  ∀ (s : State) (e : HeatEntry),
    (grantEntry e s).heat =
        { s.heat with
          shares := s.heat.shares.set e.drum { s.share e.drum with granted := e.wanted }
          grants := s.heat.grants.filter (fun d => d != e.drum) ++ [e.drum]
          queue := s.heat.queue.filter fun x => x.drum != e.drum } ∧
      BurnerTold s (grantEntry e s) e.drum e.wanted ∧
      { grantEntry e s with
        heat := s.heat
        drums := s.drums
        flight := { (grantEntry e s).flight with demands := s.flight.demands } } = s

/-- One revocation step on a drum that holds a stage (R119, R130, R131, R132): the granted stage falls by one and the burner
supervisor is told; a drum lowered to 0 leaves the grant list and one lowered to 1 keeps its place; HEAT_REVOKED carries the
new stage; without an entry the held demand makes one at the tail, and an entry in the queue keeps all but its cost. -/
def RevocationStepsByRule : Prop :=
  ∀ (s : State) (d : Drum) (g : Nat), (s.share d).granted = g + 1 →
    ((revokeStep d s).heat.shares = s.heat.shares.set d { s.share d with granted := g } ∧
        (revokeStep d s).heat.grants = (if g = 0 then s.heat.grants.filter (fun e => e != d) else s.heat.grants) ∧
        (revokeStep d s).heat.budget = s.heat.budget ∧ (revokeStep d s).heat.bypassLimit = s.heat.bypassLimit ∧
        (revokeStep d s).heat.waitLimit = s.heat.waitLimit) ∧
      ((∀ e ∈ s.heat.queue, e.drum ≠ d) →
        (revokeStep d s).heat.queue =
          s.heat.queue ++
            [⟨d, (s.share d).held, (s.share d).cost (s.share d).held - (s.share d).cost g, 0, s.clock, false⟩]) ∧
      ((∃ e ∈ s.heat.queue, e.drum = d) →
        (revokeStep d s).heat.queue =
          s.heat.queue.map fun e =>
            if e.drum = d then { e with cost := (s.share d).cost e.wanted - (s.share d).cost g } else e) ∧
      BurnerTold s (revokeStep d s) d g ∧
      (revokeStep d s).flight.events =
        s.flight.events ++ [⟨.allocator, .heatRevoked, d, s.clock, some (byte g)⟩] ∧
      { revokeStep d s with
        heat := s.heat
        drums := s.drums
        flight := { (revokeStep d s).flight with demands := s.flight.demands, events := s.flight.events } } = s

/-! ### Requests taken and answered (R19, R51, R52, R64) -/

/-- The engine can take request r: out of reset, r at the head of the inbox, room for its reply, no PART_RESET waiting. -/
def State.offers (s : State) (r : Request) (rest : List Request) : Prop :=
  s.resetHeld = false ∧ s.cabinet.inbox = r :: rest ∧ s.cabinet.takes = true

/-- The cabinet record with request r taken and its reply at the tail of the reply queue. -/
def State.replied (s : State) (r : Request) (rest : List Request) (st : Status) (data : List Byte) : Cabinet :=
  { s.cabinet with inbox := rest, replies := s.cabinet.replies ++ [⟨r.tag, r.code, st, data⟩] }

/-- The standby timer of the drum that request r names is reloaded (R19, R52). -/
def State.named (s : State) (r : Request) : State :=
  match (if r.valid then r.names else none) with
  | some d => reloadStandby d s
  | none => s

/-- A state after an owner's work, with the request taken, the drum it names awake and its reply queued. -/
def State.answered (s : State) (r : Request) (rest : List Request) (st : Status) (data : List Byte) : State :=
  { s.named r with cabinet := s.replied r rest st data }

/-- The commands in which the management engine takes a request. -/
def requestCommands : List Instr :=
  [.badRequest, .configWriteHeatBudget, .configWriteBypassLimit, .configWriteHeatWaitLimit, .configWriteBucketSpread,
    .configWriteSignatureSpread, .configWriteMissAction, .drumConfigWrite, .profileWrite, .routeWrite, .classAdd,
    .classRemove, .classQuery, .classRead, .cycleLoad, .cycleUnload, .cycleStart, .cyclePause, .cycleResume,
    .cycleEndHeat, .cycleAbort, .drumReset, .heatLockoutClear, .powerOff, .serviceOnly, .bringUp, .holdNodes,
    .releaseNodes, .testSend, .testReceive, .testEnd, .passThrough, .alertAck, .attrLoad, .attrRead, .attrClear,
    .statusReadPart, .statusReadDrum, .statusReadPort, .statusReadHeat, .partReset]

/-- The commands that reset the part (R65). PART_RESET resets it when its reply has been sent. -/
def resetCommands : List Instr := [.powerOnReset, .resetnAssert, .resetnRelease]

/-! ### What an operation on one drum leaves alone -/

/-- Everything of the state but one drum, the demands of that drum under way, and the events and increments handed on. -/
structure Besides where
  clock : Clock
  resetHeld : Bool
  cabinet : Cabinet
  classifier : Classifier
  profiles : Vector Profile 8
  heat : Heat
  router : Router
  attributes : AttrStore
  frames : List HandedFrame
  absorbs : List (Drum × Absorbed)
  demands : List (Drum × Nat)
  pending : List Instr
  config : DrumConfig
  drums : Vector DrumState 4

/-- What an operation on drum d leaves alone: all of the state but that drum's blocks, its configuration excepted, and
the events, increments and that drum's demands handed on. -/
def State.besides (s : State) (d : Drum) : Besides :=
  ⟨s.clock, s.resetHeld, s.cabinet, s.classifier, s.profiles, s.heat, s.router, s.attributes, s.flight.frames,
    s.flight.absorbs, s.flight.demands.filter fun p => p.1 != d, s.pending, (s.drum d).config, s.drums.set d {}⟩

end Sys2Proof.Machine
end

