-- ==== Sys2Proof/Certificates/Slice0/Obligations.lean ====
section
/-! DEFINITION. The statements about the part, for the provers. A statement about a request reads: with request r at the
head of the inbox and room for its reply, the command answers a next state, which is a state t after the owner's work with
r answered (State.answered). -/

open Sys2Proof Sys2Proof.Machine

/-! ### The part as a machine -/

/-- A step takes the command at the front of the queue and runs it on the state with the queue's rest. -/
def Obligations.StepRunsTheFrontCommand : Prop :=
  ∀ (s : State) (c : Instr) (rest : List Instr),
    s.pending = c :: rest → step s = exec c { s with pending := rest }

/-- On an empty queue a step is one millisecond of the part's clock (the model's choice, log 2), field by field: the clock
rises; a running timer falls by one, never below 0; an elapsed time rises where its rule counts it. The decel, status wait,
trial and stable-flame timers stand still outside UP (R96, R97, R152), the extra-dry timer outside DRYING (R161), the
sample-starvation timer outside DRYING and a run (R162). That the recover delay runs in every port state is the model's choice
(log 47). Nothing else changes, and nothing at all while RESETn is held low
(R65, log 19). -/
def Obligations.EmptyQueueStepIsOneMillisecond : Prop :=
  ∀ s : State, s.pending = [] →
    (s.resetHeld = true → step s = .next s) ∧
    (s.resetHeld = false →
      ∃ t : State, step s = .next t ∧ t.clock = s.clock + 1 ∧ { t with clock := s.clock, drums := s.drums } = s ∧
        ∀ d,
          t.drum d =
            { config := (s.drum d).config
              tangle := (s.drum d).tangle
              port :=
                { (s.drum d).port with
                  debounce :=
                    { door := (s.drum d).port.debounce.door.map (· - 1)
                      lint := (s.drum d).port.debounce.lint.map (· - 1)
                      airflow := (s.drum d).port.debounce.airflow.map (· - 1)
                      highlimit := (s.drum d).port.debounce.highlimit.map (· - 1) }
                  refresh := (s.drum d).port.refresh.map (· - 1)
                  grace := (s.drum d).port.grace.map (· - 1)
                  standby := (s.drum d).port.standby.map (· - 1)
                  arm := (s.drum d).port.arm.map (· - 1)
                  checker := (s.drum d).port.checker.map (· - 1) }
              cycle :=
                { (s.drum d).cycle with
                  drying := (s.drum d).cycle.drying + (if (s.drum d).cycle.state = .drying then 1 else 0)
                  cooling := (s.drum d).cycle.cooling + (if (s.drum d).cycle.state = .cooling then 1 else 0)
                  prove := (s.drum d).cycle.prove.map (· - 1)
                  air := (s.drum d).cycle.air.map (· - 1)
                  fanOverrun := (s.drum d).cycle.fanOverrun.map (· - 1)
                  pauseLimit := (s.drum d).cycle.pauseLimit.map (· - 1)
                  guardInterval := (s.drum d).cycle.guardInterval.map (· - 1)
                  guardElapsed := (s.drum d).cycle.guardElapsed.map (· + 1) }
              tumble :=
                { (s.drum d).tumble with
                  runTimer := (s.drum d).tumble.runTimer + (if (s.drum d).tumble.runTiming then 1 else 0)
                  statusWait :=
                    if (s.drum d).port.state = .up then (s.drum d).tumble.statusWait.map (· - 1)
                    else (s.drum d).tumble.statusWait
                  decel :=
                    if (s.drum d).port.state = .up then (s.drum d).tumble.decel.map (· - 1)
                    else (s.drum d).tumble.decel
                  dwell := (s.drum d).tumble.dwell.map (· - 1)
                  recoverDelay := (s.drum d).tumble.recoverDelay.map (· - 1) }
              burner :=
                { (s.drum d).burner with
                  trial :=
                    if (s.drum d).port.state = .up then (s.drum d).burner.trial.map (· - 1)
                    else (s.drum d).burner.trial
                  retryDelay := (s.drum d).burner.retryDelay.map (· - 1)
                  stable :=
                    if (s.drum d).port.state = .up then (s.drum d).burner.stable.map (· - 1)
                    else (s.drum d).burner.stable
                  starvation := (s.drum d).burner.starvation.map (· - 1) }
              dryness :=
                { (s.drum d).dryness with
                  extraDry :=
                    if (s.drum d).cycle.state = .drying then (s.drum d).dryness.extraDry.map (· - 1)
                    else (s.drum d).dryness.extraDry
                  starvation :=
                    if (s.drum d).cycle.state = .drying ∧ (s.drum d).tumble.state.running = true then
                      (s.drum d).dryness.starvation.map (· - 1)
                    else (s.drum d).dryness.starvation } })

/-- No command is refused or faults: each answers a next state, and none touches the queue of waiting commands. -/
def Obligations.EveryCommandAnswersANextState : Prop :=
  ∀ (c : Instr) (s : State), ∃ t : State, exec c s = .next t ∧ t.pending = s.pending

/-! ### Reset (R64, R65, R188 and each chapter's reset table) -/

/-- The resets by RESETn and by the supply, and the standstill between assertion and release (R65); PART_RESET: an OK reply is
queued, no request is taken while it waits, and the end of its transmission resets the part as RESETn does, the attribute
store keeping its records (R64, R188). That the pin keeps its level through a power-on reset is the model's choice (log 19),
and that work in flight, a handed attribute increment included, is lost at each of the three resets is the model's reading
(log 25). -/
def Obligations.ResetsSetTheResetValues : Prop :=
  (∀ s : State,
     exec .powerOnReset s = .next { State.reset with pending := s.pending, resetHeld := s.resetHeld } ∧
     exec .resetnAssert s =
       .next { State.reset with attributes := s.attributes, pending := s.pending, resetHeld := true } ∧
     (s.resetHeld = true → exec .resetnRelease s = .next { s with resetHeld := false, clock := 0 }) ∧
     (s.resetHeld = false → exec .resetnRelease s = .next s) ∧
     ∀ c, s.resetHeld = true → c ∉ resetCommands → exec c s = .next s) ∧
  ((∀ (s : State) (r : Request) (rest : List Request), s.offers r rest → r.code = 25 → r.args = [] →
     exec .partReset s = .next { s with cabinet := s.replied r rest .ok [] } ∧
       (s.replied r rest .ok []).takes = false) ∧
   ∀ (s : State) (tag : Byte) (later : List Reply) (m a ma aa : Bool) (bytes : List Byte), s.resetHeld = false →
     s.cabinet.outgoing = some (.reply m a ma aa bytes) → s.cabinet.replies = ⟨tag, 25, .ok, []⟩ :: later →
     exec .replyTransmitEnd s =
       .next { State.reset with attributes := s.attributes, pending := s.pending, resetHeld := false })

/-- State.reset holds the values of the spec's reset tables, every row (3-6, 2-4, 5-2, 7-2, 10-3, 10-4, 11-2, 1-6, 4-1, 4-9,
5-3, 6-2, 8-3, 9-2). The model's own fields are empty or clear: the level of RESETn (log 19), the frames and work in flight,
the lane lock and interval marks and the last line-test signal (log 33), the mark of a first run under profile 255 (log 40);
the profile values in use before any run are the model's choice (log 8). -/
def Obligations.ResetStateHoldsTheTables : Prop :=
  State.reset.clock = 0 ∧ State.reset.resetHeld = false ∧ State.reset.pending = [] ∧
  State.reset.flight = { frames := [], absorbs := [], events := [], demands := [], increments := [] } ∧
  State.reset.cabinet =
    { linkUp := false, inbox := [], replies := [], mgmtOverrun := false, alertOverrun := false, forwards := [],
      alertRun := 0, outgoing := none } ∧
  State.reset.classifier.bucketSpread = 0 ∧ State.reset.classifier.signatureSpread = 0 ∧
  State.reset.classifier.entries = [] ∧ (∀ d : Drum, State.reset.classifier.miss[d] = .forwardMarked) ∧
  (∀ n : Fin 8,
    State.reset.profiles[n] =
      { timebase := .seconds, fwdRun := 120, revRun := 120, maxRun := 300, dwell := 6, fwdSpeed := 40, revSpeed := 40,
        minRun := 30, decelTimeout := 10, recoverDelay := 5, retryLimit := 2, swingThreshold := 4000, trigger := 3,
        persistCount := 3, persistAction := .extendDwell, speedStep := 2 }) ∧
  State.reset.heat.budget = 0 ∧ State.reset.heat.bypassLimit = 2 ∧ State.reset.heat.waitLimit = 0 ∧
  State.reset.heat.grants = [] ∧ State.reset.heat.queue = [] ∧
  (∀ d, State.reset.share d = { granted := 0, held := 0, costs := none }) ∧
  State.reset.router.alerts = [] ∧ State.reset.router.alertLow = false ∧
  (∀ n : Fin 32,
    State.reset.router.routes[n] =
      if n.val ∈ [4, 7, 9, 14] then { cls := .fault, line := true, action := .none }
      else if n.val ∈ [5, 8, 11, 15] then { cls := .warning, line := false, action := .none }
      else if n.val = 13 then { cls := .notice, line := false, action := .none }
      else { cls := .none, line := false, action := .none }) ∧
  (∀ d a, State.reset.attr d a = { raw := 0, crossed := false, noStart := false }) ∧
  State.reset.attributes.valid = false ∧ State.reset.attributes.revision = 0 ∧
  (∀ a : Fin 8, State.reset.attributes.table[a] = { limit := 0, consequence := .none }) ∧
  ∀ d,
    (State.reset.drum d).config =
      { motorNode := 0, burnerNode := 0, fanNode := 0, gateMode := .auto, refreshSteps := 20, graceSteps := 5,
        debounceSteps := 5, standbyCode := 75, c1 := 40, c2 := 100, proveTimeout := 15, minAir := 20, fanOverrun := 60,
        pauseLimit := 30, starvation := 30, trialLimit := 10, retryLimit := 2, retryDelay := 30, stableTime := 120,
        exhaustCap := 220 } ∧
    (State.reset.drum d).port =
      { state := .off, laneLocked := false, serviceLock := false, readings := ⟨true, true, true, true⟩,
        debounce := { door := none, lint := none, airflow := none, highlimit := none }, presence := 0, hold := false,
        image :=
          { drive := .stop, stopTime := 0, flameStage := 0, resetLockout := false, fan := false,
            driveMarks := { change := false, refresh := false }, flameMarks := { change := false, refresh := false },
            fanMarks := { change := false, refresh := false } },
        slot := none, sending := none, refresh := none, grace := none, standby := none, arm := none, checker := none,
        lockGap := false,
        lineTest := { direction := .send, mode := .latched, outcome := .none, errors := 0, errorFlag := false },
        signal := none, malformed := 0, checkFailed := 0 } ∧
    (State.reset.drum d).cycle =
      { state := .vacant, record := none, causes := [], pausedFrom := none, purgeTarget := none, drying := 0,
        cooling := 0, minCoolPassed := false, reason := .none, halt := .none, prove := none, air := none,
        fanOverrun := none, pauseLimit := none, guardInterval := none, guardElapsed := none } ∧
    (State.reset.drum d).tumble =
      { state := .stopped, target := none, inForce := none, values := State.reset.profiles[(0 : Fin 8)],
        noReversal := false, status := none, lastDir := none, first255 := false, runTimer := 0, runTiming := false,
        revBase := 0, baseTaken := false, revCount := 0, statusWait := none, decel := none, dwell := none,
        recoverDelay := none, stalls := 0, multiplier := 1, reduction := 0, guardLength := none } ∧
    (State.reset.drum d).tangle =
      { windowOpen := false, greatest := 0, least := 0, samples := 0, count := 0, lastSwing := 0, earlyRuns := 0 } ∧
    (State.reset.drum d).burner =
      { view := .idle, wanted := 0, demand := 0, commanded := 0, inlet := none, exhaust := none, exhaustHigh := false,
        flame := none, rest := false, retries := 0, lockout := none, trial := none, retryDelay := none, stable := none,
        starvation := none } ∧
    (State.reset.drum d).dryness =
      { window := [], settle := 0, confirm := 0, dryReached := false, extraDry := none, starvation := none,
        starved := false }

/-- The state after reset has every invariant stated below. -/
def Obligations.ResetStateIsSound : Prop :=
  FlameSafe State.reset ∧ QueuesBounded State.reset ∧ AlertsDistinct State.reset ∧ WindowsBounded State.reset ∧
    TableSound State.reset ∧ HeatSound State.reset ∧ ActiveCyclesHaveLinks State.reset ∧
    StandbyTimersFollow State.reset ∧ SpareRoutesEmpty State.reset ∧ DrivesFollow State.reset

/-! ### Cabinet link and transmitter (R48 to R56, R176) -/

/-- Lock and loss of lock of the cabinet receiver, the frames that arrive (R48, R49, R50), and the complete end of each kind
of frame sent (R52, R53, R54, R176). A request that finds the inbox full sets MGMT_OVERRUN, and a reply under way remembers
that it was set again, so that its end leaves the flag set (R50, R53). -/
def Obligations.CabinetFramesArriveAndEnd : Prop :=
  (∀ s : State, s.resetHeld = false →
     exec .cabinetLock s = .next { s with cabinet := { s.cabinet with linkUp := true } } ∧
     ((∀ event d count bytes, s.cabinet.outgoing ≠ some (.alert event d count bytes)) →
       exec .cabinetLockLost s = .next { s with cabinet := { s.cabinet with linkUp := false, outgoing := none } }) ∧
     (∀ event d count bytes, s.cabinet.outgoing = some (.alert event d count bytes) →
       exec .cabinetLockLost s =
         .next
           { s with
             cabinet := { s.cabinet with linkUp := false, outgoing := none }
             router :=
               { s.router with
                 alerts :=
                   s.router.alerts.map fun e =>
                     if e.event = event ∧ e.drum = d ∧ e.send = .sending then
                       { e with send := if e.countSent = 0 then .unsent else .resend }
                     else e } }) ∧
     (∀ bytes, s.cabinet.linkUp = false → exec (.cabinetFrameReceived bytes) s = .next s) ∧
     (∀ bytes, s.cabinet.linkUp = true →
       (checkPassed bytes = false ∨ bytes.length ≠ natAt bytes 1 + 4 ∨ natAt bytes 0 ≠ 1 ∨ natAt bytes 1 < 2 ∨
         64 < natAt bytes 1) →
       exec (.cabinetFrameReceived bytes) s = .next s) ∧
     (∀ tag code args, s.cabinet.linkUp = true → args.length ≤ 62 →
       (s.cabinet.inbox.length < 4 →
         exec (.cabinetFrameReceived (cabinetFrame 1 (tag :: code :: args))) s =
           .next { s with cabinet := { s.cabinet with inbox := s.cabinet.inbox ++ [⟨tag, code, args⟩] } }) ∧
       (4 ≤ s.cabinet.inbox.length →
         exec (.cabinetFrameReceived (cabinetFrame 1 (tag :: code :: args))) s =
           .next
             { s with
               cabinet :=
                 { s.cabinet with
                   mgmtOverrun := true
                   outgoing :=
                     match s.cabinet.outgoing with
                     | some (.reply m a _ aa sent) => some (.reply m a true aa sent)
                     | o => o } }))) ∧
  (∀ s : State, s.resetHeld = false →
     (∀ m a ma aa bytes q rest, s.cabinet.outgoing = some (.reply m a ma aa bytes) → s.cabinet.replies = q :: rest →
       q.resetsPart = false →
       exec .replyTransmitEnd s =
         .next
           { s with
             cabinet :=
               { s.cabinet with
                 replies := rest
                 mgmtOverrun := if m = true ∧ ma = false then false else s.cabinet.mgmtOverrun
                 alertOverrun := if a = true ∧ aa = false then false else s.cabinet.alertOverrun
                 outgoing := none } }) ∧
     (∀ bytes f rest, s.cabinet.outgoing = some (.forward bytes) → s.cabinet.forwards = f :: rest →
       exec .forwardRecordEnd s = .next { s with cabinet := { s.cabinet with forwards := rest, outgoing := none } }) ∧
     (∀ event d count bytes, s.cabinet.outgoing = some (.alert event d count bytes) →
       exec .alertFrameEnd s =
         .next
           { s with
             cabinet := { s.cabinet with outgoing := none }
             router :=
               { s.router with
                 alerts :=
                   s.router.alerts.map fun e =>
                     if e.event = event ∧ e.drum = d ∧ e.send = .sending then
                       { e with send := .sent, countSent := count }
                     else if e.event = event ∧ e.drum = d ∧ e.send = .resend then { e with countSent := count }
                     else e } }) ∧
     (s.cabinet.outgoing = none →
       exec .replyTransmitEnd s = .next s ∧ exec .forwardRecordEnd s = .next s ∧ exec .alertFrameEnd s = .next s))

/-- The transmitter's choice and the alert run count (R55, R56, R175). -/
def Obligations.TransmitterChoosesByRule : Prop :=
  ∀ s : State, s.resetHeld = false →
    (s.cabinet.linkUp = false ∨ s.cabinet.outgoing ≠ none → exec .transmitChoice s = .next s) ∧
    (s.cabinet.linkUp = true → s.cabinet.outgoing = none →
      (∀ q rest, s.cabinet.replies = q :: rest →
        exec .transmitChoice s =
          .next
            { s with
              cabinet :=
                { s.cabinet with
                  outgoing :=
                    some
                      (.reply s.cabinet.mgmtOverrun s.cabinet.alertOverrun false false
                        (cabinetFrame 2
                          ([q.tag, q.code, byte q.status.code,
                            overrunFlags s.cabinet.mgmtOverrun s.cabinet.alertOverrun] ++ q.data))) } }) ∧
      (s.cabinet.replies = [] →
        (∀ f rest, s.cabinet.forwards = f :: rest → (4 ≤ s.cabinet.alertRun ∨ s.router.nextAlert = none) →
          exec .transmitChoice s =
            .next
              { s with
                cabinet := { s.cabinet with alertRun := 0, outgoing := some (.forward (cabinetFrame 3 f.body)) } }) ∧
        (∀ before e after, AlertsDistinct s → s.router.alerts = before ++ e :: after →
          (∀ x ∈ before, x.send = .sending ∨ x.send = .sent) → (e.send = .unsent ∨ e.send = .resend) →
          (s.cabinet.alertRun < 4 ∨ s.cabinet.forwards = []) →
          exec .transmitChoice s =
            .next
              { s with
                router := { s.router with alerts := before ++ { e with send := .sending } :: after }
                cabinet :=
                  { s.cabinet with
                    alertRun := if s.cabinet.forwards = [] then 0 else min 4 (s.cabinet.alertRun + 1)
                    outgoing := some (.alert e.event e.drum e.count (cabinetFrame 4 e.body)) } }) ∧
        (s.cabinet.forwards = [] → s.router.nextAlert = none → exec .transmitChoice s = .next s)))

/-! ### Requests (R51, R52, R57, R64) -/

/-- Every request is served by some command; the command that serves it answers it exactly once; a request not answered
OK changes nothing but the inbox, the reply queue and the standby timer of the drum it names; while the engine cannot take
a request, no command serves one. -/
def Obligations.RequestsAreAnsweredOnce : Prop :=
  (∀ (c : Instr) (s : State), c ∈ requestCommands → s.resetHeld = false → s.cabinet.takes = false →
    exec c s = .next s) ∧
  (∀ (c : Instr) (s : State) (r : Request) (rest : List Request), c ∈ requestCommands → s.offers r rest →
    ∃ t : State, exec c s = .next t ∧
      (t = s ∨ ∃ st data, t.cabinet = s.replied r rest st data ∧ (st ≠ .ok → data = [] ∧ t = s.answered r rest st []))) ∧
  ∀ (s : State) (r : Request) (rest : List Request), s.offers r rest →
    ∃ c ∈ requestCommands, ∃ t st data, exec c s = .next t ∧ t.cabinet = s.replied r rest st data

/-- Requests refused for their form: an unknown code or a length not allowed is answered BAD_REQUEST, an item, action or
scope that no table names and a drum above 3 are answered BAD_ARG; nothing else changes (R2, R51, R57, R58, R62, R67, R69, R70,
R72, R75, R82, R83, R84, R87, R151, R186, R187). That a request with an
undefined item, action or scope is served by every row of its code is the model's reading (log 4). -/
def Obligations.ArgumentsOutOfTheTablesAreRefused : Prop :=
  ∀ (s : State) (r : Request) (rest : List Request), s.offers r rest →
    (r.valid = false → exec .badRequest s = .next { s with cabinet := s.replied r rest .badRequest [] }) ∧
    (r.valid = true → r.code = 1 → natAt r.args 0 = 0 ∨ 6 < natAt r.args 0 →
      ∀ c ∈ [Instr.configWriteHeatBudget, .configWriteBypassLimit, .configWriteHeatWaitLimit, .configWriteBucketSpread,
        .configWriteSignatureSpread, .configWriteMissAction],
        exec c s = .next { s with cabinet := s.replied r rest .badArg [] }) ∧
    (r.valid = true → r.code = 18 → 7 < natAt r.args 1 →
      ∀ c ∈ [Instr.powerOff, .serviceOnly, .bringUp, .holdNodes, .releaseNodes, .testSend, .testReceive, .testEnd],
        exec c s = .next (s.answered r rest .badArg [])) ∧
    (r.valid = true → r.code = 18 → 3 < natAt r.args 0 →
      ∀ p ∈ [(Instr.powerOff, 0), (.serviceOnly, 1), (.bringUp, 2), (.holdNodes, 3), (.releaseNodes, 4), (.testSend, 5),
        (.testReceive, 6), (.testEnd, 7)],
        natAt r.args 1 = p.2 ∨ 7 < natAt r.args 1 →
        exec p.1 s = .next { s with cabinet := s.replied r rest .badArg [] }) ∧
    (r.valid = true → r.code = 24 → 3 < natAt r.args 0 →
      ∀ c ∈ [Instr.statusReadPart, .statusReadDrum, .statusReadPort, .statusReadHeat],
        exec c s = .next { s with cabinet := s.replied r rest .badArg [] }) ∧
    (r.valid = true → 3 < natAt r.args 0 →
      ∀ p ∈ [(Instr.drumConfigWrite, (2 : Byte)), (.cycleLoad, 9), (.cycleUnload, 10), (.cycleStart, 11),
        (.cyclePause, 12), (.cycleResume, 13), (.cycleEndHeat, 14), (.cycleAbort, 15), (.drumReset, 16),
        (.heatLockoutClear, 17), (.passThrough, 19), (.attrRead, 22), (.attrClear, 23)],
        r.code = p.2 → exec p.1 s = .next { s with cabinet := s.replied r rest .badArg [] })

/-! ### Settings (R30, R31, R67, R91, R128, R129, R133, R171) -/

/-- The spread words are written while every entry is free, and refused BUSY otherwise; lookups and queries fold with the
words in force, and the PART report gives both (R30). -/
def Obligations.SpreadWordsAreWrittenWhileTheTableIsEmpty : Prop :=
  (∀ (c : Classifier) (t : BitVec 15),
    (∀ e, c.winner t = some e →
      e.bucket = bucketIndex c.bucketSpread t ∧ e.matches t (signature c.signatureSpread t) = true) ∧
    (queryData c t).take 3 = bucketIndex c.bucketSpread t :: bytes16 (signature c.signatureSpread t).toNat) ∧
  (∀ s : State,
    ((partReport s).drop 14).take 8 =
      bytes32 s.classifier.bucketSpread.toNat ++ bytes32 s.classifier.signatureSpread.toNat) ∧
  ∀ (s : State) (r : Request) (rest : List Request) (b3 b2 b1 b0 : Byte), s.offers r rest → r.code = 1 →
    (r.args = [4, b3, b2, b1, b0] →
      (s.classifier.entries = [] →
        exec .configWriteBucketSpread s =
          .next
            { s with
              classifier := { s.classifier with bucketSpread := b3 ++ b2 ++ b1 ++ b0 }
              cabinet := s.replied r rest .ok [] }) ∧
      (s.classifier.entries ≠ [] →
        exec .configWriteBucketSpread s = .next { s with cabinet := s.replied r rest .busy [] })) ∧
    (r.args = [5, b3, b2, b1, b0] →
      (s.classifier.entries = [] →
        exec .configWriteSignatureSpread s =
          .next
            { s with
              classifier := { s.classifier with signatureSpread := b3 ++ b2 ++ b1 ++ b0 }
              cabinet := s.replied r rest .ok [] }) ∧
      (s.classifier.entries ≠ [] →
        exec .configWriteSignatureSpread s = .next { s with cabinet := s.replied r rest .busy [] }))

/-- A miss action of one port, a reversal profile and a route are each replaced whole at once, or refused BAD_ARG for a value
that is out of range; nothing else changes (R31, R91, R171). That the line byte of a route is read in bit 0 alone, with bits 7
to 1 disregarded, is the model's choice (log 39). -/
def Obligations.MissActionsProfilesAndRoutesAreReplaced : Prop :=
  (∀ (s : State) (r : Request) (rest : List Request) (x y p m : Byte), s.offers r rest → r.code = 1 →
     r.args = [6, x, y, p, m] →
     (∀ d : Drum, p = byte d.val →
       (m = 0 →
         exec .configWriteMissAction s =
           .next
             (({ s with classifier := { s.classifier with miss := s.classifier.miss.set d .forwardMarked } } :
               State).answered r rest .ok [])) ∧
       (m = 1 →
         exec .configWriteMissAction s =
           .next
             (({ s with classifier := { s.classifier with miss := s.classifier.miss.set d .drop } } :
               State).answered r rest .ok []))) ∧
     (3 < p.toNat ∨ 1 < m.toNat → exec .configWriteMissAction s = .next (s.answered r rest .badArg []))) ∧
  (∀ (s : State) (r : Request) (rest : List Request), s.offers r rest → r.code = 3 → r.args.length = 22 →
     (8 ≤ natAt r.args 0 ∨ profileOf r.args = none →
       exec .profileWrite s = .next { s with cabinet := s.replied r rest .badArg [] }) ∧
     ∀ (n : Fin 8) (p : Profile), natAt r.args 0 = n.val → profileOf r.args = some p →
       exec .profileWrite s =
         .next { s with profiles := s.profiles.set n p, cabinet := s.replied r rest .ok [] }) ∧
  (∀ (s : State) (r : Request) (rest : List Request) (code cls line act : Byte), s.offers r rest → r.code = 4 →
     r.args = [code, cls, line, act] →
     (29 < code.toNat ∨ 3 < cls.toNat ∨ 3 < act.toNat →
       exec .routeWrite s = .next { s with cabinet := s.replied r rest .badArg [] }) ∧
     ∀ (n : Fin 32) (k : AlertClass) (x : RoutedAction), n.val ≤ 29 → code = byte n.val →
       (cls, k) ∈ [((0 : Byte), AlertClass.none), (1, .notice), (2, .warning), (3, .fault)] →
       (act, x) ∈ [((0 : Byte), RoutedAction.none), (1, .pause), (2, .endHeat), (3, .halt)] →
       exec .routeWrite s =
         .next
           { s with
             router := { s.router with routes := s.router.routes.set n ⟨k, line.getLsbD 0, x⟩ }
             cabinet := s.replied r rest .ok [] })

/-- The heat settings. A bypass limit comes into force and a grant attempt runs until a round grants nothing (R125, R133). A
heat wait limit judges every entry at once, in queue order (R128). A budget comes into force once revocation steps, each on
the tail of the grant list and each reported, have brought the held sum within it, and a grant attempt follows (R117, R129,
R130, R131, R132). What one round of a grant attempt grants, what a grant does and what a revocation step does (R125, R126,
R130 to R132). That a burner told its granted stage stays at or below each demand not yet taken is the model's choice (log
37). -/
def Obligations.HeatSettingsAreWritten : Prop :=
  GrantRoundsByRule ∧ GrantsByRule ∧ RevocationStepsByRule ∧
  (∀ (s : State) (r : Request) (rest : List Request) (b3 b2 b1 b0 : Byte), s.offers r rest → r.code = 1 →
     r.args = [2, b3, b2, b1, b0] →
     (be32 b3 b2 b1 b0 ≤ 7 →
       ∃ v : State, exec .configWriteBypassLimit s = .next { v with cabinet := s.replied r rest .ok [] } ∧
         GrantRounds
           { s with
             heat := { s.heat with bypassLimit := be32 b3 b2 b1 b0 }
             cabinet := { s.cabinet with inbox := rest } } v ∧
         v.heat.bypassLimit = be32 b3 b2 b1 b0 ∧ v.heat.budget = s.heat.budget ∧
         v.heat.waitLimit = s.heat.waitLimit ∧ v.flight.events = s.flight.events) ∧
     (7 < be32 b3 b2 b1 b0 → exec .configWriteBypassLimit s = .next { s with cabinet := s.replied r rest .badArg [] })) ∧
  (∀ (s : State) (r : Request) (rest : List Request) (b3 b2 b1 b0 : Byte), s.offers r rest → r.code = 1 →
     r.args = [3, b3, b2, b1, b0] →
     (600 < be32 b3 b2 b1 b0 →
       exec .configWriteHeatWaitLimit s = .next { s with cabinet := s.replied r rest .badArg [] }) ∧
     (be32 b3 b2 b1 b0 ≤ 600 → be32 b3 b2 b1 b0 = s.heat.waitLimit →
       exec .configWriteHeatWaitLimit s = .next { s with cabinet := s.replied r rest .ok [] }) ∧
     (be32 b3 b2 b1 b0 ≤ 600 → be32 b3 b2 b1 b0 ≠ s.heat.waitLimit → HeatQueueSound s →
       exec .configWriteHeatWaitLimit s =
         .next
           { s with
             cabinet := s.replied r rest .ok []
             heat :=
               { s.heat with
                 waitLimit := be32 b3 b2 b1 b0
                 queue :=
                   s.heat.queue.map fun e =>
                     if e.waited (be32 b3 b2 b1 b0) s.clock then { e with reported := true } else e }
             flight :=
               { s.flight with
                 events :=
                   s.flight.events ++
                     (s.heat.queue.filter fun e => e.waited (be32 b3 b2 b1 b0) s.clock).map fun e =>
                       ⟨.allocator, .heatWait, e.drum, s.clock, some (byte e.wanted)⟩ } })) ∧
  (∀ (s : State) (r : Request) (rest : List Request) (b3 b2 b1 b0 : Byte), s.offers r rest → r.code = 1 →
     r.args = [1, b3, b2, b1, b0] →
     (255 < be32 b3 b2 b1 b0 → exec .configWriteHeatBudget s = .next { s with cabinet := s.replied r rest .badArg [] }) ∧
     (be32 b3 b2 b1 b0 ≤ 255 →
       ∃ v : State, exec .configWriteHeatBudget s = .next { v with cabinet := s.replied r rest .ok [] } ∧
         v.heat.budget = be32 b3 b2 b1 b0 ∧ grantRound v = none ∧ v.heat.bypassLimit = s.heat.bypassLimit ∧
         v.heat.waitLimit = s.heat.waitLimit ∧
         (HeatSound s →
           v.heat.heldSum ≤ be32 b3 b2 b1 b0 ∧
             ∃ (u : State) (taken : List (Drum × Nat)),
               Revocations (be32 b3 b2 b1 b0) { s with cabinet := { s.cabinet with inbox := rest } } taken u ∧
                 u.heat.budget = s.heat.budget ∧ u.heat.heldSum ≤ be32 b3 b2 b1 b0 ∧
                 GrantRounds { u with heat := { u.heat with budget := be32 b3 b2 b1 b0 } } v ∧
                 v.flight.events =
                   s.flight.events ++
                     taken.map (fun p => ⟨.allocator, .heatRevoked, p.1, s.clock, some (byte p.2)⟩) ∧
                 (taken = [] ↔ s.heat.heldSum ≤ be32 b3 b2 b1 b0))))

/-- A drum configuration record is replaced whole while the drum rests; a change from SERVICE to AUTO stops drum and fan
(R67). -/
def Obligations.DrumConfigWriteReplacesTheRecord : Prop :=
  ∀ (s : State) (r : Request) (rest : List Request) (d : Drum) (body : List Byte), s.offers r rest → r.code = 2 →
    r.args = byte d.val :: body → body.length = 22 →
    (configOf r.args = none → exec .drumConfigWrite s = .next (s.answered r rest .badArg [])) ∧
    ∀ c, configOf r.args = some c →
      ((s.drum d).cycle.state.idle = false → exec .drumConfigWrite s = .next (s.answered r rest .busy [])) ∧
      ((s.drum d).cycle.state.idle = true →
        ∃ t : State, exec .drumConfigWrite s = .next (t.answered r rest .ok []) ∧
          (t.drum d).config = c ∧
          { t.besides d with config := (s.drum d).config } = s.besides d ∧ t.flight = s.flight ∧
          (t.drum d).cycle = (s.drum d).cycle ∧ (t.drum d).tumble = (s.drum d).tumble ∧
          (t.drum d).tangle = (s.drum d).tangle ∧ (t.drum d).burner = (s.drum d).burner ∧
          (t.drum d).dryness = (s.drum d).dryness ∧ (t.drum d).port.state = (s.drum d).port.state ∧
          (t.drum d).port.image.flameStage = (s.drum d).port.image.flameStage ∧
          ((s.drum d).config.gateMode = .service → c.gateMode = .auto →
            (t.drum d).port.image.drive = .stop ∧ (t.drum d).port.image.fan = false) ∧
          ((s.drum d).config.gateMode = .auto ∨ c.gateMode = .service →
            (t.drum d).port.image.drive = (s.drum d).port.image.drive ∧
              (t.drum d).port.image.fan = (s.drum d).port.image.fan ∧
              ((s.drum d).config.motorNode = c.motorNode →
                (t.drum d).port.image.driveMarks = (s.drum d).port.image.driveMarks)) ∧
          ((s.drum d).port.sends = true → c.burnerNode ≠ 0 → (s.drum d).config.burnerNode ≠ c.burnerNode →
            (t.drum d).port.image.flameMarks.change = true))

/-! ### Frames and the classifier (R8, R9, R28 to R45) -/

/-- A frame that ends on the main lane: outside UP nothing is taken; a malformed one is counted and discarded; any other is
handed to the classifier without its check field, with its check result and its arrival time (R9). -/
def Obligations.MainLaneFramesAreCheckedAndHandedOn : Prop :=
  ∀ (s : State) (d : Drum) (bytes : List Byte), s.resetHeld = false →
    ((s.drum d).port.state ≠ .up → exec (.mainLaneFrameReceived d bytes) s = .next s) ∧
    ((s.drum d).port.state = .up →
      (bytes.length < 4 ∨ 16 < natAt bytes 3 ∨ bytes.length ≠ natAt bytes 3 + 6 →
        exec (.mainLaneFrameReceived d bytes) s =
          .next (s.onPort d fun p => { p with malformed := min (p.malformed + 1) 65535 })) ∧
      (4 ≤ bytes.length → natAt bytes 3 ≤ 16 → bytes.length = natAt bytes 3 + 6 →
        ∃ t : State, exec (.mainLaneFrameReceived d bytes) s = .next t ∧
          t.flight =
            { s.flight with
              frames :=
                s.flight.frames ++ [⟨d, checkPassed bytes, s.clock, bytes.take (bytes.length - 2)⟩] } ∧
          (checkPassed bytes = true → { t with flight := s.flight } = s) ∧
          (checkPassed bytes = false →
            { t with flight := s.flight } =
              s.onPort d fun p => { p with checkFailed := min (p.checkFailed + 1) 65535 })))

/-- The bucket index and the signature of a tuple: bit j is the exclusive-or, over the bits i at which the tuple holds a 1,
of spread word bit i + j (R28, R29). -/
def Obligations.FoldsAreWindowsOfTheSpreadWord : Prop :=
  ∀ (spread : BitVec 32) (t : BitVec 15),
    (∀ j, j < 8 →
      (bucketIndex spread t).getLsbD j =
        (List.range 15).foldl (fun x i => x ^^ (t.getLsbD i && spread.getLsbD (i + j))) false) ∧
    (∀ j, j < 16 →
      (signature spread t).getLsbD j =
        (List.range 15).foldl (fun x i => x ^^ (t.getLsbD i && spread.getLsbD (i + j))) false) ∧
    bucketIndex spread 0 = 0 ∧ bucketIndex 0 t = 0 ∧ signature spread 0 = 0 ∧ signature 0 t = 0 ∧
    (∀ a e, classEntryOf a spread = some e → e.key = .exact t → e.bucket = bucketIndex spread t) ∧
    ∀ c : Classifier, c.bucketSpread = spread →
      (∀ e, c.winner t = some e → e ∈ c.entries ∧ e.bucket = bucketIndex spread t) ∧
      (queryData c t).head? = some (bucketIndex spread t)

/-- CLASS_ADD: the checks in order, then the entry at the tail of its bucket's chain with hit count 0, and the bucket and
position in the reply (R41, R42). -/
def Obligations.ClassAddChecksThenPlacesAtTheTail : Prop :=
  ∀ (s : State) (r : Request) (rest : List Request), s.offers r rest → r.code = 5 → r.args.length = 12 →
    (classEntryOf r.args s.classifier.bucketSpread = none →
      exec .classAdd s = .next (s.answered r rest .badArg [])) ∧
    ∀ e, classEntryOf r.args s.classifier.bucketSpread = some e →
      e.hits = 0 ∧
      ((∃ x ∈ s.classifier.entries, x.number = e.number) → exec .classAdd s = .next (s.answered r rest .inUse [])) ∧
      ((∀ x ∈ s.classifier.entries, x.number ≠ e.number) → (∃ x ∈ s.classifier.entries, x.duplicates e = true) →
        exec .classAdd s = .next (s.answered r rest .duplicate [])) ∧
      ((∀ x ∈ s.classifier.entries, x.number ≠ e.number) → (∀ x ∈ s.classifier.entries, x.duplicates e = false) →
        (8 ≤ (s.classifier.chain e.bucket).length → exec .classAdd s = .next (s.answered r rest .chainFull [])) ∧
        ((s.classifier.chain e.bucket).length < 8 →
          exec .classAdd s =
            .next
              (({ s with classifier := { s.classifier with entries := s.classifier.entries ++ [e] } } :
                State).answered r rest .ok [e.bucket, byte ((s.classifier.chain e.bucket).length + 1)])))

/-- CLASS_REMOVE: refused for a number above 511, a free entry, and a status role on which a drum with a cycle depends;
otherwise the entry leaves its chain, the others keeping their order, and its hit count is reported (R43). -/
def Obligations.ClassRemoveUnlinksTheEntry : Prop :=
  ∀ (s : State) (r : Request) (rest : List Request) (hi lo : Byte), s.offers r rest → r.code = 6 → r.args = [hi, lo] →
    (511 < be16 hi lo → exec .classRemove s = .next { s with cabinet := s.replied r rest .badArg [] }) ∧
    (be16 hi lo ≤ 511 → (∀ e ∈ s.classifier.entries, e.number ≠ be16 hi lo) →
      exec .classRemove s = .next { s with cabinet := s.replied r rest .notFound [] }) ∧
    ∀ before e after, s.classifier.entries = before ++ e :: after → e.number = be16 hi lo → e.number ≤ 511 → TableSound s →
      ((e.role = .driveStatus ∨ e.role = .flameStatus) →
        (∃ d, e.serves d = true ∧
          (s.drum d).cycle.state ∈ [CycleState.ready, .purge, .drying, .cooling, .guarding, .paused]) →
        exec .classRemove s = .next { s with cabinet := s.replied r rest .roleBusy [] }) ∧
      ((e.role ≠ .driveStatus ∧ e.role ≠ .flameStatus) ∨
          (∀ d, e.serves d = true → (s.drum d).cycle.state ∈ [CycleState.vacant, .done, .halted]) →
        exec .classRemove s =
          .next
            { s with
              classifier := { s.classifier with entries := before ++ after }
              cabinet := s.replied r rest .ok (bytes16 e.hits) })

/-- A measurement is read, scaled, limited to its role's range and given the frame's arrival time, or skipped (R36). A lookup
takes the oldest frame of a port: the first matching entry of the chain counts a hit and its action is carried out; without a
match CLASS_MISS is raised and the port's miss action is carried out (R34, R35, R37, R38, R39, R40). That BINDING_MISMATCH and
CLASS_MISS go before a FORWARD_OVERRUN of the same lookup is the model's choice (log 41). -/
def Obligations.LookupsActOnTheFirstMatch : Prop :=
  (∀ (e : ClassEntry) (f : HandedFrame),
    (f.kind ≠ 1 ∨ f.payload.length < 2 * e.valueIndex + 2 → measurement e f = none) ∧
    ∀ before hi lo after, f.kind = 1 → f.payload = before ++ hi :: lo :: after → before.length = 2 * e.valueIndex →
      (e.role ∈ [Role.none, .driveStatus, .flameStatus] → measurement e f = none) ∧
      (∀ x : Int, x = ((BitVec.ofNat 16 (be16 hi lo)).toInt * e.gain).tdiv 256 + e.offset →
        (e.role = .inletTemp → measurement e f = some (.inletTemp ⟨max (-32768) (min 32767 x), f.arrival⟩)) ∧
        (e.role = .exhaustTemp → measurement e f = some (.exhaustTemp ⟨max (-32768) (min 32767 x), f.arrival⟩))) ∧
      ∀ x : Int, x = ((be16 hi lo : Int) * e.gain).tdiv 256 + e.offset →
        (e.role = .motorCurrent →
          measurement e f = some (.motorCurrent (max 0 (min 65535 x)).toNat f.arrival)) ∧
        (e.role = .wetCount → measurement e f = some (.wetCount (max 0 (min 255 x)).toNat f.arrival))) ∧
  ∀ (s : State) (d : Drum), s.resetHeld = false →
    ((∀ f ∈ s.flight.frames, f.port ≠ d) → exec (.lookup d) s = .next s) ∧
    ∀ before f after, s.flight.frames = before ++ f :: after → f.port = d → (∀ x ∈ before, x.port ≠ d) →
      (∀ e, s.classifier.winner f.tuple = some e →
        ∃ t : State, exec (.lookup d) s = .next t ∧ t.drums = s.drums ∧ t.heat = s.heat ∧
          t.flight.frames = before ++ after ∧
          t.classifier =
            { s.classifier with
              entries :=
                s.classifier.entries.map fun x =>
                  if x.number = e.number then { x with hits := min (x.hits + 1) 65535 } else x } ∧
          (e.action = .absorb ∨ e.action = .drop → t.cabinet = s.cabinet) ∧
          (e.action = .forward ∨ e.action = .both →
            (s.cabinet.forwards.length < 32 →
              t.cabinet =
                { s.cabinet with
                  forwards :=
                    s.cabinet.forwards ++ [⟨d, some e.number, false, !f.passed, f.arrival, f.bytes⟩] }) ∧
            (32 ≤ s.cabinet.forwards.length →
              t.cabinet = s.cabinet ∧
                (⟨.classifier, .forwardOverrun, d, s.clock, none⟩ : Event) ∈ t.flight.events)) ∧
          (f.passed = false ∨ e.action = .forward ∨ e.action = .drop ∨ e.role = .none →
            t.flight.absorbs = s.flight.absorbs) ∧
          (f.passed = true → (e.action = .absorb ∨ e.action = .both) →
            (∀ a, measurement e f = some a → t.flight.absorbs = s.flight.absorbs ++ [(d, a)]) ∧
            (e.role ≠ .driveStatus → e.role ≠ .flameStatus → measurement e f = none →
              t.flight.absorbs = s.flight.absorbs) ∧
            (e.role = .driveStatus → driveStatOf f = none → t.flight.absorbs = s.flight.absorbs) ∧
            (e.role = .flameStatus → flameStatOf f = none → t.flight.absorbs = s.flight.absorbs) ∧
            ∀ node a,
              (e.role = .driveStatus ∧ node = (s.drum d).config.motorNode ∧ (driveStatOf f).map .driveStat = some a ∨
                e.role = .flameStatus ∧ node = (s.drum d).config.burnerNode ∧
                  (flameStatOf f).map .flameStat = some a) →
              (node ≠ 0 → f.source = node → t.flight.absorbs = s.flight.absorbs ++ [(d, a)]) ∧
              (node = 0 ∨ f.source ≠ node →
                t.flight.absorbs = s.flight.absorbs ∧
                  (⟨.classifier, .bindingMismatch, d, s.clock, some (byte f.source)⟩ : Event) ∈ t.flight.events))) ∧
      (s.classifier.winner f.tuple = none →
        ∃ t : State, exec (.lookup d) s = .next t ∧ t.drums = s.drums ∧ t.heat = s.heat ∧
          t.classifier = s.classifier ∧ t.flight.frames = before ++ after ∧ t.flight.absorbs = s.flight.absorbs ∧
          (∃ more, t.flight.events =
            s.flight.events ++ ⟨.classifier, .classMiss, d, s.clock, some (byte f.source)⟩ :: more) ∧
          (s.classifier.miss[d] = .drop → t.cabinet = s.cabinet) ∧
          (s.classifier.miss[d] = .forwardMarked → s.cabinet.forwards.length < 32 →
            t.cabinet =
              { s.cabinet with
                forwards := s.cabinet.forwards ++ [⟨d, none, true, !f.passed, f.arrival, f.bytes⟩] }))

/-! ### Reading requests (R26, R44, R45, R62, R63, R138, R186) -/

/-- Requests that only read answer OK with their report and change nothing but the standby timer of the drum they name; an
argument out of range is refused BAD_ARG. Within the reports, what the spec leaves open is the model's: the byte of the
target RUN (log 9), the marker of an absent value (log 10), a suspended timer (log 11), the rounding of the grace time (log
12), the standby time of a PORT report, which is that before the reload (log 34), the run timer while it does not run (log
42), and the byte of a flag that no table codes (log 46). -/
def Obligations.ReadingRequestsChangeNothing : Prop :=
  ∀ (s : State) (r : Request) (rest : List Request), s.offers r rest →
    (∀ (p : Drum) (n k c : Byte), r.code = 7 → r.args = [byte p.val, n, k, c] →
      (n.toNat ≤ 15 → k.toNat ≤ 31 → c.toNat ≤ 15 →
        exec .classQuery s =
          .next
            (s.answered r rest .ok
              (queryData s.classifier (tupleNumber p.val n.toNat k.toNat c.toNat)))) ∧
      (15 < n.toNat ∨ 31 < k.toNat ∨ 15 < c.toNat → exec .classQuery s = .next (s.answered r rest .badArg []))) ∧
    (∀ p n k c : Byte, r.code = 7 → r.args = [p, n, k, c] → 3 < p.toNat →
      exec .classQuery s = .next { s with cabinet := s.replied r rest .badArg [] }) ∧
    (∀ hi lo count : Byte, r.code = 8 → r.args = [hi, lo, count] →
      (be16 hi lo ≤ 511 → count.toNat ≤ 16 →
        exec .classRead s =
          .next
            { s with
              cabinet :=
                s.replied r rest .ok
                  (byte (readCount (be16 hi lo) count.toNat) ::
                    (List.range (readCount (be16 hi lo) count.toNat)).flatMap fun i =>
                      entryRecord s.classifier (be16 hi lo + i)) }) ∧
      (511 < be16 hi lo ∨ 16 < count.toNat →
        exec .classRead s = .next { s with cabinet := s.replied r rest .badArg [] })) ∧
    (∀ d : Drum, r.code = 22 → r.args = [byte d.val] →
      exec .attrRead s =
        .next
          (s.answered r rest .ok
            (flagByte s.attributes.valid ::
              ([0, 1, 2, 3, 4, 5, 6, 7] : List (Fin 8)).flatMap fun a =>
                bytes32 (s.attr d a).raw ++ [byte ((s.attr d a).crossed.toNat + 2 * (s.attr d a).noStart.toNat)] ++
                  bytes32 (if s.attributes.valid then s.attributes.table[a].limit else 0) ++
                  [byte (if s.attributes.valid then s.attributes.table[a].consequence.code else 0)]))) ∧
    (∀ x : Byte, r.code = 24 → r.args = [0, x] →
      exec .statusReadPart s = .next { s with cabinet := s.replied r rest .ok (partReport (s.onCabinet fun c => { c with inbox := rest })) }) ∧
    (∀ d : Drum, r.code = 24 → r.args = [1, byte d.val] →
      exec .statusReadDrum s = .next (s.answered r rest .ok (drumReport d s))) ∧
    (∀ d : Drum, r.code = 24 → r.args = [2, byte d.val] →
      exec .statusReadPort s = .next (s.answered r rest .ok (portReport d s))) ∧
    (∀ x : Byte, r.code = 24 → r.args = [3, x] →
      exec .statusReadHeat s = .next { s with cabinet := s.replied r rest .ok (heatReport s) }) ∧
    (∀ x : Byte, r.code = 24 → 3 < x.toNat → (r.args = [1, x] → exec .statusReadDrum s = .next { s with cabinet := s.replied r rest .badArg [] }) ∧
      (r.args = [2, x] → exec .statusReadPort s = .next { s with cabinet := s.replied r rest .badArg [] }))

/-- The reports have the lengths and open with the values of Table 12-11 and R63. -/
def Obligations.ReportsHaveTheirLayout : Prop :=
  ∀ (s : State) (d : Drum),
    (partReport s).length = 26 ∧ (drumReport d s).length = 67 ∧ (portReport d s).length = 32 ∧
    (HeatQueueSound s → s.heat.grants.Nodup → (heatReport s).length = 53) ∧
    (partReport s).take 9 = [0x10, 0x18, 1, 2] ++ clockBytes s.clock ++ [flagByte s.cabinet.linkUp] ∧
    ((partReport s).drop 22).take 2 = [byte s.router.alerts.length, flagByte s.router.alertLow] ∧
    (s.router.alertLow = true ↔ ∃ e ∈ s.router.alerts, e.line = true) ∧
    (drumReport d s).head? = some (byte (s.drum d).cycle.state.code) ∧
    (portReport d s).head? = some (byte (s.drum d).port.state.code) ∧
    (heatReport s).head? = some (byte s.heat.budget)

/-! ### The cycle controller's requests (R69 to R87, R151) -/

/-- CYCLE_LOAD: the checks in order, then READY with the record, everything else of the cycle at rest (R69). The model reads
bits 7 to 4 of the presence flags in no check (the model's choice, log 39). -/
def Obligations.CycleLoadChecksThenTakesTheRecord : Prop :=
  ∀ (s : State) (r : Request) (rest : List Request) (d : Drum) (body : List Byte), s.offers r rest → r.code = 9 →
    r.valid = true → r.args = byte d.val :: body →
    (recordOf r.args = none → exec .cycleLoad s = .next (s.answered r rest .badArg [])) ∧
    ∀ x, recordOf r.args = some x →
      ((s.drum d).cycle.state ∉ [CycleState.vacant, .ready, .done] →
        exec .cycleLoad s = .next (s.answered r rest .state [])) ∧
      ((s.drum d).cycle.state ∈ [CycleState.vacant, .ready, .done] →
        ((s.drum d).port.state ≠ .up → exec .cycleLoad s = .next (s.answered r rest .portDown [])) ∧
        ((s.drum d).port.state = .up → (s.drum d).config.gateMode = .service →
          exec .cycleLoad s = .next (s.answered r rest .gated [])) ∧
        ((s.drum d).port.state = .up → (s.drum d).config.gateMode = .auto →
          ((s.drum d).config.motorNode = 0 ∨ (s.drum d).config.fanNode = 0 ∨
              (0 < x.maxStage ∧ (s.drum d).config.burnerNode = 0) →
            exec .cycleLoad s = .next (s.answered r rest .badArg [])) ∧
          ((s.drum d).config.motorNode ≠ 0 → (s.drum d).config.fanNode ≠ 0 →
              (x.maxStage = 0 ∨ (s.drum d).config.burnerNode ≠ 0) →
            ∃ t : State, exec .cycleLoad s = .next (t.answered r rest .ok []) ∧ t.besides d = s.besides d ∧
              t.flight.events = s.flight.events ∧ t.flight.increments = s.flight.increments ∧
              (t.drum d).cycle = { state := .ready, record := some x } ∧
              (t.drum d).port.image.fan = false ∧ (t.drum d).port.standby = none ∧
              (t.drum d).port.image.drive = (s.drum d).port.image.drive ∧
              (t.drum d).tumble = { (s.drum d).tumble with stalls := 0 } ∧
              (t.drum d).tangle = (s.drum d).tangle ∧ (t.drum d).burner.lockout = (s.drum d).burner.lockout)))

/-- CYCLE_UNLOAD: READY becomes VACANT with the record cleared; any other state is refused STATE (R70). -/
def Obligations.CycleUnloadEmptiesAReadyDrum : Prop :=
  ∀ (s : State) (r : Request) (rest : List Request) (b : Byte), s.offers r rest → r.code = 10 → r.args = [b] →
    (3 < b.toNat → exec .cycleUnload s = .next { s with cabinet := s.replied r rest .badArg [] }) ∧
    ∀ d : Drum, b = byte d.val →
      ((s.drum d).cycle.state ≠ .ready → exec .cycleUnload s = .next (s.answered r rest .state [])) ∧
      ((s.drum d).cycle.state = .ready →
        ∃ t : State, exec .cycleUnload s = .next (t.answered r rest .ok []) ∧ t.besides d = s.besides d ∧
          t.flight.events = s.flight.events ∧ t.flight.increments = s.flight.increments ∧
          (t.drum d).cycle = { (s.drum d).cycle.cleared with state := .vacant, record := none })

/-- CYCLE_START: the checks in order, then PURGE toward DRYING with the fan on, START given under the record's profile, in
every tumble state (R94, R103), and the dryness window empty (R72, R73). That the first run of a cycle under profile 255 is
begun FWD is the model's reading of R95 (log 40), and that START ends the mark of a guard tumble is its choice (log 14). -/
def Obligations.CycleStartChecksThenPurges : Prop :=
  (∀ (s : State) (r : Request) (rest : List Request) (b : Byte), s.offers r rest → r.code = 11 → r.args = [b] →
    3 < b.toNat → exec .cycleStart s = .next { s with cabinet := s.replied r rest .badArg [] }) ∧
  ∀ (s : State) (r : Request) (rest : List Request) (d : Drum), s.offers r rest → r.code = 11 →
    r.args = [byte d.val] →
    ((s.drum d).cycle.state ≠ .ready → exec .cycleStart s = .next (s.answered r rest .state [])) ∧
    ∀ x, (s.drum d).cycle.state = .ready → (s.drum d).cycle.record = some x →
      ((s.drum d).port.state ≠ .up → exec .cycleStart s = .next (s.answered r rest .portDown [])) ∧
      ((s.drum d).port.state = .up →
        ((s.drum d).port.readings.doorOpen = true ∨ (s.drum d).port.readings.lintOut = true ∨
            (∃ n ∈ (s.drum d).boundNodes, (s.drum d).port.nodePresent n = false) →
          exec .cycleStart s = .next (s.answered r rest .busy [])) ∧
        ((s.drum d).port.readings.doorOpen = false → (s.drum d).port.readings.lintOut = false →
          (∀ n ∈ (s.drum d).boundNodes, (s.drum d).port.nodePresent n = true) →
          ((0 < x.maxStage ∧ (s.drum d).burner.lockout ≠ none) ∨ (∃ a, (s.attr d a).noStart = true) →
            exec .cycleStart s = .next (s.answered r rest .lockout [])) ∧
          ((x.maxStage = 0 ∨ (s.drum d).burner.lockout = none) → (∀ a, (s.attr d a).noStart = false) →
            ∃ t : State, exec .cycleStart s = .next (t.answered r rest .ok []) ∧ t.besides d = s.besides d ∧
              t.flight.events = s.flight.events ∧ t.flight.increments = s.flight.increments ∧
              (t.drum d).cycle =
                { (s.drum d).cycle with
                  state := .purge
                  purgeTarget := some .drying
                  prove :=
                    if (s.drum d).port.readings.airflowNotProven then seconds (s.drum d).config.proveTimeout else none
                  air :=
                    if (s.drum d).port.readings.airflowNotProven then none else seconds (s.drum d).config.minAir } ∧
              (t.drum d).port.image.fan = true ∧ (t.drum d).port.image.flameStage = 0 ∧
              Started s t d x.profile (decide (x.profile = 255)) ∧
              (t.drum d).dryness.window = [] ∧ (t.drum d).dryness.confirm = 0 ∧
              (t.drum d).dryness.dryReached = false ∧ (t.drum d).dryness.extraDry = none)))

/-- CYCLE_PAUSE pauses an active cycle with cause REQUEST, or joins REQUEST to a paused cycle's causes (R79, R81, R82);
CYCLE_END_HEAT acts by cycle state (R75). -/
def Obligations.PauseHoldsAndEndHeatCools : Prop :=
  (∀ (s : State) (r : Request) (rest : List Request) (d : Drum), s.offers r rest → r.code = 12 →
     r.args = [byte d.val] →
     ((s.drum d).cycle.state ∈ [CycleState.vacant, .ready, .guarding, .done, .halted] →
       exec .cyclePause s = .next (s.answered r rest .state [])) ∧
     ((s.drum d).cycle.state = .paused →
       ∃ t : State, exec .cyclePause s = .next (t.answered r rest .ok []) ∧ t.besides d = s.besides d ∧
         t.flight = s.flight ∧
         t.drum d =
           { s.drum d with
             cycle :=
               { (s.drum d).cycle with
                 causes :=
                   if .request ∈ (s.drum d).cycle.causes then (s.drum d).cycle.causes
                   else (s.drum d).cycle.causes ++ [.request] } }) ∧
     ((s.drum d).cycle.state ∈ [CycleState.purge, .drying, .cooling] →
       ∃ t : State, exec .cyclePause s = .next (t.answered r rest .ok []) ∧ t.besides d = s.besides d ∧
         t.flight.events = s.flight.events ++ [⟨.cycle d, .cyclePaused, d, s.clock, some 5⟩] ∧
         t.flight.increments = s.flight.increments ∧
         (t.drum d).cycle =
           { (s.drum d).cycle with
             state := .paused
             causes := [.request]
             pausedFrom :=
               if (s.drum d).cycle.state = .drying then some .drying
               else if (s.drum d).cycle.state = .cooling then some .cooling
               else (s.drum d).cycle.purgeTarget
             purgeTarget := none
             prove := none
             air := none
             fanOverrun :=
               if (s.drum d).config.fanOverrun = 0 then none else seconds (s.drum d).config.fanOverrun
             pauseLimit := if (s.drum d).config.pauseLimit = 0 then none else minutes (s.drum d).config.pauseLimit } ∧
         (t.drum d).port.image.fan = decide ((s.drum d).config.fanOverrun ≠ 0) ∧
         (t.drum d).port.image.flameStage = 0 ∧
         ((s.drum d).tumble.state.running = true →
           (t.drum d).tumble.state = .decel ∧ (t.drum d).tumble.target = some .stopped ∧
             (t.drum d).port.image.drive = .stop) ∧
         (t.drum d).tumble.multiplier = (s.drum d).tumble.multiplier ∧
         (t.drum d).tumble.reduction = (s.drum d).tumble.reduction ∧
         (t.drum d).dryness.window = (s.drum d).dryness.window)) ∧
  (∀ (s : State) (r : Request) (rest : List Request) (d : Drum), s.offers r rest → r.code = 14 →
     r.args = [byte d.val] →
     ((s.drum d).cycle.state ∈ [CycleState.vacant, .ready, .done, .halted] →
       exec .cycleEndHeat s = .next (s.answered r rest .state [])) ∧
     ((s.drum d).cycle.state ∈ [CycleState.cooling, .guarding] ∨
         ((s.drum d).cycle.state = .purge ∧ (s.drum d).cycle.purgeTarget ≠ some .drying) ∨
         ((s.drum d).cycle.state = .paused ∧ (s.drum d).cycle.pausedFrom ≠ some .drying) →
       exec .cycleEndHeat s = .next (s.answered r rest .ok [])) ∧
     ((s.drum d).cycle.state = .drying →
       ∃ t : State, exec .cycleEndHeat s = .next (t.answered r rest .ok []) ∧ t.besides d = s.besides d ∧
         t.flight.events = s.flight.events ∧
         (t.drum d).cycle =
           { (s.drum d).cycle.cleared with
             state := .cooling, cooling := 0, minCoolPassed := false, reason := .endHeat } ∧
         (t.drum d).port.image.flameStage = 0 ∧ (t.drum d).port.image.fan = true ∧
         (t.drum d).burner.wanted = 0 ∧
         (t.drum d).tumble = { (s.drum d).tumble with stalls := 0 }) ∧
     ((s.drum d).cycle.state = .purge → (s.drum d).cycle.purgeTarget = some .drying →
       ∃ t : State, exec .cycleEndHeat s = .next (t.answered r rest .ok []) ∧ t.besides d = s.besides d ∧
         t.flight = s.flight ∧
         t.drum d =
           { s.drum d with
             cycle := { (s.drum d).cycle with purgeTarget := some .cooling, reason := .endHeat } }) ∧
     ((s.drum d).cycle.state = .paused → (s.drum d).cycle.pausedFrom = some .drying →
       ∃ t : State, exec .cycleEndHeat s = .next (t.answered r rest .ok []) ∧ t.besides d = s.besides d ∧
         t.flight = s.flight ∧
         t.drum d =
           { s.drum d with
             cycle := { (s.drum d).cycle with pausedFrom := some .cooling, reason := .endHeat } }))

/-- CYCLE_RESUME: refused while the door is open, the port is not in UP or a bound node is absent; otherwise PURGE toward
the paused-from phase, with START given in every tumble state (R83, R94, R103). A resumed cycle that has begun no run under
profile 255 still begins its first FWD (log 40), and START ends the mark of a guard tumble (log 14). -/
def Obligations.CycleResumePurgesTowardThePhase : Prop :=
  (∀ (s : State) (r : Request) (rest : List Request) (b : Byte), s.offers r rest → r.code = 13 → r.args = [b] →
    3 < b.toNat → exec .cycleResume s = .next { s with cabinet := s.replied r rest .badArg [] }) ∧
  ∀ (s : State) (r : Request) (rest : List Request) (d : Drum), s.offers r rest → r.code = 13 →
    r.args = [byte d.val] →
    ((s.drum d).cycle.state ≠ .paused → exec .cycleResume s = .next (s.answered r rest .state [])) ∧
    ((s.drum d).cycle.state = .paused →
      ((s.drum d).port.readings.doorOpen = true ∨ (s.drum d).port.state ≠ .up ∨
          (∃ n ∈ (s.drum d).boundNodes, (s.drum d).port.nodePresent n = false) →
        exec .cycleResume s = .next (s.answered r rest .busy [])) ∧
      ((s.drum d).port.readings.doorOpen = false → (s.drum d).port.state = .up →
          (∀ n ∈ (s.drum d).boundNodes, (s.drum d).port.nodePresent n = true) →
        ∃ t : State, exec .cycleResume s = .next (t.answered r rest .ok []) ∧ t.besides d = s.besides d ∧
          t.flight.events = s.flight.events ∧ t.flight.increments = s.flight.increments ∧
          (t.drum d).cycle =
            { (s.drum d).cycle.cleared with
              state := .purge
              purgeTarget := (s.drum d).cycle.pausedFrom
              prove :=
                if (s.drum d).port.readings.airflowNotProven then seconds (s.drum d).config.proveTimeout else none
              air := if (s.drum d).port.readings.airflowNotProven then none else seconds (s.drum d).config.minAir } ∧
          (t.drum d).port.image.fan = true ∧
          (∀ x, (s.drum d).cycle.record = some x → Started s t d x.profile (s.drum d).tumble.first255) ∧
          (t.drum d).dryness.confirm = 0 ∧ (t.drum d).dryness.window = (s.drum d).dryness.window ∧
          (t.drum d).dryness.extraDry = (s.drum d).dryness.extraDry))

/-- CYCLE_ABORT by cycle state (R78, R84). -/
def Obligations.AbortEndsTheCycleByState : Prop :=
  (∀ (s : State) (r : Request) (rest : List Request) (b : Byte), s.offers r rest → r.code = 15 → r.args = [b] →
    3 < b.toNat → exec .cycleAbort s = .next { s with cabinet := s.replied r rest .badArg [] }) ∧
  ∀ (s : State) (r : Request) (rest : List Request) (d : Drum), s.offers r rest → r.code = 15 →
    r.args = [byte d.val] →
    ((s.drum d).cycle.state ∈ [CycleState.vacant, .done, .halted] →
      exec .cycleAbort s = .next (s.answered r rest .state [])) ∧
    ((s.drum d).cycle.state ∉ [CycleState.vacant, .done, .halted] →
      ∃ t : State, exec .cycleAbort s = .next (t.answered r rest .ok []) ∧ t.besides d = s.besides d ∧
        t.flight.increments = s.flight.increments ∧ (t.drum d).port.image.flameStage = 0 ∧
        ((s.drum d).cycle.state = .drying ∨
            ((s.drum d).cycle.state = .purge ∧ (s.drum d).cycle.purgeTarget ≠ some .cooling) →
          (t.drum d).cycle =
            { (s.drum d).cycle.cleared with
              state := .cooling, cooling := 0, minCoolPassed := false, reason := .aborted } ∧
          t.flight.events = s.flight.events) ∧
        ((s.drum d).cycle.state = .purge → (s.drum d).cycle.purgeTarget = some .cooling →
          (t.drum d).cycle = { (s.drum d).cycle.cleared with state := .cooling, reason := .aborted } ∧
          t.flight.events = s.flight.events) ∧
        ((s.drum d).cycle.state ∈ [CycleState.cooling, .guarding, .paused] →
          (t.drum d).cycle = { (s.drum d).cycle.cleared with state := .done, reason := .aborted } ∧
          t.flight.events = s.flight.events ++ [⟨.cycle d, .cycleDone, d, s.clock, some 6⟩] ∧
          (t.drum d).tumble.state.running = false ∧ (t.drum d).tumble.multiplier = 1 ∧
          (t.drum d).port.image.fan = false) ∧
        ((s.drum d).cycle.state = .ready →
          (t.drum d).cycle = { (s.drum d).cycle.cleared with state := .vacant, record := none } ∧
          t.flight.events = s.flight.events))

/-- DRUM_RESET: the drum's cycle, tumble controller, tangle monitor, burner stages, dryness monitor, heat and alerts are
cleared; lockout, attributes, configuration, port, classifier, forward queue and drive status stay (R87, R106, R115, R136,
R153, R166, R179). Any change of another drum comes from the grant attempt that ends the reset (R136). That STOP is written
in SERVICE gate mode too is the model's choice (log 35), as is the loss of a demand not yet taken (log 15). -/
def Obligations.DrumResetClearsTheDrum : Prop :=
  ∀ (s : State) (r : Request) (rest : List Request) (d : Drum), s.offers r rest → r.code = 16 →
    r.args = [byte d.val] →
    ∃ t : State, exec .drumReset s = .next (t.answered r rest .ok []) ∧
      (∃ u : State, GrantRounds u { t with router := s.router } ∧
        { u with heat := s.heat, drums := s.drums, flight := { u.flight with demands := s.flight.demands } } = s ∧
        u.flight.demands = s.flight.demands.filter (fun p => p.1 != d) ∧
        u.heat =
          { s.heat with
            shares := s.heat.shares.set d { granted := 0, held := 0, costs := none }
            grants := if (s.share d).granted = 0 then s.heat.grants else s.heat.grants.filter (fun e => e != d)
            queue := s.heat.queue.filter fun e => e.drum != d } ∧
        (∀ e, e ≠ d → u.drum e = s.drum e) ∧ t.drum d = u.drum d) ∧
      t.heat.budget = s.heat.budget ∧ t.heat.bypassLimit = s.heat.bypassLimit ∧ t.heat.waitLimit = s.heat.waitLimit ∧
      (t.drum d).tumble =
        { (s.drum d).tumble with
          state := .stopped, target := none, inForce := none, lastDir := none, first255 := false, runTimer := 0,
          runTiming := false, revBase := 0, baseTaken := false, revCount := 0, statusWait := none, decel := none,
          dwell := none, recoverDelay := none, stalls := 0, multiplier := 1, reduction := 0, guardLength := none } ∧
      (t.drum d).burner =
        { (s.drum d).burner with
          wanted := 0, demand := 0, commanded := 0, trial := none, retryDelay := none, stable := none,
          starvation := none
          view := if (s.drum d).burner.lockout = none then .idle else .lockedOut
          retries := if (s.drum d).burner.lockout = none then 0 else (s.drum d).burner.retries } ∧
      { (t.drum d).port with image := (s.drum d).port.image, standby := (s.drum d).port.standby } = (s.drum d).port ∧
      (t.drum d).port.image.resetLockout = (s.drum d).port.image.resetLockout ∧
      (t.drum d).port.image.stopTime =
        (if (s.drum d).port.image.drive = .stop then (s.drum d).port.image.stopTime else s.clock) ∧
      (t.drum d).cycle = { state := .vacant } ∧ (t.drum d).tangle = {} ∧ (t.drum d).dryness = {} ∧
      (t.drum d).tumble.state = .stopped ∧ (t.drum d).tumble.target = none ∧ (t.drum d).tumble.inForce = none ∧
      (t.drum d).tumble.lastDir = none ∧ (t.drum d).tumble.stalls = 0 ∧ (t.drum d).tumble.multiplier = 1 ∧
      (t.drum d).tumble.reduction = 0 ∧ (t.drum d).tumble.status = (s.drum d).tumble.status ∧
      (t.drum d).port.image.drive = .stop ∧ (t.drum d).port.image.flameStage = 0 ∧
      (t.drum d).port.image.fan = false ∧ (t.drum d).port.state = (s.drum d).port.state ∧
      (t.drum d).port.grace = (s.drum d).port.grace ∧ (t.drum d).port.lineTest = (s.drum d).port.lineTest ∧
      (t.drum d).burner.wanted = 0 ∧ (t.drum d).burner.commanded = 0 ∧
      (t.drum d).burner.lockout = (s.drum d).burner.lockout ∧
      ((s.drum d).burner.lockout = none → (t.drum d).burner.view = .idle ∧ (t.drum d).burner.retries = 0) ∧
      ((s.drum d).burner.lockout ≠ none → (t.drum d).burner.view = .lockedOut) ∧
      (t.drum d).config = (s.drum d).config ∧ t.share d = { granted := 0, held := 0, costs := none } ∧
      (∀ e ∈ t.heat.queue, e.drum ≠ d) ∧ t.router.alerts = s.router.alerts.filter (fun e => e.drum != d) ∧
      t.router.routes = s.router.routes ∧ t.attributes = s.attributes ∧ t.classifier = s.classifier ∧
      t.cabinet = s.cabinet ∧ t.flight.events = s.flight.events ∧ t.flight.increments = s.flight.increments

/-- HEAT_LOCKOUT_CLEAR: refused STATE with the lockout clear; otherwise IDLE with the retry count and rest flag clear and
FLAME 0 with the reset-lockout flag (R151). -/
def Obligations.LockoutClearReturnsTheBurnerToIdle : Prop :=
  ∀ (s : State) (r : Request) (rest : List Request) (d : Drum), s.offers r rest → r.code = 17 →
    r.args = [byte d.val] →
    ((s.drum d).burner.lockout = none → exec .heatLockoutClear s = .next (s.answered r rest .state [])) ∧
    ((s.drum d).burner.lockout ≠ none →
      ∃ t : State, exec .heatLockoutClear s = .next (t.answered r rest .ok []) ∧ t.besides d = s.besides d ∧
        t.flight.events = s.flight.events ∧ (t.drum d).burner.lockout = none ∧ (t.drum d).burner.retries = 0 ∧
        (t.drum d).burner.view = .idle ∧ (t.drum d).burner.rest = false ∧
        (t.drum d).port.image.flameStage = 0 ∧ (t.drum d).port.image.resetLockout = true ∧
        ((s.drum d).port.sends = true → (s.drum d).config.burnerNode ≠ 0 →
          (t.drum d).port.image.flameMarks.change = true) ∧
        (t.drum d).cycle = (s.drum d).cycle ∧ (t.drum d).tumble = (s.drum d).tumble)

/-! ### The drum port's requests (R2, R3, R14, R21, R24, R58 to R61) -/

/-- POWER_OFF, SERVICE_ONLY and BRING_UP by port state (R2, R3, R10). A move out of UP, and a move out of SEEK that ends a
grace interval, gives the link-lost notice; another move gives none (R6, R7). That the notice writes STOP in SERVICE gate mode
too is the model's choice (log 35). -/
def Obligations.PortControlMovesThePort : Prop :=
  ∀ (s : State) (r : Request) (rest : List Request) (d : Drum) (x : Byte), s.offers r rest → r.code = 18 →
    (r.args = [byte d.val, 0, x] →
      ((s.drum d).cycle.state ∉ [CycleState.vacant, .done, .halted] ∨ (s.drum d).port.state = .test →
        exec .powerOff s = .next (s.answered r rest .busy [])) ∧
      ((s.drum d).cycle.state ∈ [CycleState.vacant, .done, .halted] →
        ((s.drum d).port.state = .off → exec .powerOff s = .next (s.answered r rest .ok [])) ∧
        ((s.drum d).port.state ∈ [PortState.service, .seek, .up] →
          ∃ t : State, exec .powerOff s = .next (t.answered r rest .ok []) ∧ t.besides d = s.besides d ∧
            t.flight.increments = s.flight.increments ∧ (t.drum d).port.state = .off ∧
            (t.drum d).port.serviceLock = false ∧ (t.drum d).port.readings = ⟨true, true, true, true⟩ ∧
            (t.drum d).port.presence = 0 ∧ (t.drum d).port.debounce = {} ∧
            (t.drum d).port.hold = (s.drum d).port.hold ∧ (t.drum d).port.lineTest = (s.drum d).port.lineTest ∧
            (FlameSafe s → (t.drum d).port.image.flameStage = 0) ∧
            ((s.drum d).port.state = .up →
              (t.drum d).port.slot = none ∧ (t.drum d).port.refresh = none) ∧
            ((s.drum d).port.state = .up ∨ (s.drum d).port.grace ≠ none →
              NoticeTaken s t d) ∧
            ((s.drum d).port.state ≠ .up → (t.drum d).port.grace = none) ∧
            ((s.drum d).port.state ≠ .up → (s.drum d).port.grace = none →
              (t.drum d).tumble.status = (s.drum d).tumble.status ∧ (t.drum d).burner.flame = (s.drum d).burner.flame ∧
                (t.drum d).burner.rest = (s.drum d).burner.rest ∧
                (t.drum d).port.image.drive = (s.drum d).port.image.drive)))) ∧
    (r.args = [byte d.val, 1, x] →
      ((s.drum d).cycle.state ∉ [CycleState.vacant, .done, .halted] ∨ (s.drum d).port.state = .test →
        exec .serviceOnly s = .next (s.answered r rest .busy [])) ∧
      ((s.drum d).cycle.state ∈ [CycleState.vacant, .done, .halted] →
        ((s.drum d).port.state = .service → exec .serviceOnly s = .next (s.answered r rest .ok [])) ∧
        ((s.drum d).port.state ∈ [PortState.off, .seek, .up] →
          ∃ t : State, exec .serviceOnly s = .next (t.answered r rest .ok []) ∧ t.besides d = s.besides d ∧
            t.flight.events = s.flight.events ∧ t.flight.increments = s.flight.increments ∧
            (t.drum d).port.state = .service ∧ (t.drum d).port.hold = (s.drum d).port.hold ∧
            (t.drum d).port.lineTest = (s.drum d).port.lineTest ∧
            (t.drum d).port.readings = (s.drum d).port.readings ∧ (t.drum d).cycle = (s.drum d).cycle ∧
            ((s.drum d).port.state = .up →
              (t.drum d).port.slot = none ∧ (t.drum d).port.refresh = none) ∧
            ((s.drum d).port.state = .up ∨ (s.drum d).port.grace ≠ none →
              NoticeTaken s t d) ∧
            ((s.drum d).port.state ≠ .up → (t.drum d).port.grace = none) ∧
            ((s.drum d).port.state ≠ .up → (s.drum d).port.grace = none →
              (t.drum d).tumble.status = (s.drum d).tumble.status ∧ (t.drum d).burner.flame = (s.drum d).burner.flame ∧
                (t.drum d).burner.rest = (s.drum d).burner.rest ∧
                (t.drum d).port.image.drive = (s.drum d).port.image.drive)))) ∧
    (r.args = [byte d.val, 2, x] →
      ((s.drum d).port.state ∈ [PortState.seek, .up] → exec .bringUp s = .next (s.answered r rest .ok [])) ∧
      ((s.drum d).port.state = .test → exec .bringUp s = .next (s.answered r rest .busy [])) ∧
      ((s.drum d).port.state ∈ [PortState.off, .service] →
        ∃ t : State, exec .bringUp s = .next (t.answered r rest .ok []) ∧ t.besides d = s.besides d ∧
          t.flight = s.flight ∧
          t.drum d =
            { s.drum d with
              port := { (s.drum d).port with state := .seek, laneLocked := false, standby := none } }))

/-- HOLD_NODES and RELEASE_NODES (R14). That a frame under way when node hold is set goes on to its end is the model's choice
(log 13). -/
def Obligations.NodeHoldIsSetAndReleased : Prop :=
  ∀ (s : State) (r : Request) (rest : List Request) (d : Drum) (x : Byte), s.offers r rest → r.code = 18 →
    (r.args = [byte d.val, 3, x] →
      ((s.drum d).cycle.state ∉ [CycleState.vacant, .ready, .done, .halted] ∨ (s.drum d).port.state = .test →
        exec .holdNodes s = .next (s.answered r rest .busy [])) ∧
      ((s.drum d).cycle.state ∈ [CycleState.vacant, .ready, .done, .halted] → (s.drum d).port.state ≠ .test →
        ((s.drum d).port.hold = true → exec .holdNodes s = .next (s.answered r rest .ok [])) ∧
        ((s.drum d).port.hold = false →
          ∃ t : State, exec .holdNodes s = .next (t.answered r rest .ok []) ∧ t.besides d = s.besides d ∧
            t.flight.increments = s.flight.increments ∧
            t.flight.events =
              s.flight.events ++
                (([1, 2, 3, 4, 5, 6, 7, 8, 9, 10, 11, 12, 13, 14] : List Nat).filter
                  (s.drum d).port.nodePresent).map (fun n => ⟨.port d, .nodeLost, d, s.clock, some (byte n)⟩) ∧
            t.drum d =
              { s.drum d with
                port :=
                  { (s.drum d).port with
                    hold := true
                    presence := 0
                    image :=
                      { (s.drum d).port.image with driveMarks := {}, flameMarks := {}, fanMarks := {} } } }))) ∧
    (r.args = [byte d.val, 4, x] →
      ((s.drum d).port.hold = false → exec .releaseNodes s = .next (s.answered r rest .ok [])) ∧
      ((s.drum d).port.hold = true →
        ∃ t : State, exec .releaseNodes s = .next (t.answered r rest .ok []) ∧ t.besides d = s.besides d ∧
          t.flight = s.flight ∧
          ((s.drum d).port.state ≠ .up →
            t.drum d = { s.drum d with port := { (s.drum d).port with hold := false } }) ∧
          ((s.drum d).port.state = .up →
            (t.drum d).port.hold = false ∧
              ((t.drum d).port.image.driveMarks.change =
                ((s.drum d).port.image.driveMarks.change || decide ((s.drum d).config.motorNode ≠ 0))) ∧
              ((t.drum d).port.image.flameMarks.change =
                ((s.drum d).port.image.flameMarks.change || decide ((s.drum d).config.burnerNode ≠ 0))) ∧
              ((t.drum d).port.image.fanMarks.change =
                ((s.drum d).port.image.fanMarks.change || decide ((s.drum d).config.fanNode ≠ 0))))))

/-- TEST_SEND, TEST_RECEIVE and TEST_END (R21, R24), and the steps of a line test: arm report, arm timeout, the node's reports
and the part's checker (R22, R23). How the checker's interval remembers a time without lock is the model's choice (log 16), as
is that the last signal sent is held (log 28); the 100 ms interval is held as a timer, whose first begins at the arm report
(log 31). A test begun in UP, or in SEEK within a grace interval, gives the link-lost notice (R6, R7); that the notice writes
STOP in SERVICE gate mode too is the model's choice (log 35). -/
def Obligations.LineTestsRunFromRequestToEnd : Prop :=
  (∀ (s : State) (r : Request) (rest : List Request) (d : Drum) (m : Byte), s.offers r rest → r.code = 18 →
     (∀ p ∈ [(Instr.testSend, (5 : Byte), TestDirection.send), (.testReceive, 6, .receive)],
       r.args = [byte d.val, p.2.1, m] →
       (1 < m.toNat → exec p.1 s = .next (s.answered r rest .badArg [])) ∧
       (m.toNat ≤ 1 →
         ((s.drum d).port.state ∉ [PortState.up, .seek] ∨
             (s.drum d).cycle.state ∉ [CycleState.vacant, .done, .halted] ∨ (s.drum d).port.hold = true →
           exec p.1 s = .next (s.answered r rest .busy [])) ∧
         ((s.drum d).port.state ∈ [PortState.up, .seek] →
             (s.drum d).cycle.state ∈ [CycleState.vacant, .done, .halted] → (s.drum d).port.hold = false →
           ∃ t : State, exec p.1 s = .next (t.answered r rest .ok []) ∧ t.besides d = s.besides d ∧
             t.flight.events = s.flight.events ∧ t.flight.increments = s.flight.increments ∧
             (t.drum d).port.state = .test ∧
             (t.drum d).port.lineTest = ⟨p.2.2, if m = 0 then .latched else .live, .arming, 0, false⟩ ∧
             (t.drum d).port.arm = some 1000 ∧
             (t.drum d).port.signal = some (if p.2.2 = .send then .armChecker else .generate) ∧
             (t.drum d).cycle = (s.drum d).cycle ∧ (t.drum d).port.lockGap = false ∧ (t.drum d).port.checker = none ∧
             ((s.drum d).port.state = .up → (t.drum d).port.refresh = none ∧ (t.drum d).port.slot = none) ∧
             ((s.drum d).port.state = .up ∨ (s.drum d).port.grace ≠ none → NoticeTaken s t d) ∧
             ((s.drum d).port.state = .seek → (t.drum d).port.grace = none) ∧
             ((s.drum d).port.state = .seek → (s.drum d).port.grace = none →
               (t.drum d).tumble = (s.drum d).tumble ∧ (t.drum d).burner = (s.drum d).burner)))) ∧
     (r.args = [byte d.val, 7, m] →
       ((s.drum d).port.state ≠ .test → exec .testEnd s = .next (s.answered r rest .ok [])) ∧
       ((s.drum d).port.state = .test →
         ∃ t : State, exec .testEnd s = .next (t.answered r rest .ok []) ∧ t.besides d = s.besides d ∧
           t.flight = s.flight ∧ (t.drum d).port.state = .seek ∧ (t.drum d).port.arm = none ∧
           (t.drum d).port.signal = some .disarm ∧
           (t.drum d).port.lineTest =
             { (s.drum d).port.lineTest with
               outcome :=
                 if (s.drum d).port.lineTest.outcome = .arming ∨ (s.drum d).port.lineTest.outcome = .running then
                   .ended
                 else (s.drum d).port.lineTest.outcome }))) ∧
  (∀ (s : State) (d : Drum), s.resetHeld = false →
     ((s.drum d).port.state ≠ .test ∨ (s.drum d).port.lineTest.outcome ≠ .arming →
       exec (.armReport d) s = .next s ∧ exec (.armTimeout d) s = .next s) ∧
     ((s.drum d).port.state = .test → (s.drum d).port.lineTest.outcome = .arming →
       ((s.drum d).port.serviceLock = true →
         ∃ t : State, exec (.armReport d) s = .next t ∧ t.besides d = s.besides d ∧ t.flight = s.flight ∧
           (t.drum d).port.lineTest = { (s.drum d).port.lineTest with outcome := .running } ∧
           (t.drum d).port.arm = none ∧ (t.drum d).port.state = .test ∧
           ((s.drum d).port.lineTest.direction = .send → (t.drum d).port.checker = none) ∧
           ((s.drum d).port.lineTest.direction = .receive →
             (t.drum d).port.checker = some 100 ∧ (t.drum d).port.lockGap = !(s.drum d).port.laneLocked) ∧
           (t.drum d).port.image = (s.drum d).port.image ∧ (t.drum d).cycle = (s.drum d).cycle ∧
           (t.drum d).tumble = (s.drum d).tumble ∧ (t.drum d).burner = (s.drum d).burner) ∧
       ((s.drum d).port.arm = some 0 →
         ∃ t : State, exec (.armTimeout d) s = .next t ∧ t.besides d = s.besides d ∧ t.flight = s.flight ∧
           (t.drum d).port.lineTest = { (s.drum d).port.lineTest with outcome := .armTimeout } ∧
           (t.drum d).port.state = .seek ∧ (t.drum d).port.signal = some .disarm)) ∧
     (∀ n : Byte, (s.drum d).port.state = .test → (s.drum d).port.lineTest.outcome = .running →
       (s.drum d).port.lineTest.direction = .send → (s.drum d).port.serviceLock = true →
       ∃ t : State, exec (.testReport d n) s = .next t ∧ t.besides d = s.besides d ∧
         (t.drum d).port.lineTest.errors = min 65535 ((s.drum d).port.lineTest.errors + n.toNat) ∧
         ((s.drum d).port.lineTest.mode = .latched →
           (t.drum d).port.lineTest.errorFlag = ((s.drum d).port.lineTest.errorFlag || decide (n ≠ 0))) ∧
         ((s.drum d).port.lineTest.mode = .live → (t.drum d).port.lineTest.errorFlag = decide (n ≠ 0)) ∧
         t.flight.events =
           s.flight.events ++
             (if (s.drum d).port.lineTest.errors = 0 ∧ n ≠ 0 then [⟨.port d, .lineTestError, d, s.clock, none⟩]
              else [])) ∧
     (∀ n : Nat, (s.drum d).port.state = .test → (s.drum d).port.lineTest.outcome = .running →
       (s.drum d).port.lineTest.direction = .receive → (s.drum d).port.checker = some 0 →
       ∃ t : State, exec (.checkerInterval d n) s = .next t ∧ t.besides d = s.besides d ∧
         (t.drum d).port.checker = some 100 ∧ (t.drum d).port.lockGap = !(s.drum d).port.laneLocked ∧
         (t.drum d).port.lineTest.errors =
           min 65535 ((s.drum d).port.lineTest.errors + n + (if (s.drum d).port.lockGap then 1 else 0)) ∧
         ((s.drum d).port.lineTest.mode = .latched →
           (t.drum d).port.lineTest.errorFlag =
             ((s.drum d).port.lineTest.errorFlag || (decide (0 < n) || (s.drum d).port.lockGap))) ∧
         ((s.drum d).port.lineTest.mode = .live →
           (t.drum d).port.lineTest.errorFlag = (decide (0 < n) || (s.drum d).port.lockGap)) ∧
         t.flight.increments = s.flight.increments ∧
         t.flight.events =
           s.flight.events ++
             (if (s.drum d).port.lineTest.errors = 0 ∧ (0 < n ∨ (s.drum d).port.lockGap = true) then
               [⟨.port d, .lineTestError, d, s.clock, none⟩]
              else [])))

/-- PASS_THROUGH through the command gate: the checks in order, and what an accepted frame does (R58, R59, R60). A RUN passes
under SERVICE only from a stand confirmed at least 2 s ago, with the door closed and no RUN in the other direction commanded;
a STOP always passes (R60, R61, R93). -/
def Obligations.CommandGateAdmitsByRule : Prop :=
  (∀ (s : State) (r : Request) (rest : List Request) (d : Drum) (dest kind channel : Byte) (payload : List Byte),
     s.offers r rest → r.code = 19 → r.valid = true → r.args = byte d.val :: dest :: kind :: channel :: payload →
     (dest = 0 ∨ 15 < dest.toNat ∨ 31 < kind.toNat ∨ 15 < channel.toNat ∨ 16 < payload.length →
       exec .passThrough s = .next (s.answered r rest .badArg [])) ∧
     (0 < dest.toNat → dest.toNat ≤ 15 → kind.toNat ≤ 31 → channel.toNat ≤ 15 → payload.length ≤ 16 →
       ((s.drum d).port.state ≠ .up → exec .passThrough s = .next (s.answered r rest .portDown [])) ∧
       ((s.drum d).port.state = .up →
         (kind ≠ 16 → kind ≠ 17 → kind ≠ 18 →
           ((s.drum d).port.slot ≠ none → exec .passThrough s = .next (s.answered r rest .busy [])) ∧
           ((s.drum d).port.slot = none →
             ∃ t : State, exec .passThrough s = .next (t.answered r rest .ok []) ∧
               t = s.onPort d fun p => { p with slot := some ⟨dest.toNat, kind.toNat, channel.toNat, payload⟩ })) ∧
         ((s.drum d).config.gateMode = .auto → kind = 16 ∨ kind = 17 ∨ kind = 18 →
           exec .passThrough s = .next (s.answered r rest .gated [])) ∧
         ((s.drum d).config.gateMode = .service →
           (kind = 17 → exec .passThrough s = .next (s.answered r rest .gated [])) ∧
           (kind = 16 →
             (driveCmdOf payload = none → exec .passThrough s = .next (s.answered r rest .badArg [])) ∧
             ∀ v, driveCmdOf payload = some v →
               (driveGated (s.drum d) s.clock v = true → exec .passThrough s = .next (s.answered r rest .gated [])) ∧
               (driveGated (s.drum d) s.clock v = false →
                 (dest.toNat ≠ (s.drum d).config.motorNode →
                   exec .passThrough s = .next (s.answered r rest .badArg [])) ∧
                 (dest.toNat = (s.drum d).config.motorNode →
                   ∃ t : State, exec .passThrough s = .next (t.answered r rest .ok []) ∧
                     t.besides d = s.besides d ∧ t.flight = s.flight ∧
                     (t.drum d).port.image.drive = v ∧
                     (v = (s.drum d).port.image.drive → t = s) ∧
                     (v ≠ (s.drum d).port.image.drive →
                       (t.drum d).port.image.stopTime =
                         if v = .stop then s.clock else (s.drum d).port.image.stopTime)))) ∧
           (kind = 18 →
             (fanCmdOf payload = none ∨ dest.toNat ≠ (s.drum d).config.fanNode →
               exec .passThrough s = .next (s.answered r rest .badArg [])) ∧
             ∀ v, fanCmdOf payload = some v → dest.toNat = (s.drum d).config.fanNode →
               ∃ t : State, exec .passThrough s = .next (t.answered r rest .ok []) ∧
                 t.besides d = s.besides d ∧ t.flight = s.flight ∧ (t.drum d).port.image.fan = v))))) ∧
  (∀ (D : DrumState) (now : Clock) (dir : Direction) (speed : Nat),
     driveGated D now .stop = false ∧
     (driveGated D now (.run dir speed) = false ↔
       ∃ st, D.tumble.status = some st ∧ st.motor = .stopped ∧
         0 < (st.arrival - D.port.image.stopTime).toNat ∧ (st.arrival - D.port.image.stopTime).toNat < 2 ^ 31 ∧
         2000 ≤ (now - st.arrival).toNat ∧ D.port.readings.doorOpen = false ∧
         ∀ h v, D.port.image.drive = .run h v → h = dir))

/-! ### The alert list and the attribute store (R172 to R187) -/

/-- ALERT_ACK: by the entry's count and the count seen (R177). -/
def Obligations.AlertAckRemovesOrReducesTheEntry : Prop :=
  ∀ (s : State) (r : Request) (rest : List Request) (code x seen : Byte), s.offers r rest → r.code = 20 →
    r.args = [code, x, seen] →
    (29 < code.toNat ∨ 3 < x.toNat → exec .alertAck s = .next (s.answered r rest .badArg [])) ∧
    ∀ d : Drum, code.toNat ≤ 29 → x = byte d.val →
      ((∀ e ∈ s.router.alerts, ¬(e.event = code.toNat ∧ e.drum = d)) →
        exec .alertAck s = .next (s.answered r rest .notFound [])) ∧
      ∀ before e after, AlertsDistinct s → s.router.alerts = before ++ e :: after → e.event = code.toNat →
        e.drum = d →
        (e.count ≤ seen.toNat →
          exec .alertAck s =
            .next
              (({ s with router := { s.router with alerts := before ++ after } } : State).answered r rest .ok [0])) ∧
        (seen.toNat < e.count →
          exec .alertAck s =
            .next
              (({ s with
                  router :=
                    { s.router with
                      alerts :=
                        before ++
                          { e with
                            count := e.count - seen.toNat
                            send := if e.send = .unsent then .unsent else .resend } :: after } } :
                State).answered r rest .ok [byte (e.count - seen.toNat)]))

/-- ATTR_LOAD: sum, revision and content are checked in this order; an accepted image replaces the table, every record it
finds crossed crosses, and the reply counts them (R182, R183, R185). Each crossing raises ATTR_CROSSED, in drum order and then
attribute order, and applies its consequence: the NO_START bit, or the heat lockout of a drum not yet locked out. -/
def Obligations.AttrLoadEvaluatesEveryRecord : Prop :=
  ∀ (s : State) (r : Request) (rest : List Request), s.offers r rest → r.code = 21 → r.args.length = 48 →
    (r.args.sum ≠ 0 → exec .attrLoad s = .next { s with cabinet := s.replied r rest .checksum [] }) ∧
    (r.args.sum = 0 → natAt r.args 0 ≠ 2 →
      exec .attrLoad s = .next { s with cabinet := s.replied r rest .revision [] }) ∧
    (r.args.sum = 0 → natAt r.args 0 = 2 → tableOf r.args = none →
      exec .attrLoad s = .next { s with cabinet := s.replied r rest .badArg [] }) ∧
    ∀ v, r.args.sum = 0 → natAt r.args 0 = 2 → tableOf r.args = some v →
      ∃ t : State, exec .attrLoad s = .next t ∧
        t.cabinet =
          s.replied r rest .ok
            [byte
              (attrOrder.filter fun p =>
                ({ s with attributes := { s.attributes with valid := true, table := v } } : State).crosses
                  p.1 p.2).length] ∧
        t.attributes.valid = true ∧ t.attributes.revision = 2 ∧ t.attributes.table = v ∧
        (∀ d a, (t.attr d a).raw = (s.attr d a).raw) ∧
        (∀ d a,
          (t.attr d a).crossed =
            ((s.attr d a).crossed || (decide (0 < v[a].limit) && decide (v[a].limit ≤ (s.attr d a).raw)))) ∧
        t.router = s.router ∧ t.classifier = s.classifier ∧
        ∀ crosses : Drum → Fin 8 → Bool,
          (∀ d a,
            crosses d a =
              (!(s.attr d a).crossed && decide (0 < v[a].limit) && decide (v[a].limit ≤ (s.attr d a).raw))) →
          t.flight.events.filter (fun e => e.kind == .attrCrossed) =
              s.flight.events.filter (fun e => e.kind == .attrCrossed) ++
                (attrOrder.filter fun p => crosses p.1 p.2).map
                  (fun p => ⟨.attributes, .attrCrossed, p.1, s.clock, some (byte p.2.val)⟩) ∧
            (∀ d a,
              (t.attr d a).noStart =
                ((s.attr d a).noStart || (crosses d a && decide (v[a].consequence = .noStart)))) ∧
            (∀ d,
              (s.drum d).burner.lockout ≠ none ∨ (∀ a, crosses d a = true → v[a].consequence ≠ .heatLockout) →
                (t.drum d).burner.lockout = (s.drum d).burner.lockout ∧ (t.drum d).cycle = (s.drum d).cycle) ∧
            (∀ d,
              (s.drum d).burner.lockout = none → (∃ a, crosses d a = true ∧ v[a].consequence = .heatLockout) →
                (t.drum d).burner.lockout = some .byAttribute ∧ (t.drum d).burner.view = .lockedOut ∧
                  (t.drum d).port.image.flameStage = 0 ∧ (t.share d).granted = 0 ∧
                  (∀ e ∈ t.heat.queue, e.drum ≠ d) ∧
                  (⟨.burner d, .heatLockout, d, s.clock, some 2⟩ : Event) ∈ t.flight.events ∧
                  ((s.drum d).cycle.state = .drying →
                    (t.drum d).cycle.state = .cooling ∧ (t.drum d).cycle.reason = .heatFault) ∧
                  ((s.drum d).cycle.state = .purge → (s.drum d).cycle.purgeTarget = some .drying →
                    (t.drum d).cycle =
                      { (s.drum d).cycle with purgeTarget := some .cooling, reason := .heatFault }) ∧
                  ((s.drum d).cycle.state = .paused → (s.drum d).cycle.pausedFrom = some .drying →
                    (t.drum d).cycle =
                      { (s.drum d).cycle with pausedFrom := some .cooling, reason := .heatFault })) ∧
            t.flight.increments = s.flight.increments

/-- ATTR_CLEAR zeroes the named record, or all eight under ALL (255), and nothing else (R187). -/
def Obligations.AttrClearZeroesTheRecords : Prop :=
  ∀ (s : State) (r : Request) (rest : List Request) (x sel : Byte), s.offers r rest → r.code = 23 →
    r.args = [x, sel] →
    (3 < x.toNat → exec .attrClear s = .next { s with cabinet := s.replied r rest .badArg [] }) ∧
    ∀ d : Drum, x = byte d.val →
      (7 < sel.toNat → sel ≠ 255 → exec .attrClear s = .next (s.answered r rest .badArg [])) ∧
      (∀ a : Fin 8, sel = byte a.val →
        ∃ t : State, exec .attrClear s = .next (t.answered r rest .ok []) ∧
          t.attr d a = { raw := 0, crossed := false, noStart := false } ∧
          (∀ e b, (e, b) ≠ (d, a) → t.attr e b = s.attr e b) ∧
          { t with attributes := { t.attributes with records := s.attributes.records } } = s) ∧
      (sel = 255 →
        ∃ t : State, exec .attrClear s = .next (t.answered r rest .ok []) ∧
          (∀ a, t.attr d a = { raw := 0, crossed := false, noStart := false }) ∧
          (∀ e b, e ≠ d → t.attr e b = s.attr e b) ∧
          { t with attributes := { t.attributes with records := s.attributes.records } } = s)

/-- EVENT_TAKEN takes the oldest event of a block, hands its routed action to the drum's cycle controller, and enters or
merges it in the alert list by the route in force (R168, R172, R174). A HEAT_LOCKOUT by attribute is not taken before the
ATTR_CROSSED that caused it: until then the command changes nothing (R185). -/
def Obligations.EventsAreRoutedAndEntered : Prop :=
  ∀ (s : State) (src : Block), s.resetHeld = false →
    ((∀ e ∈ s.flight.events, e.src ≠ src) → exec (.eventTaken src) s = .next s) ∧
    (∀ before ev after, s.flight.events = before ++ ev :: after → ev.src = src → (∀ x ∈ before, x.src ≠ src) →
      WaitsForCrossing before ev → exec (.eventTaken src) s = .next s) ∧
    ∀ before ev after, s.flight.events = before ++ ev :: after → ev.src = src → (∀ x ∈ before, x.src ≠ src) →
      ¬WaitsForCrossing before ev →
      ∃ t : State, exec (.eventTaken src) s = .next t ∧
        (∃ more, t.flight.events = before ++ after ++ more) ∧ t.router.routes = s.router.routes ∧
        t.heat = s.heat ∧ t.attributes = s.attributes ∧ (∀ d, d ≠ ev.drum → t.drum d = s.drum d) ∧
        (s.router.routes[ev.kind.code].cls = .none → t.router = s.router ∧ t.cabinet = s.cabinet) ∧
        (s.router.routes[ev.kind.code].cls ≠ .none →
          (∀ pre e post, AlertsDistinct s → s.router.alerts = pre ++ e :: post → e.event = ev.kind.code.val →
            e.drum = ev.drum →
            t.cabinet = s.cabinet ∧
              t.router.alerts =
                pre ++
                  { e with
                    count := min (e.count + 1) 255
                    last := ev.time
                    detail := ev.detail
                    cls := s.router.routes[ev.kind.code].cls
                    line := s.router.routes[ev.kind.code].line
                    send := if e.send = .unsent then .unsent else .resend } :: post) ∧
          ((∀ e ∈ s.router.alerts, ¬(e.event = ev.kind.code.val ∧ e.drum = ev.drum)) →
            (s.router.alerts.length < 32 →
              t.cabinet = s.cabinet ∧
                t.router.alerts =
                  s.router.alerts ++
                    [⟨ev.kind.code.val, ev.drum, s.router.routes[ev.kind.code].cls,
                      s.router.routes[ev.kind.code].line, 1, ev.time, ev.time, ev.detail, .unsent, 0⟩]) ∧
            (32 ≤ s.router.alerts.length →
              t.router = s.router ∧
                t.cabinet =
                  { s.cabinet with
                    alertOverrun := true
                    outgoing :=
                      match s.cabinet.outgoing with
                      | some (.reply m a ma _ sent) => some (.reply m a ma true sent)
                      | o => o }))) ∧
        (s.router.routes[ev.kind.code].action = .none → t.drums = s.drums) ∧
        (s.router.routes[ev.kind.code].action = .pause →
          (s.drum ev.drum).cycle.state ∈ [CycleState.purge, .drying, .cooling] →
          (t.drum ev.drum).cycle.state = .paused ∧ (t.drum ev.drum).cycle.causes = [.routed]) ∧
        (s.router.routes[ev.kind.code].action = .endHeat → (s.drum ev.drum).cycle.state = .drying →
          (t.drum ev.drum).cycle.state = .cooling ∧ (t.drum ev.drum).cycle.reason = .endHeat) ∧
        (s.router.routes[ev.kind.code].action = .halt →
          (s.drum ev.drum).cycle.state ∈ [CycleState.purge, .drying, .cooling, .guarding, .paused] →
          (t.drum ev.drum).cycle.state = .halted ∧ (t.drum ev.drum).cycle.halt = .routed) ∧
        ((s.drum ev.drum).cycle.state ∈ [CycleState.vacant, .ready, .done, .halted] → t.drums = s.drums)

/-- ATTRIBUTE_INCREMENT takes the oldest increment of a block: the count rises by one, saturating, and a count that reaches
a limit in force crosses once, with its event and its consequence (R181, R184, R185). -/
def Obligations.IncrementsCountAndCross : Prop :=
  ∀ (s : State) (src : Block), s.resetHeld = false →
    ((∀ i ∈ s.flight.increments, i.src ≠ src) → exec (.attributeIncrement src) s = .next s) ∧
    ∀ before i after, s.flight.increments = before ++ i :: after → i.src = src → (∀ x ∈ before, x.src ≠ src) →
      ∃ t : State, exec (.attributeIncrement src) s = .next t ∧
        (t.attr i.drum i.attr).raw = min ((s.attr i.drum i.attr).raw + 1) 4294967295 ∧
        (∀ d a, (d, a) ≠ (i.drum, i.attr) → t.attr d a = s.attr d a) ∧
        t.attributes.table = s.attributes.table ∧ t.attributes.valid = s.attributes.valid ∧
        t.router = s.router ∧ t.cabinet = s.cabinet ∧
        (s.attributes.valid = false ∨ s.attributes.table[i.attr].limit = 0 ∨
            (s.attr i.drum i.attr).crossed = true ∨
            (t.attr i.drum i.attr).raw < s.attributes.table[i.attr].limit →
          (t.attr i.drum i.attr).crossed = (s.attr i.drum i.attr).crossed ∧
            (t.attr i.drum i.attr).noStart = (s.attr i.drum i.attr).noStart ∧ t.drums = s.drums ∧
            t.heat = s.heat ∧ t.flight.events = s.flight.events ∧ t.flight.increments = before ++ after) ∧
        (s.attributes.valid = true → 0 < s.attributes.table[i.attr].limit →
            (s.attr i.drum i.attr).crossed = false →
            s.attributes.table[i.attr].limit ≤ (t.attr i.drum i.attr).raw →
          (t.attr i.drum i.attr).crossed = true ∧
            (∃ more, t.flight.events =
              s.flight.events ++
                ⟨.attributes, .attrCrossed, i.drum, s.clock, some (byte i.attr.val)⟩ :: more) ∧
            (s.attributes.table[i.attr].consequence = .none →
              t.drums = s.drums ∧ t.heat = s.heat ∧
                (t.attr i.drum i.attr).noStart = (s.attr i.drum i.attr).noStart) ∧
            (s.attributes.table[i.attr].consequence = .noStart →
              t.drums = s.drums ∧ t.heat = s.heat ∧ (t.attr i.drum i.attr).noStart = true) ∧
            (s.attributes.table[i.attr].consequence = .heatLockout →
              ((s.drum i.drum).burner.lockout ≠ none → t.drums = s.drums ∧ t.heat = s.heat) ∧
                ((s.drum i.drum).burner.lockout = none →
                  (t.drum i.drum).burner.lockout = some .byAttribute ∧
                    (t.drum i.drum).burner.view = .lockedOut ∧
                    (t.drum i.drum).port.image.flameStage = 0 ∧
                    ∃ more, t.flight.events =
                      s.flight.events ++
                        ⟨.attributes, .attrCrossed, i.drum, s.clock, some (byte i.attr.val)⟩ ::
                          ⟨.burner i.drum, .heatLockout, i.drum, s.clock, some 2⟩ :: more)))

/-! ### The drum link (R4 to R7, R10 to R20, R22, R23) -/

/-- Main-lane lock, its loss, and the end of a grace interval (R4, R5, R6, R7); a grace of 0 expires at the loss itself, which
pauses an active cycle with cause LINK or ends its guard (R5, R80); the standby timer's expiry in UP, which puts the port in
SERVICE with the link-lost notice and without an event or a count (R7, R19). What the notice makes of the tumble controller and
the burner supervisor is said in full (R105, R152); the decel timer it starts stands still until UP by EmptyQueueStep (R97). That a lock or a loss of lock reported
in TEST is noted in two bits for the checker is the model's choice (R23, log 16), as is that the notice writes STOP in SERVICE
gate mode too (log 35), and that at the end of a grace interval it comes before the HOLD or STOP of the cycle controller
(log 45). -/
def Obligations.LinkLossAndStandbyGiveTheNotice : Prop :=
  (∀ (s : State) (d : Drum), s.resetHeld = false →
     ((s.drum d).port.state ∈ [PortState.off, .service, .up] → exec (.mainLaneLock d) s = .next s) ∧
     ((s.drum d).port.state = .test →
       exec (.mainLaneLock d) s = .next (s.onPort d fun p => { p with laneLocked := true })) ∧
     ((s.drum d).port.state = .seek →
       ∃ t : State, exec (.mainLaneLock d) s = .next t ∧ t.besides d = s.besides d ∧
         t.flight = { s.flight with events := s.flight.events ++ [⟨.port d, .linkUp, d, s.clock, none⟩] } ∧
         (t.drum d).cycle = (s.drum d).cycle ∧ (t.drum d).tumble = (s.drum d).tumble ∧
         (t.drum d).burner = (s.drum d).burner ∧ (t.drum d).port.state = .up ∧ (t.drum d).port.grace = none ∧
         (t.drum d).port.refresh = some ((s.drum d).config.refreshSteps * 10) ∧
         ((s.drum d).port.hold = true → (t.drum d).port.image = (s.drum d).port.image) ∧
         ((s.drum d).port.hold = false →
           ((s.drum d).config.motorNode ≠ 0 → (t.drum d).port.image.driveMarks.change = true) ∧
           ((s.drum d).config.burnerNode ≠ 0 → (t.drum d).port.image.flameMarks.change = true) ∧
           ((s.drum d).config.fanNode ≠ 0 → (t.drum d).port.image.fanMarks.change = true) ∧
           (t.drum d).port.image.drive = (s.drum d).port.image.drive) ∧
         ((t.drum d).standbyRuns = true → (s.drum d).port.standby = none →
           (t.drum d).port.standby = some (s.drum d).fullStandby)) ∧
     ((s.drum d).port.state ∈ [PortState.off, .service, .seek] → exec (.mainLaneLockLost d) s = .next s) ∧
     ((s.drum d).port.state = .test →
       exec (.mainLaneLockLost d) s =
         .next (s.onPort d fun p => { p with laneLocked := false, lockGap := true })) ∧
     ((s.drum d).port.state = .up →
       ∃ t : State, exec (.mainLaneLockLost d) s = .next t ∧ t.besides d = s.besides d ∧
         (t.drum d).port.state = .seek ∧ (t.drum d).port.standby = none ∧ (t.drum d).port.slot = none ∧ (t.drum d).port.refresh = none ∧
         (t.drum d).port.image.driveMarks = {} ∧ (t.drum d).port.image.flameMarks = {} ∧
         (t.drum d).port.image.fanMarks = {} ∧
         ((s.drum d).cycle.state.active = true → (s.drum d).config.graceSteps ≠ 0 →
           (t.drum d).port.grace = some ((s.drum d).config.graceSteps * 100) ∧
             (t.drum d).cycle = (s.drum d).cycle ∧ (t.drum d).tumble = (s.drum d).tumble ∧
             (t.drum d).burner = (s.drum d).burner) ∧
         ((s.drum d).cycle.state.active = false ∨ (s.drum d).config.graceSteps = 0 → NoticeTaken s t d) ∧
         ((s.drum d).cycle.state.active = false → (t.drum d).cycle = (s.drum d).cycle) ∧
         ((s.drum d).cycle.state.active = false ∨ (s.drum d).config.graceSteps ≠ 0 →
           t.flight.events = s.flight.events ++ [⟨.port d, .linkLost, d, s.clock, none⟩]) ∧
         ((s.drum d).cycle.state ≠ .guarding ∨ (s.drum d).config.graceSteps ≠ 0 →
           t.flight.increments = s.flight.increments ++ [⟨.port d, d, 6⟩]) ∧
         ((s.drum d).config.graceSteps = 0 →
           ((s.drum d).cycle.state.active = true → (t.drum d).port.grace = none) ∧
             ((s.drum d).cycle.state ∈ [CycleState.purge, .drying, .cooling] →
               (t.drum d).cycle.state = .paused ∧ (t.drum d).cycle.causes = [.link] ∧
                 t.flight.events =
                   s.flight.events ++
                     [⟨.port d, .linkLost, d, s.clock, none⟩, ⟨.cycle d, .cyclePaused, d, s.clock, some 3⟩]) ∧
             ((s.drum d).cycle.state = .guarding →
               (t.drum d).cycle = { (s.drum d).cycle.cleared with state := .done } ∧
                 t.flight.increments =
                   s.flight.increments ++
                     ⟨.port d, d, 6⟩ ::
                       (if (s.drum d).cycle.reason = .dry ∨ (s.drum d).cycle.reason = .timeLimit then
                         [⟨.cycle d, d, 7⟩]
                        else []) ∧
                 t.flight.events =
                   s.flight.events ++
                     [⟨.port d, .linkLost, d, s.clock, none⟩,
                       ⟨.cycle d, .cycleDone, d, s.clock, some (byte (s.drum d).cycle.reason.code)⟩]))) ∧
     ((s.drum d).port.state = .seek → (s.drum d).port.grace = some 0 →
       ∃ t : State, exec (.graceExpiry d) s = .next t ∧ t.besides d = s.besides d ∧
         (t.drum d).port.state = .seek ∧ (t.drum d).port.grace = none ∧ NoticeTaken s t d ∧
         ((s.drum d).cycle.state ∈ [CycleState.purge, .drying, .cooling] →
           (t.drum d).cycle.state = .paused ∧ (t.drum d).cycle.causes = [.link] ∧
             t.flight.events = s.flight.events ++ [⟨.cycle d, .cyclePaused, d, s.clock, some 3⟩]) ∧
         ((s.drum d).cycle.state = .guarding →
           (t.drum d).cycle = { (s.drum d).cycle.cleared with state := .done } ∧
             t.flight.events =
               s.flight.events ++
                 [⟨.cycle d, .cycleDone, d, s.clock, some (byte (s.drum d).cycle.reason.code)⟩]) ∧
         ((s.drum d).cycle.state.active = false →
           (t.drum d).cycle = (s.drum d).cycle ∧ t.flight.events = s.flight.events)) ∧
     ((s.drum d).port.state ≠ .seek ∨ (s.drum d).port.grace ≠ some 0 → exec (.graceExpiry d) s = .next s)) ∧
  (∀ (s : State) (d : Drum), s.resetHeld = false →
     ((s.drum d).port.state ≠ .up ∨ (s.drum d).port.standby ≠ some 0 → exec (.standbyExpiry d) s = .next s) ∧
     ((s.drum d).port.state = .up → (s.drum d).port.standby = some 0 →
       ∃ t : State, exec (.standbyExpiry d) s = .next t ∧ t.besides d = s.besides d ∧
         t.flight.events = s.flight.events ∧ t.flight.increments = s.flight.increments ∧
         (t.drum d).port.state = .service ∧ (t.drum d).port.standby = none ∧ (t.drum d).port.slot = none ∧
         (t.drum d).port.refresh = none ∧ (t.drum d).port.readings = (s.drum d).port.readings ∧
         NoticeTaken s t d ∧ (t.drum d).cycle = (s.drum d).cycle))

/-- Service-lane lock and its loss: every discrete falls to its safe reading and the presence set empties (R10, R12). A
presence report replaces the presence set and raises the differences; the loss of a bound node pauses an active cycle (R13,
R80, R81). -/
def Obligations.ServiceLaneReportsReadingsAndPresence : Prop :=
  (∀ (s : State) (d : Drum), s.resetHeld = false →
     ((s.drum d).port.state = .off → exec (.serviceLaneLock d) s = .next s) ∧
     ((s.drum d).port.state ≠ .off →
       exec (.serviceLaneLock d) s = .next (s.onPort d fun p => { p with serviceLock := true })) ∧
     ((s.drum d).port.serviceLock = false → exec (.serviceLaneLockLost d) s = .next s) ∧
     ((s.drum d).port.serviceLock = true →
       ∃ t : State, exec (.serviceLaneLockLost d) s = .next t ∧ t.besides d = s.besides d ∧
         (t.drum d).port.serviceLock = false ∧ (t.drum d).port.readings = ⟨true, true, true, true⟩ ∧
         (t.drum d).port.presence = 0 ∧ (t.drum d).port.debounce = {} ∧
         (t.drum d).port.state = (s.drum d).port.state ∧ (t.drum d).port.hold = (s.drum d).port.hold ∧
         (∀ k ∈ [(EventKind.doorOpened, (s.drum d).port.readings.doorOpen),
           (.lintOut, (s.drum d).port.readings.lintOut), (.airflowLost, (s.drum d).port.readings.airflowNotProven),
           (.highLimit, (s.drum d).port.readings.highlimitTripped)],
           k.2 = false → (⟨.port d, k.1, d, s.clock, none⟩ : Event) ∈ t.flight.events) ∧
         (∀ n, 1 ≤ n → n ≤ 14 → (s.drum d).port.nodePresent n = true →
           (⟨.port d, .nodeLost, d, s.clock, some (byte n)⟩ : Event) ∈ t.flight.events) ∧
         ((s.drum d).port.readings.doorOpen = false →
           (s.drum d).cycle.state ∈ [CycleState.purge, .drying, .cooling] →
           (t.drum d).cycle.state = .paused ∧ PauseCause.door ∈ (t.drum d).cycle.causes))) ∧
  (∀ (s : State) (d : Drum) (report : BitVec 16), s.resetHeld = false →
     ((s.drum d).port.serviceLock = false ∨ (s.drum d).port.hold = true →
       exec (.presenceReport d report) s = .next s) ∧
     ((s.drum d).port.serviceLock = true → (s.drum d).port.hold = false →
       ∃ t : State, exec (.presenceReport d report) s = .next t ∧ t.besides d = s.besides d ∧
         (∀ n, (t.drum d).port.nodePresent n = (report.getLsbD n && decide (1 ≤ n) && decide (n ≤ 14))) ∧
         (∀ n, 1 ≤ n → n ≤ 14 → report.getLsbD n = true → (s.drum d).port.nodePresent n = false →
           (⟨.port d, .nodePresent, d, s.clock, some (byte n)⟩ : Event) ∈ t.flight.events) ∧
         (∀ n, 1 ≤ n → n ≤ 14 → report.getLsbD n = false → (s.drum d).port.nodePresent n = true →
           (⟨.port d, .nodeLost, d, s.clock, some (byte n)⟩ : Event) ∈ t.flight.events) ∧
         ((∀ n ∈ (s.drum d).boundNodes, (s.drum d).port.nodePresent n = true → report.getLsbD n = true) →
           (t.drum d).cycle = (s.drum d).cycle) ∧
         ((∃ n ∈ (s.drum d).boundNodes, 1 ≤ n ∧ n ≤ 14 ∧ (s.drum d).port.nodePresent n = true ∧
             report.getLsbD n = false) →
           ((s.drum d).cycle.state ∈ [CycleState.purge, .drying, .cooling] →
             (t.drum d).cycle.state = .paused ∧ (t.drum d).cycle.causes = [.node]) ∧
           ((s.drum d).cycle.state = .guarding → (t.drum d).cycle.state = .done))))

/-- A raw report starts, keeps or cancels each debounce timer; an expiry makes the accepted change, which the burner and the
cycle controller act on (R11, R12, R20, R75, R79, R86); AIRFLOW lost in the air time of PURGE starts the proof again without a
pause (R73); each change reloads a running standby timer (R12, R19). That the fixed action comes within the step that raises the event is the
model's choice (log 38). -/
def Obligations.DiscretesAreDebouncedAndActedOn : Prop :=
  ∀ (s : State) (d : Drum), s.resetHeld = false →
    (∀ raw : Readings,
      ((s.drum d).port.serviceLock = false → exec (.discreteReport d raw) s = .next s) ∧
      ((s.drum d).port.serviceLock = true →
        ∃ t : State, exec (.discreteReport d raw) s = .next t ∧ t.besides d = s.besides d ∧ t.flight = s.flight ∧
          (t.drum d).port.readings = (s.drum d).port.readings ∧
          { t.drum d with port := { (t.drum d).port with debounce := (s.drum d).port.debounce } } = s.drum d ∧
          ∀ x : Discrete,
            (raw.get x = (s.drum d).port.readings.get x → (t.drum d).port.debounce.get x = none) ∧
            (raw.get x ≠ (s.drum d).port.readings.get x →
              ((s.drum d).port.debounce.get x = none →
                (t.drum d).port.debounce.get x = some ((s.drum d).config.debounceSteps * 10)) ∧
              ((s.drum d).port.debounce.get x ≠ none →
                (t.drum d).port.debounce.get x = (s.drum d).port.debounce.get x)))) ∧
    ∀ x : Discrete,
      ((s.drum d).port.debounce.get x ≠ some 0 → exec (.debounceExpiry d x) s = .next s) ∧
      ((s.drum d).port.debounce.get x = some 0 →
        ∃ t : State, exec (.debounceExpiry d x) s = .next t ∧ t.besides d = s.besides d ∧
          (t.drum d).port.readings =
            (s.drum d).port.readings.set x (!(s.drum d).port.readings.get x) ∧
          (t.drum d).port.debounce = (s.drum d).port.debounce.set x none ∧
          (t.drum d).port.presence = (s.drum d).port.presence ∧
          (∀ k ∈ [(Discrete.door, false, EventKind.doorOpened), (.door, true, .doorClosed), (.lint, false, .lintOut),
            (.airflow, false, .airflowLost), (.highlimit, false, .highLimit)],
            x = k.1 → (s.drum d).port.readings.get x = k.2.1 →
              ∃ more, t.flight.events = s.flight.events ++ ⟨.port d, k.2.2, d, s.clock, none⟩ :: more) ∧
          (x ≠ .lint → (s.drum d).port.readings.get x = false → (t.drum d).port.image.flameStage = 0) ∧
          (x = .highlimit → (s.drum d).port.readings.get x = false →
            t.flight.increments = s.flight.increments ++ [⟨.burner d, d, 2⟩] ∧
              ((s.drum d).cycle.state = .drying →
                (t.drum d).cycle.state = .cooling ∧ (t.drum d).cycle.reason = .overtemp)) ∧
          (x = .door → (s.drum d).port.readings.get x = false →
            (s.drum d).cycle.state ∈ [CycleState.purge, .drying, .cooling] →
              (t.drum d).cycle.state = .paused ∧ (t.drum d).cycle.causes = [.door]) ∧
          (x = .door → (s.drum d).port.readings.get x = false →
            (s.drum d).cycle.state ∈ [CycleState.guarding, .done] →
              (t.drum d).cycle.state = .vacant ∧ (t.drum d).cycle.record = none) ∧
          (x = .airflow → (s.drum d).port.readings.get x = false →
            (s.drum d).cycle.state ∈ [CycleState.drying, .cooling] →
              (t.drum d).cycle.state = .paused ∧ (t.drum d).cycle.causes = [.airflow]) ∧
          (x = .airflow → (s.drum d).port.readings.get x = false → (s.drum d).cycle.state = .purge →
            (s.drum d).cycle.air ≠ none →
            (t.drum d).cycle =
                { (s.drum d).cycle with air := none, prove := seconds (s.drum d).config.proveTimeout } ∧
              t.flight.events = s.flight.events ++ [⟨.port d, .airflowLost, d, s.clock, none⟩] ∧
              (t.drum d).tumble = (s.drum d).tumble) ∧
          ((s.drum d).port.standby ≠ none → (t.drum d).standbyRuns = true →
            (t.drum d).port.standby = some (s.drum d).fullStandby) ∧
          (x = .airflow → (s.drum d).port.readings.get x = true → (s.drum d).cycle.state = .purge →
            (t.drum d).cycle.air = seconds (s.drum d).config.minAir ∧ (t.drum d).cycle.prove = none) ∧
          (x = .door → (s.drum d).port.state = .service → (t.drum d).port.state = .seek) ∧
          (x ≠ .door ∨ (s.drum d).port.state ≠ .service → (t.drum d).port.state = (s.drum d).port.state))

/-- The next frame of a port: a change-marked entry in the order DRIVE, FLAME, FAN, then the pass-through slot, then a
refresh-marked entry; its send takes the marks of its entry, and its end frees the lane (R8, R15, R16, R18). That a frame under
way also ends so under node hold is the model's choice (log 13), as is that the end of a FLAME_CMD that carries the reset-lockout
flag clears it also where it was set again meanwhile (log 44). -/
def Obligations.CommandFramesLeaveInOrder : Prop :=
  ∀ (s : State) (d : Drum), s.resetHeld = false →
    ((s.drum d).port.state ≠ .up ∨ (s.drum d).port.hold = true ∨ (s.drum d).port.sending ≠ none →
      exec (.commandFrameSend d) s = .next s) ∧
    ((s.drum d).port.state = .up → (s.drum d).port.hold = false → (s.drum d).port.sending = none →
      ∃ t : State, exec (.commandFrameSend d) s = .next t ∧ t.besides d = s.besides d ∧ t.flight = s.flight ∧
        (t.drum d).port.image.drive = (s.drum d).port.image.drive ∧
        (t.drum d).port.slot = (s.drum d).port.slot ∧ (t.drum d).port.refresh = (s.drum d).port.refresh ∧
        (let i := (s.drum d).port.image
         let c := (s.drum d).config
         let driveFrame : Sending := ⟨.drive, false, linkFrame c.motorNode 0 16 0 i.drive.payload⟩
         let flameFrame : Sending :=
           ⟨.flame, i.resetLockout, linkFrame c.burnerNode 0 17 0 [byte i.flameStage, flagByte i.resetLockout]⟩
         let fanFrame : Sending := ⟨.fan, false, linkFrame c.fanNode 0 18 0 [flagByte i.fan]⟩
         (t.drum d).port.sending =
           if i.driveMarks.change = true ∧ c.motorNode ≠ 0 then some driveFrame
           else if i.flameMarks.change = true ∧ c.burnerNode ≠ 0 then some flameFrame
           else if i.fanMarks.change = true ∧ c.fanNode ≠ 0 then some fanFrame
           else
             match (s.drum d).port.slot with
             | some f => some ⟨.slot, false, linkFrame f.dest 0 f.kind f.channel f.payload⟩
             | none =>
               if i.driveMarks.refresh = true ∧ c.motorNode ≠ 0 then some driveFrame
               else if i.flameMarks.refresh = true ∧ c.burnerNode ≠ 0 then some flameFrame
               else if i.fanMarks.refresh = true ∧ c.fanNode ≠ 0 then some fanFrame
               else none) ∧
        (∀ f, (t.drum d).port.sending = some f →
          (f.sender = .drive → (t.drum d).port.image.driveMarks = {}) ∧
          (f.sender = .flame → (t.drum d).port.image.flameMarks = {}) ∧
          (f.sender = .fan → (t.drum d).port.image.fanMarks = {}))) ∧
    ((s.drum d).port.sending = none → exec (.commandFrameSent d) s = .next s) ∧
    ∀ f, (s.drum d).port.sending = some f →
      exec (.commandFrameSent d) s =
        .next
          (s.onPort d fun p =>
            { p with
              sending := none
              slot := if f.sender = .slot then none else p.slot
              image :=
                { p.image with resetLockout := if f.carriesReset then false else p.image.resetLockout } })

/-- The refresh timer: loaded on entry to UP and at each expiry with the refresh interval, stopped when the port leaves UP,
not reloaded by sends or by a new interval; each expiry with node hold clear refresh-marks every bound entry (R17). -/
def Obligations.RefreshTimerMarksTheBoundEntries : Prop :=
  ∀ (s : State) (d : Drum), s.resetHeld = false →
    ((s.drum d).port.state ≠ .up ∨ (s.drum d).port.refresh ≠ some 0 → exec (.refreshExpiry d) s = .next s) ∧
    ((s.drum d).port.state = .up → (s.drum d).port.refresh = some 0 →
      ∃ t : State, exec (.refreshExpiry d) s = .next t ∧ t.besides d = s.besides d ∧ t.flight = s.flight ∧
        (t.drum d).port.refresh = some ((s.drum d).config.refreshSteps * 10) ∧
        { t.drum d with port := { (t.drum d).port with refresh := (s.drum d).port.refresh, image := (s.drum d).port.image } } = s.drum d ∧
        ((s.drum d).port.hold = true → (t.drum d).port.image = (s.drum d).port.image) ∧
        ((s.drum d).port.hold = false →
          (t.drum d).port.image =
            { (s.drum d).port.image with
              driveMarks :=
                { (s.drum d).port.image.driveMarks with
                  refresh := (s.drum d).port.image.driveMarks.refresh || decide ((s.drum d).config.motorNode ≠ 0) }
              flameMarks :=
                { (s.drum d).port.image.flameMarks with
                  refresh := (s.drum d).port.image.flameMarks.refresh || decide ((s.drum d).config.burnerNode ≠ 0) }
              fanMarks :=
                { (s.drum d).port.image.fanMarks with
                  refresh := (s.drum d).port.image.fanMarks.refresh || decide ((s.drum d).config.fanNode ≠ 0) } })) ∧
    ((s.drum d).port.state = .seek →
      ∃ t : State, exec (.mainLaneLock d) s = .next t ∧
        (t.drum d).port.refresh = some ((s.drum d).config.refreshSteps * 10)) ∧
    ((s.drum d).port.state = .up →
      (∃ t : State, exec (.mainLaneLockLost d) s = .next t ∧ (t.drum d).port.refresh = none) ∧
        (∃ t : State, exec (.commandFrameSend d) s = .next t ∧
          (t.drum d).port.refresh = (s.drum d).port.refresh) ∧
        ∃ t : State, exec .drumConfigWrite s = .next t ∧ (t.drum d).port.refresh = (s.drum d).port.refresh)

/-! ### The cycle controller's times (R73 to R78, R81, R82, R85) -/

/-- The times of PURGE and DRYING: the prove timeout halts the cycle, the air time leads to the target phase, the maximum
drying time ends drying (R73, R74, R85). -/
def Obligations.PurgeAndDryingEndByTheirTimes : Prop :=
  ∀ (s : State) (d : Drum), s.resetHeld = false →
    ((s.drum d).cycle.state = .purge → (s.drum d).cycle.prove = some 0 →
      ∃ t : State, exec (.proveTimeout d) s = .next t ∧ t.besides d = s.besides d ∧
        (t.drum d).cycle = { (s.drum d).cycle.cleared with state := .halted, halt := .airflow } ∧
        t.flight.events = s.flight.events ++ [⟨.cycle d, .cycleHalted, d, s.clock, some 1⟩] ∧
        t.flight.increments = s.flight.increments ∧ (t.drum d).port.image.fan = false ∧
        (t.drum d).port.image.flameStage = 0 ∧ (t.drum d).tumble.state.running = false ∧
        ((s.drum d).tumble.state.running = true → (t.drum d).port.image.drive = .stop) ∧
        (t.drum d).tumble.multiplier = 1 ∧ (t.drum d).tumble.reduction = 0) ∧
    (∀ ph, (s.drum d).cycle.state = .purge → (s.drum d).cycle.air = some 0 →
      (s.drum d).cycle.purgeTarget = some ph →
      ∃ t : State, exec (.airTimeEnd d) s = .next t ∧ t.besides d = s.besides d ∧
        t.flight.events = s.flight.events ∧ t.flight.increments = s.flight.increments ∧
        (t.drum d).cycle =
          { (s.drum d).cycle.cleared with state := if ph = .drying then .drying else .cooling } ∧
        (t.drum d).port.image.fan = true ∧
        (ph = .drying →
          (t.drum d).burner.wanted = 0 ∧
            (t.drum d).burner.starvation = seconds (s.drum d).config.starvation ∧
            (t.drum d).dryness.extraDry = (s.drum d).dryness.extraDry) ∧
        (ph = .cooling → (t.drum d).dryness.extraDry = none) ∧
        (t.drum d).tumble = { (s.drum d).tumble with stalls := 0 }) ∧
    (∀ x, (s.drum d).cycle.state = .drying → (s.drum d).cycle.record = some x →
      x.maxDrying * 60000 ≤ (s.drum d).cycle.drying →
      ∃ t : State, exec (.dryingTimeLimit d) s = .next t ∧ t.besides d = s.besides d ∧
        t.flight.events = s.flight.events ∧ t.flight.increments = s.flight.increments ∧
        (t.drum d).cycle =
          { (s.drum d).cycle.cleared with
            state := .cooling, cooling := 0, minCoolPassed := false, reason := .timeLimit } ∧
        (t.drum d).port.image.fan = true ∧ (t.drum d).port.image.flameStage = 0 ∧
        (t.drum d).dryness.extraDry = none ∧ (t.drum d).tumble = { (s.drum d).tumble with stalls := 0 }) ∧
    ((s.drum d).cycle.state ≠ .purge → exec (.proveTimeout d) s = .next s ∧ exec (.airTimeEnd d) s = .next s) ∧
    ((s.drum d).cycle.state ≠ .drying → exec (.dryingTimeLimit d) s = .next s)

/-- The times of COOLING: at the minimum cool time the cool condition is tested once (the model's reading, log 20), at the
maximum cool time COOLING ends; it ends in GUARD with a guard part and in DONE without (R76, R77, R78). The times of GUARD
and PAUSED: the guard interval starts a guard tumble, the guard limit ends in DONE, the fan overrun writes FAN OFF, the pause
limit abandons the cycle (R77, R78, R81, R82, R104). A guard limit within a guard tumble stops it by R103; its mark ends where
STOPPED is entered, here or at the confirming status (DriveStatusActsByTumbleState). -/
def Obligations.CoolingGuardAndPauseEndByTheirTimes : Prop :=
  (∀ (s : State) (d : Drum) (x : CycleRecord), s.resetHeld = false → (s.drum d).cycle.state = .cooling →
     (s.drum d).cycle.record = some x →
     (x.minCool * 60000 ≤ (s.drum d).cycle.cooling → (s.drum d).cycle.minCoolPassed = false →
       ∃ t : State, exec (.minimumCoolTimeReached d) s = .next t ∧ t.besides d = s.besides d ∧
         ((∀ v, (s.drum d).burner.exhaust = some v → x.coolTarget < v.value) →
           t = s.onCycle d fun c => { c with minCoolPassed := true }) ∧
         (∀ v, (s.drum d).burner.exhaust = some v → v.value ≤ x.coolTarget →
           (x.guardPart = none → (t.drum d).cycle.state = .done) ∧
             (x.guardPart ≠ none → (t.drum d).cycle.state = .guarding))) ∧
     (x.maxCool * 60000 ≤ (s.drum d).cycle.cooling →
       ∃ t : State, exec (.maximumCoolTime d) s = .next t ∧ t.besides d = s.besides d ∧
         (t.drum d).port.image.fan = false ∧ (t.drum d).port.image.flameStage = 0 ∧
         (t.drum d).tumble.state.running = false ∧
         (x.guardPart = none →
           (t.drum d).cycle = { (s.drum d).cycle.cleared with state := .done } ∧
             t.flight.events =
               s.flight.events ++
                 [⟨.cycle d, .cycleDone, d, s.clock, some (byte (s.drum d).cycle.reason.code)⟩] ∧
             t.flight.increments =
               s.flight.increments ++
                 (if (s.drum d).cycle.reason = .dry ∨ (s.drum d).cycle.reason = .timeLimit then [⟨.cycle d, d, 7⟩]
                  else [])) ∧
         (∀ g, x.guardPart = some g →
           (t.drum d).cycle =
             { (s.drum d).cycle.cleared with
               state := .guarding, guardInterval := seconds g.interval, guardElapsed := some 0 } ∧
             t.flight.events = s.flight.events ∧ t.flight.increments = s.flight.increments))) ∧
  (∀ (s : State) (d : Drum), s.resetHeld = false →
     (∀ x g, (s.drum d).cycle.state = .guarding → (s.drum d).cycle.record = some x → x.guardPart = some g →
       ((s.drum d).cycle.guardInterval = some 0 →
         ∃ t : State, exec (.guardIntervalExpiry d) s = .next t ∧ t.besides d = s.besides d ∧
           (t.drum d).cycle = { (s.drum d).cycle with guardInterval := none } ∧
           (t.drum d).port.image.fan = true ∧ t.flight.events = s.flight.events ∧
           ((s.drum d).tumble.state ≠ .stopped → (t.drum d).tumble = (s.drum d).tumble) ∧
           ((s.drum d).tumble.state = .stopped →
             (t.drum d).tumble.guardLength = some g.tumbleLength ∧
               (t.drum d).tumble.inForce = (s.drum d).tumble.inForce ∧
               (t.drum d).tumble.stalls = (s.drum d).tumble.stalls ∧ (t.drum d).tumble.state ≠ .stopped ∧
               ((s.drum d).confirming = false →
                 (t.drum d).tumble.state = .decel ∧ (t.drum d).tumble.target = some .run))) ∧
       (∀ ms, (s.drum d).cycle.guardElapsed = some ms → g.limit * 60000 ≤ ms →
         ∃ t : State, exec (.guardLimit d) s = .next t ∧ t.besides d = s.besides d ∧
           (t.drum d).cycle = { (s.drum d).cycle.cleared with state := .done } ∧
           (t.drum d).tumble.state.running = false ∧ (t.drum d).port.image.fan = false ∧
           ((s.drum d).tumble.state = .dwell ∨ (s.drum d).tumble.recoverDelay ≠ none ∧ (s.drum d).tumble.state = .recover →
             (t.drum d).tumble.state = .stopped ∧ (t.drum d).tumble.guardLength = none) ∧
           ((s.drum d).tumble.state = .decel ∨ (s.drum d).tumble.state.running = true →
             (t.drum d).tumble.state = .decel ∧ (t.drum d).tumble.target = some .stopped ∧
               (t.drum d).tumble.guardLength = (s.drum d).tumble.guardLength) ∧
           t.flight.events =
             s.flight.events ++
               [⟨.cycle d, .cycleDone, d, s.clock, some (byte (s.drum d).cycle.reason.code)⟩])) ∧
     ((s.drum d).cycle.state = .paused → (s.drum d).cycle.fanOverrun = some 0 →
       ∃ t : State, exec (.fanOverrunExpiry d) s = .next t ∧ t.besides d = s.besides d ∧ t.flight = s.flight ∧
         (t.drum d).cycle = { (s.drum d).cycle with fanOverrun := none } ∧ (t.drum d).port.image.fan = false ∧
         (t.drum d).tumble = (s.drum d).tumble) ∧
     ((s.drum d).cycle.state = .paused → (s.drum d).cycle.pauseLimit = some 0 →
       ∃ t : State, exec (.pauseLimitExpiry d) s = .next t ∧ t.besides d = s.besides d ∧
         (t.drum d).cycle = { (s.drum d).cycle.cleared with state := .done, reason := .abandoned } ∧
         (t.drum d).port.image.fan = false ∧ t.flight.increments = s.flight.increments ∧
         t.flight.events =
           s.flight.events ++
             [⟨.cycle d, .pauseExpired, d, s.clock, none⟩, ⟨.cycle d, .cycleDone, d, s.clock, some 7⟩]) ∧
     ((s.drum d).cycle.state ≠ .guarding →
       exec (.guardIntervalExpiry d) s = .next s ∧ exec (.guardLimit d) s = .next s) ∧
     ((s.drum d).cycle.state ≠ .paused →
       exec (.fanOverrunExpiry d) s = .next s ∧ exec (.pauseLimitExpiry d) s = .next s))

/-! ### The tumble controller and the tangle monitor (R93 to R113) -/

/-- A run that ends by its length, its maximum seconds or a guard tumble's length ends in DECEL with STOP written; a normal
end clears the persistence; the status wait's end starts the run timer (R96, R97, R104, R114). At the minimum run a tangle
count at the trigger ends the run early: TANGLE_REVERSAL, its attribute, and the persistence rule when the early-run count
reaches the persist count (R111, R112, R113), or stands beyond one lowered since (the model's choice, log 48); where the normal end is due at the same moment the run ends normally (the
model's reading, log 24). -/
def Obligations.RunsEndByLengthOrEarly : Prop :=
  (∀ (s : State) (d : Drum), s.resetHeld = false →
     ((s.drum d).tumble.state.running = true → (s.drum d).tumble.statusWait = some 0 → (s.drum d).port.state = .up →
       exec (.statusWaitExpiry d) s =
         .next (s.onTumble d fun t => { t with statusWait := none, runTimer := 0, runTiming := true })) ∧
     (∀ p ∈ [(Instr.runLengthEnd d, Timebase.seconds, (s.drum d).tumble.runLength),
         (.maximumRunSeconds d, .revolutions, (s.drum d).tumble.values.maxRun)],
       (s.drum d).tumble.values.timebase = p.2.1 → (s.drum d).tumble.state.running = true →
       (s.drum d).tumble.noReversal = false → (s.drum d).tumble.guardLength = none →
       (s.drum d).tumble.runTiming = true → p.2.2 * 1000 ≤ (s.drum d).tumble.runTimer →
       ∃ t : State, exec p.1 s = .next t ∧ t.besides d = s.besides d ∧ EndedNormally s t d) ∧
     (∀ n, (s.drum d).tumble.guardLength = some n → (s.drum d).tumble.state.running = true →
       (s.drum d).tumble.runTiming = true → n * 1000 ≤ (s.drum d).tumble.runTimer →
       ∃ t : State, exec (.guardTumbleEnd d) s = .next t ∧ t.besides d = s.besides d ∧
         (t.drum d).port.image.drive = .stop ∧ (t.drum d).tumble.state = .decel ∧
         (t.drum d).tumble.target = some .stopped ∧ (t.drum d).tumble.guardLength = some n ∧
         (t.drum d).cycle = (s.drum d).cycle) ∧
     ((s.drum d).tumble.state.running = false →
       exec (.statusWaitExpiry d) s = .next s ∧ exec (.runLengthEnd d) s = .next s ∧
         exec (.maximumRunSeconds d) s = .next s ∧ exec (.minimumRunReached d) s = .next s ∧
         exec (.guardTumbleEnd d) s = .next s)) ∧
  (∀ (s : State) (d : Drum), s.resetHeld = false → (s.drum d).tumble.reverses = true →
     (s.drum d).tumble.runTiming = true →
     (s.drum d).tumble.values.minRun * 1000 ≤ (s.drum d).tumble.runTimer →
     ((s.drum d).tumble.timeUp = true →
       ∃ t : State, exec (.minimumRunReached d) s = .next t ∧ t.besides d = s.besides d ∧ EndedNormally s t d) ∧
     ((s.drum d).tumble.timeUp = false → (s.drum d).tangle.count < (s.drum d).tumble.values.trigger →
       exec (.minimumRunReached d) s = .next s) ∧
     ((s.drum d).tumble.timeUp = false → (s.drum d).tumble.values.trigger ≤ (s.drum d).tangle.count →
       ∃ t : State, exec (.minimumRunReached d) s = .next t ∧ t.besides d = s.besides d ∧
         EndedEarly s t d (s.drum d).tangle.count))

/-- The next run begins at the end of a dwell or of a recover delay, in the direction opposite the last run, at the
profile's speed less the reduction; a stop that is not confirmed in time is reported and halts the cycle (R95, R98, R99,
R101, R108, R157). A cycle's first run under profile 255 is begun FWD (the model's reading of R95, log 40); RECOVER moves to
DECEL before the halt cause is reported (the model's choice, log 36). The recover delay runs and ends in every port state (the
model's choice, log 47). Between two RUN entries in opposite directions there is
a STOP entry, then a confirming status, then at least 2 s (R94): a RUN is written only over STOP or over a RUN in the same
direction, and only at the end of a dwell or recover delay, or with a held confirming status that arrived at least 2 s ago; a
dwell and a recover delay begin at a confirming status, for a time that ends at least 2 s after its arrival, and no command
changes that time; and in AUTO the DRIVE entry holds STOP outside a run after every step. -/
def Obligations.RunsBeginAfterDwellAndRecovery : Prop :=
  (∀ s t : State, DrivesFollow s → step s = .next t → DrivesFollow t) ∧
  (∀ (c : Instr) (s t : State) (d : Drum), DrivesFollow s → exec c s = .next t →
    (∀ dir v, (t.drum d).port.image.drive = .run dir v → (s.drum d).port.image.drive ≠ .run dir v →
      (∀ old w, (s.drum d).port.image.drive = .run old w → old = dir) ∧
        ((c = .dwellExpiry d ∧ (s.drum d).tumble.state = .dwell ∧ (s.drum d).tumble.dwell = some 0) ∨
          (c = .recoverDelayExpiry d ∧ (s.drum d).tumble.state = .recover ∧
            (s.drum d).tumble.recoverDelay = some 0) ∨
          ∃ st, (t.drum d).tumble.status = some st ∧ st.motor = .stopped ∧
            laterThan st.arrival (t.drum d).port.image.stopTime = true ∧ 2000 ≤ elapsed s.clock st.arrival)) ∧
    ((t.drum d).tumble.state = .dwell → (s.drum d).tumble.state ≠ .dwell →
      (t.drum d).confirming = true ∧
        ∃ ms st, (t.drum d).tumble.dwell = some ms ∧ (t.drum d).tumble.status = some st ∧
          2000 ≤ ms + elapsed s.clock st.arrival) ∧
    ((t.drum d).tumble.recoverDelay ≠ none → (s.drum d).tumble.recoverDelay = none →
      (t.drum d).confirming = true ∧ ∃ ms, (t.drum d).tumble.recoverDelay = some ms ∧ 2000 ≤ ms) ∧
    ((t.drum d).tumble.state = .dwell → (s.drum d).tumble.state = .dwell →
      (t.drum d).tumble.dwell = (s.drum d).tumble.dwell) ∧
    ((t.drum d).tumble.recoverDelay ≠ none → (s.drum d).tumble.recoverDelay ≠ none →
      (t.drum d).tumble.recoverDelay = (s.drum d).tumble.recoverDelay)) ∧
  ∀ (s : State) (d : Drum), s.resetHeld = false →
    (∀ p ∈ [(Instr.dwellExpiry d, (s.drum d).tumble.state = .dwell ∧ (s.drum d).tumble.dwell = some 0),
        (.recoverDelayExpiry d,
          (s.drum d).tumble.state = .recover ∧ (s.drum d).tumble.target = some .run ∧
            (s.drum d).tumble.recoverDelay = some 0)],
      (¬p.2 → exec p.1 s = .next s) ∧
      (p.2 → ∀ dir : Direction,
        ((s.drum d).tumble.guardLength ≠ none ∨ (s.drum d).tumble.first255 = true → dir = .fwd) →
        ((s.drum d).tumble.guardLength = none → (s.drum d).tumble.first255 = false →
          dir = if (s.drum d).tumble.lastDir = some .fwd then .rev else .fwd) →
        ∃ t : State, exec p.1 s = .next t ∧ t.besides d = s.besides d ∧ t.flight.events = s.flight.events ∧
          (t.drum d).cycle = (s.drum d).cycle ∧
          (t.drum d).tumble.state = (if dir = .fwd then .runFwd else .runRev) ∧
          (t.drum d).tumble.lastDir = some dir ∧ (t.drum d).tumble.first255 = false ∧
          (t.drum d).tumble.runTimer = 0 ∧
          (t.drum d).tumble.runTiming = false ∧ (t.drum d).tumble.revCount = 0 ∧
          (t.drum d).tangle.count = 0 ∧ (t.drum d).tangle.windowOpen = false ∧
          (∀ n : Fin 8, (s.drum d).tumble.inForce = some n.val →
            (t.drum d).tumble.values = s.profiles[n] ∧
            (t.drum d).tumble.statusWait = seconds s.profiles[n].decelTimeout ∧
            (t.drum d).port.image.drive =
              .run dir
                (max 20
                  ((if dir = .fwd then s.profiles[n].fwdSpeed else s.profiles[n].revSpeed) -
                    (s.drum d).tumble.reduction))) ∧
          ((s.drum d).tumble.inForce = some 255 →
            (t.drum d).tumble.noReversal = true ∧ (t.drum d).tumble.values = s.profiles[(0 : Fin 8)]) ∧
          (∀ x p, (s.drum d).cycle.record = some x → x.dryness = some p →
            (t.drum d).dryness.settle = p.settleCount))) ∧
    ((s.drum d).tumble.state = .decel ∨ (s.drum d).tumble.state = .recover →
      (s.drum d).tumble.decel = some 0 → (s.drum d).port.state = .up →
      ∃ t : State, exec (.decelTimeout d) s = .next t ∧ t.besides d = s.besides d ∧
        (t.drum d).tumble.state = .decel ∧ (t.drum d).tumble.decel = none ∧
        t.flight.increments = s.flight.increments ++ [⟨.tumble d, d, 4⟩] ∧
        (∃ more, t.flight.events = s.flight.events ++ ⟨.tumble d, .noStop, d, s.clock, none⟩ :: more) ∧
        ((s.drum d).cycle.state ∈ [CycleState.purge, .drying, .cooling, .guarding, .paused, .done] →
          (t.drum d).cycle.state = .halted ∧ (t.drum d).cycle.halt = .noStop) ∧
        ((s.drum d).cycle.state ∈ [CycleState.vacant, .ready, .halted] →
          (t.drum d).cycle = (s.drum d).cycle)) ∧
    ((s.drum d).port.state ≠ .up → exec (.decelTimeout d) s = .next s)

/-- A motor current value joins the open revolution window of a run, and a DRIVE_STAT replaces the held status and acts by
tumble state (R93, R96, R97, R100, R101, R102, R108, R109). A status that moves the revolution count judges the revolution,
then ends a run that has had its revolutions normally, or early where the early-reversal test is met, or lets it go on (R96,
R110, R111, R112, R113, R114). A controller that reaches STOPPED reports a guard tumble under way as done, and a stall in a
guard tumble has target STOPPED (R77, R97, R101, R104). The persistence rule of an early end also meets an early-run count
beyond a persist count lowered since (the model's choice, log 48). -/
def Obligations.DriveStatusActsByTumbleState : Prop :=
  ∀ (s : State) (d : Drum), s.resetHeld = false →
    (∀ v at', s.flight.nextAbsorbed d .tumble = some (d, .motorCurrent v at') →
      ∃ t : State, exec (.motorCurrentAbsorbed d) s = .next t ∧
        t.flight = { s.flight with absorbs := s.flight.absorbs.erase (d, .motorCurrent v at') } ∧
        ((s.drum d).tumble.state.running = true → (s.drum d).tangle.windowOpen = true →
          t.drum d =
            { s.drum d with
              tangle :=
                { (s.drum d).tangle with
                  greatest := if (s.drum d).tangle.samples = 0 then v else max (s.drum d).tangle.greatest v
                  least := if (s.drum d).tangle.samples = 0 then v else min (s.drum d).tangle.least v
                  samples := min ((s.drum d).tangle.samples + 1) 65535 } }) ∧
        ((s.drum d).tumble.state.running = false ∨ (s.drum d).tangle.windowOpen = false →
          t.drums = s.drums)) ∧
    ∀ st, s.flight.nextAbsorbed d .tumble = some (d, .driveStat st) →
      ∃ t : State, exec (.driveStatAbsorbed d) s = .next t ∧
        t.flight.absorbs = s.flight.absorbs.erase (d, .driveStat st) ∧
        t.besides d = { s.besides d with absorbs := s.flight.absorbs.erase (d, .driveStat st) } ∧
        (t.drum d).tumble.status = some st ∧
        (st.motor ≠ .tripped → (s.drum d).tumble.state = .dwell ∨ (s.drum d).tumble.state = .stopped →
          t.drum d = { s.drum d with tumble := { (s.drum d).tumble with status := some st } }) ∧
        (st.motor = .tripped →
          (t.drum d).tumble.state = .stopped ∧
          ((s.drum d).tumble.state ≠ .stopped →
            (t.drum d).port.image.drive = .stop ∧ (t.drum d).tumble.guardLength = none) ∧
          ((s.drum d).cycle.state ∈ [CycleState.purge, .drying, .cooling, .guarding, .paused, .done] →
            (t.drum d).cycle.state = .halted ∧ (t.drum d).cycle.halt = .trip)) ∧
        ((s.drum d).tumble.state = .decel → st.motor = .stopped →
          laterThan st.arrival (s.drum d).port.image.stopTime = true →
          ((s.drum d).tumble.target = some .dwell →
            (t.drum d).tumble.state = .dwell ∧
              (t.drum d).tumble.dwell =
                seconds ((s.drum d).tumble.values.dwell * (s.drum d).tumble.multiplier)) ∧
          ((s.drum d).tumble.target = some .stopped →
            GuardTumbleReported s t d ∧ t.flight.events = s.flight.events ∧
              t.flight.increments = s.flight.increments) ∧
          ((s.drum d).tumble.target = some .run →
            (2000 ≤ elapsed s.clock st.arrival → (t.drum d).tumble.state.running = true) ∧
            (elapsed s.clock st.arrival < 2000 →
              (t.drum d).tumble.state = .dwell ∧
                (t.drum d).tumble.dwell = some (2000 - elapsed s.clock st.arrival)))) ∧
        ((s.drum d).tumble.state = .recover → (s.drum d).tumble.recoverDelay = none → st.motor = .stopped →
          laterThan st.arrival (s.drum d).port.image.stopTime = true →
          ((s.drum d).tumble.target = some .run →
            (t.drum d).tumble.state = .recover ∧
              (t.drum d).tumble.recoverDelay = seconds (s.drum d).tumble.values.recoverDelay) ∧
          ((s.drum d).tumble.target = some .stopped →
            GuardTumbleReported s t d ∧ t.flight.events = s.flight.events ∧
              t.flight.increments = s.flight.increments)) ∧
        ((s.drum d).tumble.state.running = true → st.motor = .stalled →
          (t.drum d).tumble.state = .recover ∧ (t.drum d).port.image.drive = .stop ∧
          (t.drum d).tumble.decel = seconds (s.drum d).tumble.values.decelTimeout ∧
          (t.drum d).tumble.recoverDelay = none ∧
          (t.drum d).tumble.guardLength = (s.drum d).tumble.guardLength ∧
          t.flight.increments = s.flight.increments ++ [⟨.tumble d, d, 3⟩] ∧
          (∃ more, t.flight.events =
            s.flight.events ++
              ⟨.tumble d, .driveStall, d, s.clock, some (byte ((s.drum d).tumble.stalls + 1))⟩ :: more) ∧
          ((s.drum d).tumble.stalls + 1 ≤ (s.drum d).tumble.values.retryLimit →
            (t.drum d).tumble.stalls = (s.drum d).tumble.stalls + 1 ∧ (t.drum d).cycle = (s.drum d).cycle ∧
              (t.drum d).tumble.target =
                some (if (s.drum d).tumble.guardLength = none then .run else .stopped)) ∧
          ((s.drum d).tumble.values.retryLimit < (s.drum d).tumble.stalls + 1 →
            (s.drum d).cycle.state ∈ [CycleState.purge, .drying, .cooling, .guarding, .paused, .done] →
            (t.drum d).cycle.state = .halted ∧ (t.drum d).cycle.halt = .stall)) ∧
        ((s.drum d).tumble.state.running = true → st.motor ≠ .stalled → st.motor ≠ .tripped →
          ((s.drum d).tumble.baseTaken = false →
            (t.drum d).tumble =
              { (s.drum d).tumble with
                status := some st
                baseTaken := true
                revBase := st.counter
                runTiming := true
                runTimer := if (s.drum d).tumble.runTiming then (s.drum d).tumble.runTimer else 0
                statusWait := none } ∧
            (t.drum d).tangle = (s.drum d).tangle) ∧
          ((s.drum d).tumble.baseTaken = true →
            (t.drum d).tumble.revCount = st.counter - (s.drum d).tumble.revBase ∧
            (st.counter - (s.drum d).tumble.revBase = (s.drum d).tumble.revCount →
              (t.drum d).tangle = (s.drum d).tangle ∧ (t.drum d).tumble.state = (s.drum d).tumble.state) ∧
            (st.counter - (s.drum d).tumble.revBase ≠ (s.drum d).tumble.revCount →
              ((s.drum d).tumble.guardLength = none → (s.drum d).tangle.windowOpen = true →
                2 ≤ (s.drum d).tangle.samples →
                (t.drum d).tangle.lastSwing = (s.drum d).tangle.greatest - (s.drum d).tangle.least ∧
                  (t.drum d).tangle.count = (s.drum d).tangle.judgedCount (s.drum d).tumble.values.swingThreshold) ∧
              ((s.drum d).tumble.noReversal = false → (s.drum d).tumble.guardLength = none →
                (s.drum d).tumble.values.timebase = .revolutions →
                (s.drum d).tumble.runLength ≤ (st.counter - (s.drum d).tumble.revBase).toNat → EndedNormally s t d) ∧
              ((s.drum d).tumble.guardLength ≠ none → (s.drum d).tangle.windowOpen = false →
                (t.drum d).tangle = (s.drum d).tangle ∧ (t.drum d).tumble.state = (s.drum d).tumble.state ∧
                  (t.drum d).port = (s.drum d).port) ∧
              ((s.drum d).tumble.guardLength = none →
                (s.drum d).tumble.noReversal = true ∨ (s.drum d).tumble.values.timebase = .seconds ∨
                  (st.counter - (s.drum d).tumble.revBase).toNat < (s.drum d).tumble.runLength →
                ((s.drum d).tangle.windowOpen = false →
                  (t.drum d).tangle =
                      { (s.drum d).tangle with windowOpen := true, greatest := 0, least := 0, samples := 0 } ∧
                    (t.drum d).tumble.state = (s.drum d).tumble.state ∧ (t.drum d).port = (s.drum d).port) ∧
                ((s.drum d).tangle.windowOpen = true → (s.drum d).tangle.samples < 2 →
                  (t.drum d).tangle = { (s.drum d).tangle with greatest := 0, least := 0, samples := 0 } ∧
                    (t.drum d).tumble.state = (s.drum d).tumble.state ∧ (t.drum d).port = (s.drum d).port) ∧
                ((s.drum d).tangle.windowOpen = true → 2 ≤ (s.drum d).tangle.samples →
                  ((s.drum d).tumble.noReversal = false → (s.drum d).tumble.runTiming = true →
                    (s.drum d).tumble.values.minRun * 1000 ≤ (s.drum d).tumble.runTimer →
                    (s.drum d).tumble.values.trigger ≤
                      (s.drum d).tangle.judgedCount (s.drum d).tumble.values.swingThreshold →
                    EndedEarly s t d
                      ((s.drum d).tangle.judgedCount (s.drum d).tumble.values.swingThreshold)) ∧
                  ((s.drum d).tumble.noReversal = true ∨ (s.drum d).tumble.runTiming = false ∨
                      (s.drum d).tumble.runTimer < (s.drum d).tumble.values.minRun * 1000 ∨
                      (s.drum d).tangle.judgedCount (s.drum d).tumble.values.swingThreshold <
                        (s.drum d).tumble.values.trigger →
                    (t.drum d).tumble.state = (s.drum d).tumble.state ∧ (t.drum d).port = (s.drum d).port ∧
                      (t.drum d).tangle.windowOpen = true ∧ (t.drum d).tangle.samples = 0 ∧
                      t.flight.events = s.flight.events ∧ t.flight.increments = s.flight.increments))))))

/-! ### The burner supervisor (R139 to R149) -/

/-- The burner's timers: a trial that expires is a failed attempt, counted and retried or locked out; the retry delay ends in
LIGHTING or IDLE; a stable flame clears the retry count; a starved inlet takes the wanted stage to 0 (R143, R146 to R149). At
the end of the delay the commanded stage is the lower of demand and granted stage; that it stays at or below each demand not
yet taken too is the model's choice (log 37). A retry count above the limit locks the burner out as one at the limit does (the
model's choice, log 43). -/
def Obligations.BurnerTimersRetryOrLockOut : Prop :=
  ∀ (s : State) (d : Drum), s.resetHeld = false →
    ((s.drum d).burner.view = .lighting → (s.drum d).burner.trial = some 0 → (s.drum d).port.state = .up →
      ((s.drum d).burner.retries < (s.drum d).config.retryLimit →
        ∃ t : State, exec (.trialExpiry d) s = .next t ∧ t.besides d = s.besides d ∧
          (t.drum d).burner.view = .retryWait ∧ (t.drum d).burner.retries = (s.drum d).burner.retries + 1 ∧
          (t.drum d).burner.retryDelay = seconds (s.drum d).config.retryDelay ∧
          (t.drum d).burner.trial = none ∧ (t.drum d).port.image.flameStage = 0 ∧
          (t.drum d).cycle = (s.drum d).cycle ∧ (t.drum d).tumble = (s.drum d).tumble ∧
          t.flight.increments = s.flight.increments ++ [⟨.burner d, d, 0⟩] ∧
          t.flight.events =
            s.flight.events ++
              [⟨.burner d, .ignitionRetry, d, s.clock, some (byte ((s.drum d).burner.retries + 1))⟩]) ∧
      ((s.drum d).config.retryLimit ≤ (s.drum d).burner.retries → (s.drum d).burner.lockout = none →
        ∃ t : State, exec (.trialExpiry d) s = .next t ∧ (t.drum d).burner.view = .lockedOut ∧
          (t.drum d).burner.lockout = some .ignition ∧ (t.drum d).burner.retries = (s.drum d).burner.retries ∧
          (t.drum d).port.image.flameStage = 0 ∧ (t.share d).granted = 0 ∧ (t.share d).held = 0 ∧
          (∀ e ∈ t.heat.queue, e.drum ≠ d) ∧
          ((s.drum d).cycle.state = .drying →
            (t.drum d).cycle.state = .cooling ∧ (t.drum d).cycle.reason = .heatFault) ∧
          (t.drum d).tumble.state = (s.drum d).tumble.state ∧
          t.flight.increments = s.flight.increments ++ [⟨.burner d, d, 1⟩] ∧
          t.flight.events = s.flight.events ++ [⟨.burner d, .heatLockout, d, s.clock, some 1⟩] ∧
          t.router = s.router ∧ t.cabinet = s.cabinet ∧ t.attributes = s.attributes)) ∧
    ((s.drum d).burner.view = .retryWait → (s.drum d).burner.retryDelay = some 0 →
      ∃ t : State, exec (.retryDelayExpiry d) s = .next t ∧ t.besides d = s.besides d ∧
        t.flight.events = s.flight.events ∧ (t.drum d).burner.retryDelay = none ∧
        (t.drum d).burner.retries = (s.drum d).burner.retries ∧
        (t.drum d).port.image.flameStage = min (s.drum d).demandNow (s.heatLimit d) ∧
        (min (s.drum d).demandNow (s.heatLimit d) = 0 → (t.drum d).burner.view = .idle) ∧
        (0 < min (s.drum d).demandNow (s.heatLimit d) →
          (t.drum d).burner.view = .lighting ∧
            (t.drum d).burner.trial = seconds (s.drum d).config.trialLimit)) ∧
    ((s.drum d).burner.view = .burning → (s.drum d).burner.stable = some 0 → (s.drum d).port.state = .up →
      exec (.stableFlameExpiry d) s = .next (s.onBurner d fun b => { b with retries := 0, stable := none })) ∧
    ((s.drum d).cycle.state = .drying → (s.drum d).burner.starvation = some 0 →
      ∃ t : State, exec (.inletStarvationExpiry d) s = .next t ∧ t.besides d = s.besides d ∧
        (t.drum d).burner.wanted = 0 ∧ (t.drum d).burner.demand = 0 ∧ (t.drum d).burner.starvation = none ∧
        (t.drum d).port.image.flameStage = 0 ∧ (t.drum d).cycle = (s.drum d).cycle ∧
        t.flight.events = s.flight.events ++ [⟨.burner d, .sampleStarved, d, s.clock, some 1⟩]) ∧
    ((s.drum d).burner.view ≠ .lighting → exec (.trialExpiry d) s = .next s) ∧
    ((s.drum d).burner.view ≠ .retryWait → exec (.retryDelayExpiry d) s = .next s) ∧
    ((s.drum d).burner.view ≠ .burning → exec (.stableFlameExpiry d) s = .next s) ∧
    ((s.drum d).cycle.state ≠ .drying → exec (.inletStarvationExpiry d) s = .next s)

/-- Temperatures: an inlet value is held and, in DRYING, regulates the wanted stage by Table 8-1; an exhaust value is held,
judged against the exhaust cap and given to the cool test (R139, R141, R142, R143, R144, R76). The commanded stage is the
lower of demand and granted stage; where a demand of the drum is not yet taken, that it stays at or below that demand too is
the model's choice (log 37). -/
def Obligations.TemperaturesRegulateHeat : Prop :=
  ∀ (s : State) (d : Drum) (v : Temperature), s.resetHeld = false →
    (s.flight.nextAbsorbed d .burner = some (d, .inletTemp v) →
      ∃ t : State, exec (.inletTempAbsorbed d) s = .next t ∧
        t.besides d = { s.besides d with absorbs := s.flight.absorbs.erase (d, .inletTemp v) } ∧
        t.flight.events = s.flight.events ∧ (t.drum d).burner.inlet = some v ∧
        (t.drum d).cycle = (s.drum d).cycle ∧ (t.drum d).tumble = (s.drum d).tumble ∧
        ((s.drum d).cycle.state ≠ .drying →
          t.drum d = { s.drum d with burner := { (s.drum d).burner with inlet := some v } }) ∧
        ∀ x, (s.drum d).cycle.state = .drying → (s.drum d).cycle.record = some x →
          (t.drum d).burner.starvation = seconds (s.drum d).config.starvation ∧
          ((s.drum d).burner.exhaustHigh = true → (t.drum d).burner.wanted = 0) ∧
          ((s.drum d).burner.exhaustHigh = false →
            (x.setpoint ≤ v.value → (t.drum d).burner.wanted = 0) ∧
            (v.value < x.setpoint → v.value ≤ x.setpoint - x.highBand → (t.drum d).burner.wanted = 2) ∧
            (v.value < x.setpoint → x.setpoint - x.highBand < v.value →
              ((s.drum d).burner.wanted ≠ 0 → (t.drum d).burner.wanted = 1) ∧
              ((s.drum d).burner.wanted = 0 → v.value ≤ x.setpoint - x.hysteresis →
                (t.drum d).burner.wanted = 1) ∧
              ((s.drum d).burner.wanted = 0 → x.setpoint - x.hysteresis < v.value →
                (t.drum d).burner.wanted = 0))) ∧
          (t.drum d).burner.demand = min (t.drum d).burner.wanted (s.drum d).permissiveCap ∧
          ((∀ p ∈ s.flight.demands, p.1 ≠ d) →
            (t.drum d).burner.commanded = min (t.drum d).burner.demand (s.share d).granted) ∧
          (t.drum d).burner.commanded = min (t.drum d).burner.demand (s.heatLimit d) ∧
          t.flight.demands =
            s.flight.demands ++
              (if (t.drum d).burner.demand = (s.drum d).burner.demand then []
               else [(d, (t.drum d).burner.demand)])) ∧
    (s.flight.nextAbsorbed d .burner = some (d, .exhaustTemp v) →
      ∃ t : State, exec (.exhaustTempAbsorbed d) s = .next t ∧
        t.besides d = { s.besides d with absorbs := s.flight.absorbs.erase (d, .exhaustTemp v) } ∧
        (t.drum d).burner.exhaust = some v ∧
        ((s.drum d).config.exhaustCap < v.value →
          (t.drum d).burner.exhaustHigh = true ∧ (t.drum d).burner.wanted = 0 ∧
            ((s.drum d).burner.exhaustHigh = false →
              ∃ more, t.flight.events = s.flight.events ++ ⟨.burner d, .exhaustHigh, d, s.clock, none⟩ :: more)) ∧
        (v.value ≤ (s.drum d).config.exhaustCap →
          (t.drum d).burner.exhaustHigh = false ∧ (t.drum d).burner.wanted = (s.drum d).burner.wanted) ∧
        ((s.drum d).cycle.state ≠ .cooling → (t.drum d).cycle = (s.drum d).cycle) ∧
        ∀ x, (s.drum d).cycle.state = .cooling → (s.drum d).cycle.record = some x →
          (v.value ≤ x.coolTarget → x.minCool * 60000 ≤ (s.drum d).cycle.cooling →
            (x.guardPart = none → (t.drum d).cycle.state = .done) ∧
              (x.guardPart ≠ none → (t.drum d).cycle.state = .guarding)) ∧
          (x.coolTarget < v.value ∨ (s.drum d).cycle.cooling < x.minCool * 60000 →
            (t.drum d).cycle = (s.drum d).cycle)) ∧
    (s.flight.nextAbsorbed d .burner = none →
      exec (.inletTempAbsorbed d) s = .next s ∧ exec (.exhaustTempAbsorbed d) s = .next s)

/-- A FLAME_STAT replaces the held status; OFF sets the rest flag; in LIGHTING and BURNING it proves, fails or loses the flame
(R145 to R149). The commanded stage is the lower of demand and granted stage at each recomputation; that it stays at or below
each demand not yet taken too is the model's choice (log 37). A retry count above the limit locks the burner out as one at the
limit does (the model's choice, log 43). -/
def Obligations.FlameStatusActsByView : Prop :=
  ∀ (s : State) (d : Drum) (st : FlameStatus), s.resetHeld = false →
    s.flight.nextAbsorbed d .burner = some (d, .flameStat st) →
    ∃ t : State, exec (.flameStatAbsorbed d) s = .next t ∧
      t.flight.absorbs = s.flight.absorbs.erase (d, .flameStat st) ∧ (t.drum d).burner.flame = some st ∧
      (st.flame = .off → (t.drum d).burner.rest = true) ∧
      (st.flame ≠ .off → (t.drum d).burner.rest = (s.drum d).burner.rest) ∧
      (st.flame ≠ .off →
        (s.drum d).burner.view ∈ [View.idle, .retryWait, .lockedOut] ∨ st.flame ∈ [FlameState.purging, .trial] →
        t.besides d = { s.besides d with absorbs := s.flight.absorbs.erase (d, .flameStat st) } ∧
          t.drum d = { s.drum d with burner := { (s.drum d).burner with flame := some st } }) ∧
      ((s.drum d).burner.view = .lighting → st.flame = .proven →
        0 < min (s.drum d).demandNow (s.heatLimit d) →
        (t.drum d).burner.view = .burning ∧ (t.drum d).burner.trial = none ∧
          (t.drum d).burner.stable = seconds (s.drum d).config.stableTime ∧
          (t.drum d).port.image.flameStage = min (s.drum d).demandNow (s.heatLimit d)) ∧
      ((s.drum d).burner.retries < (s.drum d).config.retryLimit →
        ((s.drum d).burner.view = .lighting → st.flame ∈ [FlameState.failed, .locked] →
          (t.drum d).burner.view = .retryWait ∧ (t.drum d).burner.retries = (s.drum d).burner.retries + 1 ∧
            (t.drum d).port.image.flameStage = 0 ∧
            t.flight.events =
              s.flight.events ++
                [⟨.burner d, .ignitionRetry, d, s.clock, some (byte ((s.drum d).burner.retries + 1))⟩]) ∧
        ((s.drum d).burner.view = .burning → 0 < (s.drum d).burner.commanded →
          st.flame ∈ [FlameState.off, .failed, .locked] →
          (t.drum d).burner.view = .retryWait ∧ (t.drum d).burner.retries = (s.drum d).burner.retries + 1 ∧
            (t.drum d).port.image.flameStage = 0 ∧
            t.flight.events =
              s.flight.events ++
                [⟨.burner d, .flameLost, d, s.clock, some (byte (s.drum d).burner.commanded)⟩,
                  ⟨.burner d, .ignitionRetry, d, s.clock, some (byte ((s.drum d).burner.retries + 1))⟩])) ∧
      ((s.drum d).config.retryLimit ≤ (s.drum d).burner.retries → (s.drum d).burner.lockout = none →
        ((s.drum d).burner.view = .lighting ∧ st.flame ∈ [FlameState.failed, .locked]) ∨
          ((s.drum d).burner.view = .burning ∧ 0 < (s.drum d).burner.commanded ∧
            st.flame ∈ [FlameState.off, .failed, .locked]) →
        (t.drum d).burner.view = .lockedOut ∧ (t.drum d).burner.lockout = some .ignition ∧
          (t.drum d).port.image.flameStage = 0 ∧ (t.share d).granted = 0)

/-! ### The heat allocator (R118 to R127, R135) -/

/-- A demand above the granted stage makes an entry at the tail or updates the drum's entry in its place; one at or below it
removes the entry, lowers the granted stage and tells the burner supervisor; the demand of a drum in lockout counts as 0; and
a grant attempt follows, in rounds until one grants nothing (R118, R119, R121, R122, R124, R125, R126, R135). That a burner
told its granted stage stays at or below each further demand not yet taken is the model's choice (log 37). An entry that has
waited the limit is reported once (R127). -/
def Obligations.DemandsAreGrantedQueuedOrLowered : Prop :=
  GrantRoundsByRule ∧ GrantsByRule ∧
  ∀ (s : State) (d : Drum), s.resetHeld = false →
    ((∀ p ∈ s.flight.demands, p.1 ≠ d) → exec (.heatDemand d) s = .next s) ∧
    (∀ before w after, s.flight.demands = before ++ (d, w) :: after → (∀ p ∈ before, p.1 ≠ d) →
      ∃ t : State, exec (.heatDemand d) s = .next t ∧ grantRound t = none ∧
        (∃ more, t.flight.demands = before ++ after ++ more) ∧
        t.flight.events = s.flight.events ∧ t.flight.increments = s.flight.increments ∧
        t.heat.budget = s.heat.budget ∧ t.cabinet = s.cabinet ∧ t.router = s.router ∧
        t.classifier = s.classifier ∧ t.attributes = s.attributes ∧
        (∀ e, (t.drum e).cycle = (s.drum e).cycle ∧ (t.drum e).tumble = (s.drum e).tumble ∧
          (t.drum e).config = (s.drum e).config) ∧
        ∃ u : State, GrantRounds u t ∧
          ∀ w', w' = (if (s.drum d).burner.lockout = none then w else 0) →
            (w' ≤ (s.share d).granted →
              u.heat =
                  { s.heat with
                    shares :=
                      s.heat.shares.set d
                        { granted := w', held := w', costs := if w' = 0 then none else (s.share d).costs }
                    grants :=
                      if w' = 0 ∧ (s.share d).granted ≠ 0 then s.heat.grants.filter (fun e => e != d)
                      else s.heat.grants
                    queue := s.heat.queue.filter fun e => e.drum != d } ∧
                { u with
                  heat := s.heat
                  drums := s.drums
                  flight := { u.flight with demands := s.flight.demands } } = s ∧
                (w' = (s.share d).granted → u.drums = s.drums ∧ u.flight.demands = before ++ after) ∧
                (w' < (s.share d).granted → BurnerTold s u d w')) ∧
            ((s.share d).granted < w' →
              ((∀ e ∈ s.heat.queue, e.drum ≠ d) →
                ∀ c : Costs,
                  ((s.share d).costs = some c ∨
                    ((s.share d).costs = none ∧ c = ⟨(s.drum d).config.c1, (s.drum d).config.c2⟩)) →
                  u =
                    { s with
                      flight := { s.flight with demands := before ++ after }
                      heat :=
                        { s.heat with
                          shares := s.heat.shares.set d { s.share d with held := w', costs := some c }
                          queue :=
                            s.heat.queue ++
                              [⟨d, w', c.of w' - c.of (s.share d).granted, 0, s.clock, false⟩] } }) ∧
              ((∃ e ∈ s.heat.queue, e.drum = d) →
                u =
                  { s with
                    flight := { s.flight with demands := before ++ after }
                    heat :=
                      { s.heat with
                        shares := s.heat.shares.set d { s.share d with held := w' }
                        queue :=
                          s.heat.queue.map fun e =>
                            if e.drum = d then
                              { e with
                                wanted := w'
                                cost := (s.share d).cost w' - (s.share d).cost (s.share d).granted }
                            else e } }))) ∧
    ((∀ e ∈ s.heat.queue, e.drum ≠ d) → exec (.entryWaitExpiry d) s = .next s) ∧
    ∀ before e after, s.heat.queue = before ++ e :: after → e.drum = d → HeatQueueSound s →
      (e.waited s.heat.waitLimit s.clock = false → exec (.entryWaitExpiry d) s = .next s) ∧
      (e.waited s.heat.waitLimit s.clock = true →
        exec (.entryWaitExpiry d) s =
          .next
            { s with
              heat := { s.heat with queue := before ++ { e with reported := true } :: after }
              flight :=
                { s.flight with
                  events :=
                    s.flight.events ++ [⟨.allocator, .heatWait, d, s.clock, some (byte e.wanted)⟩] } })

/-! ### The dryness monitor (R156 to R163) -/

/-- Wet counts: discarded outside a run, counted down while the load settles, otherwise accepted into the window and, past
the minimum drying time, tested; the load is dry when the confirm count is reached (R156, R158, R159, R160, R163). The
extra-dry timer ends drying with reason DRY; the sample-starvation timer sets the starved flag once for each gap (R161,
R163). -/
def Obligations.WetCountsAndTimersDecideDryness : Prop :=
  (∀ (s : State) (d : Drum) (v : Nat) (at' : Clock), s.resetHeld = false →
     s.flight.nextAbsorbed d .dryness = some (d, .wetCount v at') →
     ∃ t : State, exec (.wetCountAbsorbed d) s = .next t ∧
       t.besides d = { s.besides d with absorbs := s.flight.absorbs.erase (d, .wetCount v at') } ∧
       ((s.drum d).tumble.state.running = false → t.drums = s.drums) ∧
       ((s.drum d).tumble.state.running = true → 0 < (s.drum d).dryness.settle →
         t.drum d =
           { s.drum d with dryness := { (s.drum d).dryness with settle := (s.drum d).dryness.settle - 1 } }) ∧
       ((s.drum d).tumble.state.running = true → (s.drum d).dryness.settle = 0 →
         (s.drum d).cycle.dryingElectrode = false → t.drums = s.drums) ∧
       ∀ x p, (s.drum d).tumble.state.running = true → (s.drum d).dryness.settle = 0 →
         (s.drum d).cycle.state = .drying → (s.drum d).cycle.record = some x → x.mode = .electrode →
         x.dryness = some p →
         ∀ w : List Nat,
           ((s.drum d).dryness.window.length < 16 → w = (s.drum d).dryness.window ++ [v]) →
           (16 ≤ (s.drum d).dryness.window.length →
             w = ((s.drum d).dryness.window ++ [v]).drop ((s.drum d).dryness.window.length - 15)) →
           (t.drum d).dryness.window = w ∧ (t.drum d).dryness.starved = false ∧
           ((s.drum d).dryness.dryReached = true ∨ (s.drum d).cycle.drying < p.minDrying * 60000 →
             (t.drum d).dryness.confirm = (s.drum d).dryness.confirm ∧
               (t.drum d).dryness.dryReached = (s.drum d).dryness.dryReached ∧
               (t.drum d).dryness.starvation = seconds (s.drum d).config.starvation ∧
               t.flight.events = s.flight.events ∧ (t.drum d).cycle = (s.drum d).cycle) ∧
           ((s.drum d).dryness.dryReached = false → p.minDrying * 60000 ≤ (s.drum d).cycle.drying →
             (w.length ≠ 16 ∨ p.dryLimit < w.sum ∨
                 (∃ th, p.exhaustThreshold = some th ∧
                   ∀ y, (s.drum d).burner.exhaust = some y → y.value < th) →
               (t.drum d).dryness.confirm = 0 ∧ (t.drum d).dryness.dryReached = false ∧
                 t.flight.events = s.flight.events ∧ (t.drum d).cycle = (s.drum d).cycle) ∧
             (w.length = 16 → w.sum ≤ p.dryLimit →
                 (∀ th, p.exhaustThreshold = some th →
                   ∃ y, (s.drum d).burner.exhaust = some y ∧ th ≤ y.value) →
               (t.drum d).dryness.confirm = (s.drum d).dryness.confirm + 1 ∧
               ((s.drum d).dryness.confirm + 1 < p.confirmCount →
                 (t.drum d).dryness.dryReached = false ∧ t.flight.events = s.flight.events ∧
                   (t.drum d).cycle = (s.drum d).cycle) ∧
               (p.confirmCount ≤ (s.drum d).dryness.confirm + 1 →
                 (t.drum d).dryness.dryReached = true ∧
                 t.flight.events = s.flight.events ++ [⟨.dryness d, .dryReached, d, s.clock, none⟩] ∧
                 (0 < (s.drum d).cycle.drying * p.extraDry.getD 0 / 100 / 1000 →
                   (t.drum d).dryness.extraDry =
                     seconds ((s.drum d).cycle.drying * p.extraDry.getD 0 / 100 / 1000) ∧
                   (t.drum d).cycle = (s.drum d).cycle) ∧
                 ((s.drum d).cycle.drying * p.extraDry.getD 0 / 100 / 1000 = 0 →
                   (t.drum d).cycle.state = .cooling ∧ (t.drum d).cycle.reason = .dry ∧
                     (t.drum d).cycle.cooling = 0 ∧ (t.drum d).dryness.extraDry = none))))) ∧
  (∀ (s : State) (d : Drum), s.resetHeld = false →
     ((s.drum d).cycle.state = .drying → (s.drum d).dryness.extraDry = some 0 →
       ∃ t : State, exec (.extraDryExpiry d) s = .next t ∧ t.besides d = s.besides d ∧
         t.flight.events = s.flight.events ∧ t.flight.increments = s.flight.increments ∧
         (t.drum d).cycle =
           { (s.drum d).cycle.cleared with
             state := .cooling, cooling := 0, minCoolPassed := false, reason := .dry } ∧
         (t.drum d).dryness.extraDry = none ∧ (t.drum d).dryness.window = (s.drum d).dryness.window ∧
         (t.drum d).port.image.flameStage = 0 ∧ (t.drum d).tumble = { (s.drum d).tumble with stalls := 0 }) ∧
     ((s.drum d).cycle.dryingElectrode = true → (s.drum d).tumble.state.running = true →
       (s.drum d).dryness.starvation = some 0 →
       ∃ t : State, exec (.sampleStarvationExpiry d) s = .next t ∧ t.besides d = s.besides d ∧
         t.flight =
           { s.flight with
             events := s.flight.events ++ [⟨.dryness d, .sampleStarved, d, s.clock, some 2⟩] } ∧
         t.drum d =
           { s.drum d with dryness := { (s.drum d).dryness with starved := true, starvation := none } }) ∧
     ((s.drum d).cycle.state ≠ .drying →
       exec (.extraDryExpiry d) s = .next s ∧ exec (.sampleStarvationExpiry d) s = .next s) ∧
     ((s.drum d).tumble.state.running = false → exec (.sampleStarvationExpiry d) s = .next s))

/-! ### What a command leaves alone -/

/-- A timed command or a report of one drum changes that drum's blocks, its configuration excepted, and the work handed on,
and nothing else. -/
def Obligations.DrumCommandsTouchOneDrum : Prop :=
  ∀ (s t : State) (d : Drum) (raw : Readings) (x : Discrete) (report : BitVec 16) (b : Byte) (n : Nat),
    ∀ c ∈ [Instr.mainLaneLock d, .mainLaneLockLost d, .graceExpiry d, .serviceLaneLock d, .serviceLaneLockLost d,
      .discreteReport d raw, .debounceExpiry d x, .presenceReport d report, .commandFrameSend d, .commandFrameSent d,
      .refreshExpiry d, .standbyExpiry d, .armReport d, .armTimeout d, .testReport d b, .checkerInterval d n,
      .proveTimeout d, .airTimeEnd d, .dryingTimeLimit d, .minimumCoolTimeReached d, .maximumCoolTime d,
      .guardIntervalExpiry d, .guardLimit d, .fanOverrunExpiry d, .pauseLimitExpiry d, .statusWaitExpiry d,
      .runLengthEnd d, .maximumRunSeconds d, .minimumRunReached d, .guardTumbleEnd d, .decelTimeout d, .dwellExpiry d,
      .recoverDelayExpiry d, .retryDelayExpiry d, .stableFlameExpiry d, .inletStarvationExpiry d, .extraDryExpiry d,
      .sampleStarvationExpiry d],
      exec c s = .next t → t.besides d = s.besides d

/-- Settings change by their own request alone, resets excepted: routes, profiles, spread words, miss actions, the drum
configuration records, the threshold table, the heat budget, bypass limit and wait limit. No command moves the clock. -/
def Obligations.SettingsChangeOnlyByTheirRequest : Prop :=
  ∀ (c : Instr) (s t : State), c ∉ resetCommands → c ≠ .replyTransmitEnd → exec c s = .next t →
    t.clock = s.clock ∧ t.resetHeld = s.resetHeld ∧
    (c ≠ .routeWrite → t.router.routes = s.router.routes) ∧
    (c ≠ .profileWrite → t.profiles = s.profiles) ∧
    (c ≠ .configWriteBucketSpread → t.classifier.bucketSpread = s.classifier.bucketSpread) ∧
    (c ≠ .configWriteSignatureSpread → t.classifier.signatureSpread = s.classifier.signatureSpread) ∧
    (c ≠ .configWriteMissAction → t.classifier.miss = s.classifier.miss) ∧
    (c ≠ .drumConfigWrite → ∀ d, (t.drum d).config = (s.drum d).config) ∧
    (c ≠ .attrLoad →
      t.attributes.valid = s.attributes.valid ∧ t.attributes.revision = s.attributes.revision ∧
        t.attributes.table = s.attributes.table) ∧
    (c ≠ .configWriteHeatBudget → t.heat.budget = s.heat.budget) ∧
    (c ≠ .configWriteBypassLimit → t.heat.bypassLimit = s.heat.bypassLimit) ∧
    (c ≠ .configWriteHeatWaitLimit → t.heat.waitLimit = s.heat.waitLimit)

/-! ### Invariants that every step keeps -/

/-- A FLAME image stage above 0 stands only where R144 permits it, in every state a step can reach from such a state. The
invariant is stronger than the sentence: the image stage is at most the permissive cap, at most the granted stage and at most
each demand of the drum not yet taken, so that the allocator finds it at or below the g to which a demand lowers it (R122). -/
def Obligations.FlameImageStaysPermitted : Prop :=
  (∀ s t : State, FlameSafe s → step s = .next t → FlameSafe t) ∧ ∀ s : State, FlameSafe s → FlamePermitted s ∧ DemandsFindFlameLowered s

/-- The queues, the alert list and the wetness windows stay within their bounds, the alert list with one entry for each
event and drum (R50, R52, R54, R56, R158, R173), and the routes of the codes that no event has stay empty (R170, R171). -/
def Obligations.QueuesAndListsStayBounded : Prop :=
  ∀ s t : State, QueuesBounded s → AlertsDistinct s → WindowsBounded s → step s = .next t →
    QueuesBounded t ∧ AlertsDistinct t ∧ WindowsBounded t ∧ (SpareRoutesEmpty s → SpareRoutesEmpty t)

/-- The classification table stays sound: distinct entry numbers, every EXACT entry on the bucket it folds to, chains of at
most 8, no duplicate keys (R32). -/
def Obligations.ClassificationTableStaysSound : Prop :=
  ∀ s t : State, TableSound s → step s = .next t → TableSound t

/-- The allocator stays sound: the held sum within the budget, one entry for each drum at its incremental cost, the grant
list of exactly the drums that hold a stage, and no heat for a drum in lockout (R117 to R121). -/
def Obligations.HeatAllocationStaysSound : Prop :=
  ∀ s t : State, HeatSound s → step s = .next t → HeatSound t

/-- An active cycle has its link, in UP or in a grace interval, and the standby timer is loaded exactly while its conditions
hold (R19, R80). It is loaded with the full standby time of Table 1-5 where its conditions begin to hold and reloaded with it
at each change of a discrete, accepted or forced (R12, R19); at any other step it is reloaded in full, stands, or, with no
command waiting, falls by the millisecond that passes (log 2). -/
def Obligations.ActiveCyclesKeepTheirLinks : Prop :=
  ∀ s t : State, ActiveCyclesHaveLinks s → StandbyTimersFollow s → step s = .next t →
    ActiveCyclesHaveLinks t ∧ StandbyTimersFollow t ∧
      ∀ d, (t.drum d).standbyRuns = true →
        ((s.drum d).standbyRuns = false ∨ (t.drum d).port.readings ≠ (s.drum d).port.readings →
          (t.drum d).port.standby = some (t.drum d).fullStandby) ∧
        ((t.drum d).port.standby = some (t.drum d).fullStandby ∨
          (t.drum d).port.standby = (s.drum d).port.standby ∨
          s.pending = [] ∧ (t.drum d).port.standby = (s.drum d).port.standby.map fun ms => ms - 1)
end

