-- ==== Sys2Proof/Laws/State.lean ====
section
/-! SUPPORT. What each update of State changes and leaves: one lemma per field per update. -/

namespace Sys2Proof.Machine

/-! ### onDrum -/

@[simp] theorem clock_onDrum (s : State) (d : Drum) (f : DrumState → DrumState) : (s.onDrum d f).clock = s.clock := rfl
@[simp] theorem resetHeld_onDrum (s : State) (d : Drum) (f : DrumState → DrumState) : (s.onDrum d f).resetHeld = s.resetHeld := rfl
@[simp] theorem cabinet_onDrum (s : State) (d : Drum) (f : DrumState → DrumState) : (s.onDrum d f).cabinet = s.cabinet := rfl
@[simp] theorem classifier_onDrum (s : State) (d : Drum) (f : DrumState → DrumState) : (s.onDrum d f).classifier = s.classifier := rfl
@[simp] theorem profiles_onDrum (s : State) (d : Drum) (f : DrumState → DrumState) : (s.onDrum d f).profiles = s.profiles := rfl
@[simp] theorem heat_onDrum (s : State) (d : Drum) (f : DrumState → DrumState) : (s.onDrum d f).heat = s.heat := rfl
@[simp] theorem router_onDrum (s : State) (d : Drum) (f : DrumState → DrumState) : (s.onDrum d f).router = s.router := rfl
@[simp] theorem attributes_onDrum (s : State) (d : Drum) (f : DrumState → DrumState) : (s.onDrum d f).attributes = s.attributes := rfl
@[simp] theorem flight_onDrum (s : State) (d : Drum) (f : DrumState → DrumState) : (s.onDrum d f).flight = s.flight := rfl
@[simp] theorem pending_onDrum (s : State) (d : Drum) (f : DrumState → DrumState) : (s.onDrum d f).pending = s.pending := rfl
@[simp] theorem drum_onDrum_self (s : State) (d : Drum) (f : DrumState → DrumState) :
    (s.onDrum d f).drum d = f (s.drum d) := by
  simp [State.onDrum, State.drum]
theorem drum_onDrum_ne (s : State) (f : DrumState → DrumState) (h : e ≠ d) : (s.onDrum d f).drum e = s.drum e := by
  have := Fin.val_ne_of_ne h
  simp [State.onDrum, State.drum, this.symm]
@[simp] theorem share_onDrum (s : State) (d e : Drum) (f : DrumState → DrumState) : (s.onDrum d f).share e = s.share e := rfl

/-! ### onPort -/

@[simp] theorem clock_onPort (s : State) (d : Drum) (f : Port → Port) : (s.onPort d f).clock = s.clock := rfl
@[simp] theorem resetHeld_onPort (s : State) (d : Drum) (f : Port → Port) : (s.onPort d f).resetHeld = s.resetHeld := rfl
@[simp] theorem cabinet_onPort (s : State) (d : Drum) (f : Port → Port) : (s.onPort d f).cabinet = s.cabinet := rfl
@[simp] theorem classifier_onPort (s : State) (d : Drum) (f : Port → Port) : (s.onPort d f).classifier = s.classifier := rfl
@[simp] theorem profiles_onPort (s : State) (d : Drum) (f : Port → Port) : (s.onPort d f).profiles = s.profiles := rfl
@[simp] theorem heat_onPort (s : State) (d : Drum) (f : Port → Port) : (s.onPort d f).heat = s.heat := rfl
@[simp] theorem router_onPort (s : State) (d : Drum) (f : Port → Port) : (s.onPort d f).router = s.router := rfl
@[simp] theorem attributes_onPort (s : State) (d : Drum) (f : Port → Port) : (s.onPort d f).attributes = s.attributes := rfl
@[simp] theorem flight_onPort (s : State) (d : Drum) (f : Port → Port) : (s.onPort d f).flight = s.flight := rfl
@[simp] theorem pending_onPort (s : State) (d : Drum) (f : Port → Port) : (s.onPort d f).pending = s.pending := rfl
@[simp] theorem drum_onPort_self (s : State) (d : Drum) (f : Port → Port) :
    (s.onPort d f).drum d = { s.drum d with port := f (s.drum d).port } := by
  simp [State.onPort, State.drum, State.onDrum]
theorem drum_onPort_ne (s : State) (f : Port → Port) (h : e ≠ d) : (s.onPort d f).drum e = s.drum e := by
  have := Fin.val_ne_of_ne h
  simp [State.onPort, State.drum, State.onDrum, this.symm]
@[simp] theorem share_onPort (s : State) (d e : Drum) (f : Port → Port) : (s.onPort d f).share e = s.share e := rfl

/-! ### onImage -/

@[simp] theorem clock_onImage (s : State) (d : Drum) (f : Image → Image) : (s.onImage d f).clock = s.clock := rfl
@[simp] theorem resetHeld_onImage (s : State) (d : Drum) (f : Image → Image) : (s.onImage d f).resetHeld = s.resetHeld := rfl
@[simp] theorem cabinet_onImage (s : State) (d : Drum) (f : Image → Image) : (s.onImage d f).cabinet = s.cabinet := rfl
@[simp] theorem classifier_onImage (s : State) (d : Drum) (f : Image → Image) : (s.onImage d f).classifier = s.classifier := rfl
@[simp] theorem profiles_onImage (s : State) (d : Drum) (f : Image → Image) : (s.onImage d f).profiles = s.profiles := rfl
@[simp] theorem heat_onImage (s : State) (d : Drum) (f : Image → Image) : (s.onImage d f).heat = s.heat := rfl
@[simp] theorem router_onImage (s : State) (d : Drum) (f : Image → Image) : (s.onImage d f).router = s.router := rfl
@[simp] theorem attributes_onImage (s : State) (d : Drum) (f : Image → Image) : (s.onImage d f).attributes = s.attributes := rfl
@[simp] theorem flight_onImage (s : State) (d : Drum) (f : Image → Image) : (s.onImage d f).flight = s.flight := rfl
@[simp] theorem pending_onImage (s : State) (d : Drum) (f : Image → Image) : (s.onImage d f).pending = s.pending := rfl
@[simp] theorem drum_onImage_self (s : State) (d : Drum) (f : Image → Image) :
    (s.onImage d f).drum d = { s.drum d with port := { (s.drum d).port with image := f (s.drum d).port.image } } := by
  simp [State.onImage, State.drum, State.onDrum, State.onPort]
theorem drum_onImage_ne (s : State) (f : Image → Image) (h : e ≠ d) : (s.onImage d f).drum e = s.drum e := by
  have := Fin.val_ne_of_ne h
  simp [State.onImage, State.drum, State.onDrum, State.onPort, this.symm]
@[simp] theorem share_onImage (s : State) (d e : Drum) (f : Image → Image) : (s.onImage d f).share e = s.share e := rfl

/-! ### onCycle -/

@[simp] theorem clock_onCycle (s : State) (d : Drum) (f : Cycle → Cycle) : (s.onCycle d f).clock = s.clock := rfl
@[simp] theorem resetHeld_onCycle (s : State) (d : Drum) (f : Cycle → Cycle) : (s.onCycle d f).resetHeld = s.resetHeld := rfl
@[simp] theorem cabinet_onCycle (s : State) (d : Drum) (f : Cycle → Cycle) : (s.onCycle d f).cabinet = s.cabinet := rfl
@[simp] theorem classifier_onCycle (s : State) (d : Drum) (f : Cycle → Cycle) : (s.onCycle d f).classifier = s.classifier := rfl
@[simp] theorem profiles_onCycle (s : State) (d : Drum) (f : Cycle → Cycle) : (s.onCycle d f).profiles = s.profiles := rfl
@[simp] theorem heat_onCycle (s : State) (d : Drum) (f : Cycle → Cycle) : (s.onCycle d f).heat = s.heat := rfl
@[simp] theorem router_onCycle (s : State) (d : Drum) (f : Cycle → Cycle) : (s.onCycle d f).router = s.router := rfl
@[simp] theorem attributes_onCycle (s : State) (d : Drum) (f : Cycle → Cycle) : (s.onCycle d f).attributes = s.attributes := rfl
@[simp] theorem flight_onCycle (s : State) (d : Drum) (f : Cycle → Cycle) : (s.onCycle d f).flight = s.flight := rfl
@[simp] theorem pending_onCycle (s : State) (d : Drum) (f : Cycle → Cycle) : (s.onCycle d f).pending = s.pending := rfl
@[simp] theorem drum_onCycle_self (s : State) (d : Drum) (f : Cycle → Cycle) :
    (s.onCycle d f).drum d = { s.drum d with cycle := f (s.drum d).cycle } := by
  simp [State.onCycle, State.drum, State.onDrum]
theorem drum_onCycle_ne (s : State) (f : Cycle → Cycle) (h : e ≠ d) : (s.onCycle d f).drum e = s.drum e := by
  have := Fin.val_ne_of_ne h
  simp [State.onCycle, State.drum, State.onDrum, this.symm]
@[simp] theorem share_onCycle (s : State) (d e : Drum) (f : Cycle → Cycle) : (s.onCycle d f).share e = s.share e := rfl

/-! ### onTumble -/

@[simp] theorem clock_onTumble (s : State) (d : Drum) (f : Tumble → Tumble) : (s.onTumble d f).clock = s.clock := rfl
@[simp] theorem resetHeld_onTumble (s : State) (d : Drum) (f : Tumble → Tumble) : (s.onTumble d f).resetHeld = s.resetHeld := rfl
@[simp] theorem cabinet_onTumble (s : State) (d : Drum) (f : Tumble → Tumble) : (s.onTumble d f).cabinet = s.cabinet := rfl
@[simp] theorem classifier_onTumble (s : State) (d : Drum) (f : Tumble → Tumble) : (s.onTumble d f).classifier = s.classifier := rfl
@[simp] theorem profiles_onTumble (s : State) (d : Drum) (f : Tumble → Tumble) : (s.onTumble d f).profiles = s.profiles := rfl
@[simp] theorem heat_onTumble (s : State) (d : Drum) (f : Tumble → Tumble) : (s.onTumble d f).heat = s.heat := rfl
@[simp] theorem router_onTumble (s : State) (d : Drum) (f : Tumble → Tumble) : (s.onTumble d f).router = s.router := rfl
@[simp] theorem attributes_onTumble (s : State) (d : Drum) (f : Tumble → Tumble) : (s.onTumble d f).attributes = s.attributes := rfl
@[simp] theorem flight_onTumble (s : State) (d : Drum) (f : Tumble → Tumble) : (s.onTumble d f).flight = s.flight := rfl
@[simp] theorem pending_onTumble (s : State) (d : Drum) (f : Tumble → Tumble) : (s.onTumble d f).pending = s.pending := rfl
@[simp] theorem drum_onTumble_self (s : State) (d : Drum) (f : Tumble → Tumble) :
    (s.onTumble d f).drum d = { s.drum d with tumble := f (s.drum d).tumble } := by
  simp [State.onTumble, State.drum, State.onDrum]
theorem drum_onTumble_ne (s : State) (f : Tumble → Tumble) (h : e ≠ d) : (s.onTumble d f).drum e = s.drum e := by
  have := Fin.val_ne_of_ne h
  simp [State.onTumble, State.drum, State.onDrum, this.symm]
@[simp] theorem share_onTumble (s : State) (d e : Drum) (f : Tumble → Tumble) : (s.onTumble d f).share e = s.share e := rfl

/-! ### onTangle -/

@[simp] theorem clock_onTangle (s : State) (d : Drum) (f : Tangle → Tangle) : (s.onTangle d f).clock = s.clock := rfl
@[simp] theorem resetHeld_onTangle (s : State) (d : Drum) (f : Tangle → Tangle) : (s.onTangle d f).resetHeld = s.resetHeld := rfl
@[simp] theorem cabinet_onTangle (s : State) (d : Drum) (f : Tangle → Tangle) : (s.onTangle d f).cabinet = s.cabinet := rfl
@[simp] theorem classifier_onTangle (s : State) (d : Drum) (f : Tangle → Tangle) : (s.onTangle d f).classifier = s.classifier := rfl
@[simp] theorem profiles_onTangle (s : State) (d : Drum) (f : Tangle → Tangle) : (s.onTangle d f).profiles = s.profiles := rfl
@[simp] theorem heat_onTangle (s : State) (d : Drum) (f : Tangle → Tangle) : (s.onTangle d f).heat = s.heat := rfl
@[simp] theorem router_onTangle (s : State) (d : Drum) (f : Tangle → Tangle) : (s.onTangle d f).router = s.router := rfl
@[simp] theorem attributes_onTangle (s : State) (d : Drum) (f : Tangle → Tangle) : (s.onTangle d f).attributes = s.attributes := rfl
@[simp] theorem flight_onTangle (s : State) (d : Drum) (f : Tangle → Tangle) : (s.onTangle d f).flight = s.flight := rfl
@[simp] theorem pending_onTangle (s : State) (d : Drum) (f : Tangle → Tangle) : (s.onTangle d f).pending = s.pending := rfl
@[simp] theorem drum_onTangle_self (s : State) (d : Drum) (f : Tangle → Tangle) :
    (s.onTangle d f).drum d = { s.drum d with tangle := f (s.drum d).tangle } := by
  simp [State.onTangle, State.drum, State.onDrum]
theorem drum_onTangle_ne (s : State) (f : Tangle → Tangle) (h : e ≠ d) : (s.onTangle d f).drum e = s.drum e := by
  have := Fin.val_ne_of_ne h
  simp [State.onTangle, State.drum, State.onDrum, this.symm]
@[simp] theorem share_onTangle (s : State) (d e : Drum) (f : Tangle → Tangle) : (s.onTangle d f).share e = s.share e := rfl

/-! ### onBurner -/

@[simp] theorem clock_onBurner (s : State) (d : Drum) (f : Burner → Burner) : (s.onBurner d f).clock = s.clock := rfl
@[simp] theorem resetHeld_onBurner (s : State) (d : Drum) (f : Burner → Burner) : (s.onBurner d f).resetHeld = s.resetHeld := rfl
@[simp] theorem cabinet_onBurner (s : State) (d : Drum) (f : Burner → Burner) : (s.onBurner d f).cabinet = s.cabinet := rfl
@[simp] theorem classifier_onBurner (s : State) (d : Drum) (f : Burner → Burner) : (s.onBurner d f).classifier = s.classifier := rfl
@[simp] theorem profiles_onBurner (s : State) (d : Drum) (f : Burner → Burner) : (s.onBurner d f).profiles = s.profiles := rfl
@[simp] theorem heat_onBurner (s : State) (d : Drum) (f : Burner → Burner) : (s.onBurner d f).heat = s.heat := rfl
@[simp] theorem router_onBurner (s : State) (d : Drum) (f : Burner → Burner) : (s.onBurner d f).router = s.router := rfl
@[simp] theorem attributes_onBurner (s : State) (d : Drum) (f : Burner → Burner) : (s.onBurner d f).attributes = s.attributes := rfl
@[simp] theorem flight_onBurner (s : State) (d : Drum) (f : Burner → Burner) : (s.onBurner d f).flight = s.flight := rfl
@[simp] theorem pending_onBurner (s : State) (d : Drum) (f : Burner → Burner) : (s.onBurner d f).pending = s.pending := rfl
@[simp] theorem drum_onBurner_self (s : State) (d : Drum) (f : Burner → Burner) :
    (s.onBurner d f).drum d = { s.drum d with burner := f (s.drum d).burner } := by
  simp [State.onBurner, State.drum, State.onDrum]
theorem drum_onBurner_ne (s : State) (f : Burner → Burner) (h : e ≠ d) : (s.onBurner d f).drum e = s.drum e := by
  have := Fin.val_ne_of_ne h
  simp [State.onBurner, State.drum, State.onDrum, this.symm]
@[simp] theorem share_onBurner (s : State) (d e : Drum) (f : Burner → Burner) : (s.onBurner d f).share e = s.share e := rfl

/-! ### onDryness -/

@[simp] theorem clock_onDryness (s : State) (d : Drum) (f : Dryness → Dryness) : (s.onDryness d f).clock = s.clock := rfl
@[simp] theorem resetHeld_onDryness (s : State) (d : Drum) (f : Dryness → Dryness) : (s.onDryness d f).resetHeld = s.resetHeld := rfl
@[simp] theorem cabinet_onDryness (s : State) (d : Drum) (f : Dryness → Dryness) : (s.onDryness d f).cabinet = s.cabinet := rfl
@[simp] theorem classifier_onDryness (s : State) (d : Drum) (f : Dryness → Dryness) : (s.onDryness d f).classifier = s.classifier := rfl
@[simp] theorem profiles_onDryness (s : State) (d : Drum) (f : Dryness → Dryness) : (s.onDryness d f).profiles = s.profiles := rfl
@[simp] theorem heat_onDryness (s : State) (d : Drum) (f : Dryness → Dryness) : (s.onDryness d f).heat = s.heat := rfl
@[simp] theorem router_onDryness (s : State) (d : Drum) (f : Dryness → Dryness) : (s.onDryness d f).router = s.router := rfl
@[simp] theorem attributes_onDryness (s : State) (d : Drum) (f : Dryness → Dryness) : (s.onDryness d f).attributes = s.attributes := rfl
@[simp] theorem flight_onDryness (s : State) (d : Drum) (f : Dryness → Dryness) : (s.onDryness d f).flight = s.flight := rfl
@[simp] theorem pending_onDryness (s : State) (d : Drum) (f : Dryness → Dryness) : (s.onDryness d f).pending = s.pending := rfl
@[simp] theorem drum_onDryness_self (s : State) (d : Drum) (f : Dryness → Dryness) :
    (s.onDryness d f).drum d = { s.drum d with dryness := f (s.drum d).dryness } := by
  simp [State.onDryness, State.drum, State.onDrum]
theorem drum_onDryness_ne (s : State) (f : Dryness → Dryness) (h : e ≠ d) : (s.onDryness d f).drum e = s.drum e := by
  have := Fin.val_ne_of_ne h
  simp [State.onDryness, State.drum, State.onDrum, this.symm]
@[simp] theorem share_onDryness (s : State) (d e : Drum) (f : Dryness → Dryness) : (s.onDryness d f).share e = s.share e := rfl

/-! ### onHeat -/

@[simp] theorem clock_onHeat (s : State) (f : Heat → Heat) : (s.onHeat f).clock = s.clock := rfl
@[simp] theorem resetHeld_onHeat (s : State) (f : Heat → Heat) : (s.onHeat f).resetHeld = s.resetHeld := rfl
@[simp] theorem cabinet_onHeat (s : State) (f : Heat → Heat) : (s.onHeat f).cabinet = s.cabinet := rfl
@[simp] theorem classifier_onHeat (s : State) (f : Heat → Heat) : (s.onHeat f).classifier = s.classifier := rfl
@[simp] theorem profiles_onHeat (s : State) (f : Heat → Heat) : (s.onHeat f).profiles = s.profiles := rfl
@[simp] theorem heat_onHeat (s : State) (f : Heat → Heat) : (s.onHeat f).heat = f s.heat := rfl
@[simp] theorem router_onHeat (s : State) (f : Heat → Heat) : (s.onHeat f).router = s.router := rfl
@[simp] theorem attributes_onHeat (s : State) (f : Heat → Heat) : (s.onHeat f).attributes = s.attributes := rfl
@[simp] theorem flight_onHeat (s : State) (f : Heat → Heat) : (s.onHeat f).flight = s.flight := rfl
@[simp] theorem pending_onHeat (s : State) (f : Heat → Heat) : (s.onHeat f).pending = s.pending := rfl
@[simp] theorem drum_onHeat (s : State) (d : Drum) (f : Heat → Heat) : (s.onHeat f).drum d = s.drum d := rfl

/-! ### onCabinet -/

@[simp] theorem clock_onCabinet (s : State) (f : Cabinet → Cabinet) : (s.onCabinet f).clock = s.clock := rfl
@[simp] theorem resetHeld_onCabinet (s : State) (f : Cabinet → Cabinet) : (s.onCabinet f).resetHeld = s.resetHeld := rfl
@[simp] theorem cabinet_onCabinet (s : State) (f : Cabinet → Cabinet) : (s.onCabinet f).cabinet = f s.cabinet := rfl
@[simp] theorem classifier_onCabinet (s : State) (f : Cabinet → Cabinet) : (s.onCabinet f).classifier = s.classifier := rfl
@[simp] theorem profiles_onCabinet (s : State) (f : Cabinet → Cabinet) : (s.onCabinet f).profiles = s.profiles := rfl
@[simp] theorem heat_onCabinet (s : State) (f : Cabinet → Cabinet) : (s.onCabinet f).heat = s.heat := rfl
@[simp] theorem router_onCabinet (s : State) (f : Cabinet → Cabinet) : (s.onCabinet f).router = s.router := rfl
@[simp] theorem attributes_onCabinet (s : State) (f : Cabinet → Cabinet) : (s.onCabinet f).attributes = s.attributes := rfl
@[simp] theorem flight_onCabinet (s : State) (f : Cabinet → Cabinet) : (s.onCabinet f).flight = s.flight := rfl
@[simp] theorem pending_onCabinet (s : State) (f : Cabinet → Cabinet) : (s.onCabinet f).pending = s.pending := rfl
@[simp] theorem drum_onCabinet (s : State) (d : Drum) (f : Cabinet → Cabinet) : (s.onCabinet f).drum d = s.drum d := rfl
@[simp] theorem share_onCabinet (s : State) (d : Drum) (f : Cabinet → Cabinet) : (s.onCabinet f).share d = s.share d := rfl

/-! ### onClassifier -/

@[simp] theorem clock_onClassifier (s : State) (f : Classifier → Classifier) : (s.onClassifier f).clock = s.clock := rfl
@[simp] theorem resetHeld_onClassifier (s : State) (f : Classifier → Classifier) : (s.onClassifier f).resetHeld = s.resetHeld := rfl
@[simp] theorem cabinet_onClassifier (s : State) (f : Classifier → Classifier) : (s.onClassifier f).cabinet = s.cabinet := rfl
@[simp] theorem classifier_onClassifier (s : State) (f : Classifier → Classifier) : (s.onClassifier f).classifier = f s.classifier := rfl
@[simp] theorem profiles_onClassifier (s : State) (f : Classifier → Classifier) : (s.onClassifier f).profiles = s.profiles := rfl
@[simp] theorem heat_onClassifier (s : State) (f : Classifier → Classifier) : (s.onClassifier f).heat = s.heat := rfl
@[simp] theorem router_onClassifier (s : State) (f : Classifier → Classifier) : (s.onClassifier f).router = s.router := rfl
@[simp] theorem attributes_onClassifier (s : State) (f : Classifier → Classifier) : (s.onClassifier f).attributes = s.attributes := rfl
@[simp] theorem flight_onClassifier (s : State) (f : Classifier → Classifier) : (s.onClassifier f).flight = s.flight := rfl
@[simp] theorem pending_onClassifier (s : State) (f : Classifier → Classifier) : (s.onClassifier f).pending = s.pending := rfl
@[simp] theorem drum_onClassifier (s : State) (d : Drum) (f : Classifier → Classifier) : (s.onClassifier f).drum d = s.drum d := rfl
@[simp] theorem share_onClassifier (s : State) (d : Drum) (f : Classifier → Classifier) : (s.onClassifier f).share d = s.share d := rfl

/-! ### onRouter -/

@[simp] theorem clock_onRouter (s : State) (f : Router → Router) : (s.onRouter f).clock = s.clock := rfl
@[simp] theorem resetHeld_onRouter (s : State) (f : Router → Router) : (s.onRouter f).resetHeld = s.resetHeld := rfl
@[simp] theorem cabinet_onRouter (s : State) (f : Router → Router) : (s.onRouter f).cabinet = s.cabinet := rfl
@[simp] theorem classifier_onRouter (s : State) (f : Router → Router) : (s.onRouter f).classifier = s.classifier := rfl
@[simp] theorem profiles_onRouter (s : State) (f : Router → Router) : (s.onRouter f).profiles = s.profiles := rfl
@[simp] theorem heat_onRouter (s : State) (f : Router → Router) : (s.onRouter f).heat = s.heat := rfl
@[simp] theorem router_onRouter (s : State) (f : Router → Router) : (s.onRouter f).router = f s.router := rfl
@[simp] theorem attributes_onRouter (s : State) (f : Router → Router) : (s.onRouter f).attributes = s.attributes := rfl
@[simp] theorem flight_onRouter (s : State) (f : Router → Router) : (s.onRouter f).flight = s.flight := rfl
@[simp] theorem pending_onRouter (s : State) (f : Router → Router) : (s.onRouter f).pending = s.pending := rfl
@[simp] theorem drum_onRouter (s : State) (d : Drum) (f : Router → Router) : (s.onRouter f).drum d = s.drum d := rfl
@[simp] theorem share_onRouter (s : State) (d : Drum) (f : Router → Router) : (s.onRouter f).share d = s.share d := rfl

/-! ### onAttributes -/

@[simp] theorem clock_onAttributes (s : State) (f : AttrStore → AttrStore) : (s.onAttributes f).clock = s.clock := rfl
@[simp] theorem resetHeld_onAttributes (s : State) (f : AttrStore → AttrStore) : (s.onAttributes f).resetHeld = s.resetHeld := rfl
@[simp] theorem cabinet_onAttributes (s : State) (f : AttrStore → AttrStore) : (s.onAttributes f).cabinet = s.cabinet := rfl
@[simp] theorem classifier_onAttributes (s : State) (f : AttrStore → AttrStore) : (s.onAttributes f).classifier = s.classifier := rfl
@[simp] theorem profiles_onAttributes (s : State) (f : AttrStore → AttrStore) : (s.onAttributes f).profiles = s.profiles := rfl
@[simp] theorem heat_onAttributes (s : State) (f : AttrStore → AttrStore) : (s.onAttributes f).heat = s.heat := rfl
@[simp] theorem router_onAttributes (s : State) (f : AttrStore → AttrStore) : (s.onAttributes f).router = s.router := rfl
@[simp] theorem attributes_onAttributes (s : State) (f : AttrStore → AttrStore) : (s.onAttributes f).attributes = f s.attributes := rfl
@[simp] theorem flight_onAttributes (s : State) (f : AttrStore → AttrStore) : (s.onAttributes f).flight = s.flight := rfl
@[simp] theorem pending_onAttributes (s : State) (f : AttrStore → AttrStore) : (s.onAttributes f).pending = s.pending := rfl
@[simp] theorem drum_onAttributes (s : State) (d : Drum) (f : AttrStore → AttrStore) : (s.onAttributes f).drum d = s.drum d := rfl
@[simp] theorem share_onAttributes (s : State) (d : Drum) (f : AttrStore → AttrStore) : (s.onAttributes f).share d = s.share d := rfl

/-! ### onFlight -/

@[simp] theorem clock_onFlight (s : State) (f : Flight → Flight) : (s.onFlight f).clock = s.clock := rfl
@[simp] theorem resetHeld_onFlight (s : State) (f : Flight → Flight) : (s.onFlight f).resetHeld = s.resetHeld := rfl
@[simp] theorem cabinet_onFlight (s : State) (f : Flight → Flight) : (s.onFlight f).cabinet = s.cabinet := rfl
@[simp] theorem classifier_onFlight (s : State) (f : Flight → Flight) : (s.onFlight f).classifier = s.classifier := rfl
@[simp] theorem profiles_onFlight (s : State) (f : Flight → Flight) : (s.onFlight f).profiles = s.profiles := rfl
@[simp] theorem heat_onFlight (s : State) (f : Flight → Flight) : (s.onFlight f).heat = s.heat := rfl
@[simp] theorem router_onFlight (s : State) (f : Flight → Flight) : (s.onFlight f).router = s.router := rfl
@[simp] theorem attributes_onFlight (s : State) (f : Flight → Flight) : (s.onFlight f).attributes = s.attributes := rfl
@[simp] theorem flight_onFlight (s : State) (f : Flight → Flight) : (s.onFlight f).flight = f s.flight := rfl
@[simp] theorem pending_onFlight (s : State) (f : Flight → Flight) : (s.onFlight f).pending = s.pending := rfl
@[simp] theorem drum_onFlight (s : State) (d : Drum) (f : Flight → Flight) : (s.onFlight f).drum d = s.drum d := rfl
@[simp] theorem share_onFlight (s : State) (d : Drum) (f : Flight → Flight) : (s.onFlight f).share d = s.share d := rfl

/-! ### The limit that demands under way set (R122, R144) -/

theorem limited_le (s : State) (d : Drum) (g : Nat) : s.limited d g ≤ g := by
  unfold State.limited
  induction s.flight.demands with
  | nil => exact Nat.le_refl _
  | cons p l ih => simp only [List.foldr_cons]; split <;> omega

theorem limited_le_demand {s : State} {d : Drum} {p : Drum × Nat} (g : Nat) (hp : p ∈ s.flight.demands) (hd : p.1 = d) :
    s.limited d g ≤ p.2 := by
  unfold State.limited
  generalize s.flight.demands = l at hp
  induction l with
  | nil => cases hp
  | cons q l ih =>
    simp only [List.foldr_cons]
    rcases List.mem_cons.mp hp with rfl | h
    · simp only [hd, if_true]; omega
    · have := ih h; split <;> omega

/-- Without a demand under way the limit is the granted stage itself (R144). -/
theorem limited_of_none {s : State} {d : Drum} (g : Nat) (h : ∀ p ∈ s.flight.demands, p.1 ≠ d) : s.limited d g = g := by
  unfold State.limited
  generalize s.flight.demands = l at h
  induction l with
  | nil => rfl
  | cons p l ih =>
    simp only [List.foldr_cons]
    rw [if_neg (h p (by simp))]
    exact ih fun q hq => h q (by simp [hq])

/-- A demand taken limits the granted stage it leaves no more than before (R122). -/
theorem limited_of_taken {s t : State} {d : Drum} {g w : Nat} {before after : List (Drum × Nat)}
    (hs : s.flight.demands = before ++ (d, w) :: after) (ht : t.flight.demands = before ++ after) (hw : g ≤ w) :
    t.limited d g = s.limited d g := by
  have key : ∀ l : List (Drum × Nat), l.foldr (fun p m => if p.1 = d then min p.2 m else m) g ≤ g := by
    intro l
    induction l with
    | nil => exact Nat.le_refl _
    | cons p l ih => simp only [List.foldr_cons]; split <;> omega
  have := key after
  unfold State.limited
  rw [hs, ht, List.foldr_append, List.foldr_append, List.foldr_cons, if_pos rfl, Nat.min_eq_right (by omega)]

theorem limited_congr {s t : State} (h : t.flight.demands = s.flight.demands) (d : Drum) (g : Nat) :
    t.limited d g = s.limited d g := by
  unfold State.limited; rw [h]

/-! ### The event that reaches the router next (R168, R185) -/

/-- A block's oldest event reaches the router next, unless one raised before it that it follows is still to be taken. -/
theorem nextEvent_eq {f : Flight} {src : Block} {before after : List Event} {ev : Event}
    (h : f.events = before ++ ev :: after) (hs : ev.src = src) (hb : ∀ x ∈ before, x.src ≠ src) :
    f.nextEvent src = if before.any ev.follows then none else some ev := by
  have h1 : f.events.find? (fun e => e.src == src) = some ev := by
    rw [h, List.find?_append, List.find?_eq_none.mpr (by simpa using hb)]
    simp [hs]
  have h2 : f.events.takeWhile (· != ev) = before := by
    rw [h, List.takeWhile_append_of_pos fun x hx => by
      simp only [bne_iff_ne]; rintro rfl; exact hb x hx hs]
    simp
  unfold Flight.nextEvent
  rw [h1]
  simp only [Option.filter, h2]
  cases before.any ev.follows <;> rfl

/-- No event of a block waits, so none reaches the router from it. -/
theorem nextEvent_none {f : Flight} {src : Block} (h : ∀ e ∈ f.events, e.src ≠ src) : f.nextEvent src = none := by
  unfold Flight.nextEvent
  rw [List.find?_eq_none.mpr (by simpa using h)]
  rfl

end Sys2Proof.Machine
end

