-- ==== Sys2Proof/Laws/Frame.lean ====
section
/-! SUPPORT. What the operations on one drum leave alone: one lemma per operation, about one projection of the state. -/

set_option linter.unusedTactic false
set_option linter.unnecessarySeqFocus false

namespace Sys2Proof.Machine

theorem besides_onDrum (s : State) (d : Drum) (f : DrumState → DrumState)
    (h : (f (s.drum d)).config = (s.drum d).config) : (s.onDrum d f).besides d = s.besides d := by
  simp only [State.besides, Besides.mk.injEq]
  simp [h]
  simp [State.onDrum, Vector.set_set]

@[simp] theorem besides_onPort (d : Drum) (f : Port → Port) (s : State) : (s.onPort d f).besides d = s.besides d :=
  besides_onDrum _ _ _ rfl

@[simp] theorem besides_onImage (d : Drum) (f : Image → Image) (s : State) : (s.onImage d f).besides d = s.besides d :=
  besides_onDrum _ _ _ rfl

@[simp] theorem besides_onCycle (d : Drum) (f : Cycle → Cycle) (s : State) : (s.onCycle d f).besides d = s.besides d :=
  besides_onDrum _ _ _ rfl

@[simp] theorem besides_onTumble (d : Drum) (f : Tumble → Tumble) (s : State) : (s.onTumble d f).besides d = s.besides d :=
  besides_onDrum _ _ _ rfl

@[simp] theorem besides_onTangle (d : Drum) (f : Tangle → Tangle) (s : State) : (s.onTangle d f).besides d = s.besides d :=
  besides_onDrum _ _ _ rfl

@[simp] theorem besides_onBurner (d : Drum) (f : Burner → Burner) (s : State) : (s.onBurner d f).besides d = s.besides d :=
  besides_onDrum _ _ _ rfl

@[simp] theorem besides_onDryness (d : Drum) (f : Dryness → Dryness) (s : State) : (s.onDryness d f).besides d = s.besides d :=
  besides_onDrum _ _ _ rfl

@[simp] theorem besides_raise (src : Block) (k : EventKind) (e d : Drum) (x : Option Byte) (s : State) :
    (raise src k e x s).besides d = s.besides d := rfl

@[simp] theorem besides_handIncrement (src : Block) (e d : Drum) (a : Fin 8) (s : State) :
    (handIncrement src e a s).besides d = s.besides d := rfl

@[simp] theorem besides_handDemand (d : Drum) (w : Nat) (s : State) : (handDemand d w s).besides d = s.besides d := by
  simp only [State.besides, Besides.mk.injEq]
  simp [handDemand, State.onFlight, State.drum]

@[simp] theorem besides_writeDrive (d : Drum) (v : DriveCmd) (s : State) :
    (writeDrive d v s).besides d = s.besides d := by
  unfold writeDrive; (try dsimp only); (repeat' split) <;> simp

@[simp] theorem besides_writeFlame (d : Drum) (n : Nat) (s : State) :
    (writeFlame d n s).besides d = s.besides d := by
  unfold writeFlame; (try dsimp only); (repeat' split) <;> simp

@[simp] theorem besides_writeResetLockout (d : Drum) (s : State) :
    (writeResetLockout d s).besides d = s.besides d := by
  unfold writeResetLockout; (try dsimp only); (repeat' split) <;> simp

@[simp] theorem besides_writeFan (d : Drum) (on : Bool) (s : State) :
    (writeFan d on s).besides d = s.besides d := by
  unfold writeFan; (try dsimp only); (repeat' split) <;> simp

@[simp] theorem besides_settleStandby (d : Drum) (s : State) : (settleStandby d s).besides d = s.besides d :=
  besides_onDrum _ _ _ rfl

@[simp] theorem besides_reloadStandby (d : Drum) (s : State) : (reloadStandby d s).besides d = s.besides d :=
  besides_onDrum _ _ _ rfl

@[simp] theorem besides_burnerUpdate (d : Drum) (s : State) :
    (burnerUpdate d s).besides d = s.besides d := by
  unfold burnerUpdate; (try dsimp only); (repeat' split) <;> simp

@[simp] theorem besides_setWanted (d : Drum) (w : Nat) (s : State) :
    (setWanted d w s).besides d = s.besides d := by
  unfold setWanted; (try dsimp only); (repeat' split) <;> simp

@[simp] theorem besides_setReading (d : Drum) (x : Discrete) (v : Bool) (s : State) :
    (setReading d x v s).besides d = s.besides d := by
  unfold setReading; (try dsimp only); (repeat' split) <;> simp

@[simp] theorem besides_setRest (d : Drum) (v : Bool) (s : State) :
    (setRest d v s).besides d = s.besides d := by
  unfold setRest; (try dsimp only); (repeat' split) <;> simp

@[simp] theorem besides_burnerNotice (d : Drum) (s : State) :
    (burnerNotice d s).besides d = s.besides d := by
  unfold burnerNotice; (try dsimp only); (repeat' split) <;> simp

@[simp] theorem besides_leaveRun (d : Drum) (f : Tumble → Tumble) (s : State) :
    (leaveRun d f s).besides d = s.besides d := by
  unfold leaveRun; (try dsimp only); (repeat' split) <;> simp

@[simp] theorem besides_guardTumbleDone (d : Drum) (s : State) :
    (guardTumbleDone d s).besides d = s.besides d := by
  unfold guardTumbleDone; (try dsimp only); (repeat' split) <;> simp

@[simp] theorem besides_enterStopped (d : Drum) (s : State) :
    (enterStopped d s).besides d = s.besides d := by
  unfold enterStopped; (try dsimp only); (repeat' split) <;> simp

@[simp] theorem besides_enterDecel (d : Drum) (target : Target) (s : State) :
    (enterDecel d target s).besides d = s.besides d := by
  unfold enterDecel; (try dsimp only); (repeat' split) <;> simp

@[simp] theorem besides_beginRun (d : Drum) (s : State) :
    (beginRun d s).besides d = s.besides d := by
  unfold beginRun; (try dsimp only); (repeat' split) <;> simp

@[simp] theorem besides_startDwell (d : Drum) (s : State) :
    (startDwell d s).besides d = s.besides d := by
  unfold startDwell; (try dsimp only); (repeat' split) <;> simp

@[simp] theorem besides_startFromStopped (d : Drum) (s : State) :
    (startFromStopped d s).besides d = s.besides d := by
  unfold startFromStopped; (try dsimp only); (repeat' split) <;> simp

@[simp] theorem besides_setTarget (d : Drum) (target : Target) (s : State) :
    (setTarget d target s).besides d = s.besides d := by
  unfold setTarget; (try dsimp only); (repeat' split) <;> simp

@[simp] theorem besides_firstStart (d : Drum) (n : Nat) (s : State) :
    (firstStart d n s).besides d = s.besides d := by
  unfold firstStart; simp

@[simp] theorem besides_tumbleStart (d : Drum) (n : Nat) (s : State) :
    (tumbleStart d n s).besides d = s.besides d := by
  unfold tumbleStart; (try dsimp only); (repeat' split) <;> simp

@[simp] theorem besides_tumbleHold (d : Drum) (s : State) :
    (tumbleHold d s).besides d = s.besides d := by
  unfold tumbleHold; (try dsimp only); (repeat' split) <;> simp

@[simp] theorem besides_clearPersistence (d : Drum) (s : State) :
    (clearPersistence d s).besides d = s.besides d := by
  unfold clearPersistence; (try dsimp only); (repeat' split) <;> simp

@[simp] theorem besides_tumbleStop (d : Drum) (s : State) :
    (tumbleStop d s).besides d = s.besides d := by
  unfold tumbleStop; (try dsimp only); (repeat' split) <;> simp

@[simp] theorem besides_tumbleGuard (d : Drum) (n : Nat) (s : State) :
    (tumbleGuard d n s).besides d = s.besides d := by
  unfold tumbleGuard; (try dsimp only); (repeat' split) <;> simp

@[simp] theorem besides_endNormalRun (d : Drum) (s : State) :
    (endNormalRun d s).besides d = s.besides d := by
  unfold endNormalRun; (try dsimp only); (repeat' split) <;> simp

@[simp] theorem besides_applyPersistence (d : Drum) (s : State) :
    (applyPersistence d s).besides d = s.besides d := by
  unfold applyPersistence; (try dsimp only); (repeat' split) <;> simp

@[simp] theorem besides_endEarlyRun (d : Drum) (s : State) :
    (endEarlyRun d s).besides d = s.besides d := by
  unfold endEarlyRun; (try dsimp only); (repeat' split) <;> simp

@[simp] theorem besides_reachTarget (d : Drum) (s : State) :
    (reachTarget d s).besides d = s.besides d := by
  unfold reachTarget; (try dsimp only); (repeat' split) <;> simp

@[simp] theorem besides_recoverConfirmed (d : Drum) (s : State) :
    (recoverConfirmed d s).besides d = s.besides d := by
  unfold recoverConfirmed; (try dsimp only); (repeat' split) <;> simp

@[simp] theorem besides_tumbleNotice (d : Drum) (s : State) :
    (tumbleNotice d s).besides d = s.besides d := by
  unfold tumbleNotice; (try dsimp only); (repeat' split) <;> simp

@[simp] theorem besides_linkLostNotice (d : Drum) (s : State) :
    (linkLostNotice d s).besides d = s.besides d := by
  unfold linkLostNotice; (try dsimp only); (repeat' split) <;> simp

@[simp] theorem besides_tumbleReset (d : Drum) (s : State) :
    (tumbleReset d s).besides d = s.besides d := by
  unfold tumbleReset; (try dsimp only); (repeat' split) <;> simp

@[simp] theorem besides_setCycle (d : Drum) (new : CycleState) (f : Cycle → Cycle) (s : State) :
    (setCycle d new f s).besides d = s.besides d := by
  simp [setCycle, besides_onDrum]

@[simp] theorem besides_enterDone (d : Drum) (s : State) :
    (enterDone d s).besides d = s.besides d := by
  unfold enterDone; (try dsimp only); (repeat' split) <;> simp

@[simp] theorem besides_cycleHalt (d : Drum) (c : HaltCause) (s : State) :
    (cycleHalt d c s).besides d = s.besides d := by
  unfold cycleHalt; (try dsimp only); (repeat' split) <;> simp

@[simp] theorem besides_enterVacant (d : Drum) (s : State) :
    (enterVacant d s).besides d = s.besides d := by
  unfold enterVacant; (try dsimp only); (repeat' split) <;> simp

@[simp] theorem besides_pauseCycle (d : Drum) (c : PauseCause) (s : State) :
    (pauseCycle d c s).besides d = s.besides d := by
  unfold pauseCycle; (try dsimp only); (repeat' split) <;> simp

@[simp] theorem besides_joinCause (d : Drum) (c : PauseCause) (s : State) :
    (joinCause d c s).besides d = s.besides d := by
  unfold joinCause; (try dsimp only); (repeat' split) <;> simp

@[simp] theorem besides_pauseOrJoin (d : Drum) (c : PauseCause) (s : State) :
    (pauseOrJoin d c s).besides d = s.besides d := by
  unfold pauseOrJoin; (try dsimp only); (repeat' split) <;> simp

@[simp] theorem besides_enterPurge (d : Drum) (target : Option Phase) (f : Cycle → Cycle) (s : State) :
    (enterPurge d target f s).besides d = s.besides d := by
  unfold enterPurge; (try dsimp only); (repeat' split) <;> simp

@[simp] theorem besides_startCooling (d : Drum) (r : Reason) (s : State) :
    (startCooling d r s).besides d = s.besides d := by
  unfold startCooling; (try dsimp only); (repeat' split) <;> simp

@[simp] theorem besides_heatEnd (d : Drum) (r : Reason) (s : State) :
    (heatEnd d r s).besides d = s.besides d := by
  unfold heatEnd; (try dsimp only); (repeat' split) <;> simp

@[simp] theorem besides_coolingEnds (d : Drum) (s : State) :
    (coolingEnds d s).besides d = s.besides d := by
  unfold coolingEnds; (try dsimp only); (repeat' split) <;> simp

@[simp] theorem besides_coolTest (d : Drum) (s : State) :
    (coolTest d s).besides d = s.besides d := by
  unfold coolTest; (try dsimp only); (repeat' split) <;> simp

@[simp] theorem besides_enterTarget (d : Drum) (s : State) :
    (enterTarget d s).besides d = s.besides d := by
  unfold enterTarget; (try dsimp only); (repeat' split) <;> simp

@[simp] theorem besides_cycleDoorOpened (d : Drum) (s : State) :
    (cycleDoorOpened d s).besides d = s.besides d := by
  unfold cycleDoorOpened; (try dsimp only); (repeat' split) <;> simp

@[simp] theorem besides_cycleAirflowLost (d : Drum) (s : State) :
    (cycleAirflowLost d s).besides d = s.besides d := by
  unfold cycleAirflowLost; (try dsimp only); (repeat' split) <;> simp

@[simp] theorem besides_cycleAirflowProven (d : Drum) (s : State) :
    (cycleAirflowProven d s).besides d = s.besides d := by
  unfold cycleAirflowProven; (try dsimp only); (repeat' split) <;> simp

@[simp] theorem besides_cycleNodeLost (d : Drum) (n : Nat) (s : State) :
    (cycleNodeLost d n s).besides d = s.besides d := by
  unfold cycleNodeLost; (try dsimp only); (repeat' split) <;> simp

@[simp] theorem besides_cycleGraceExpired (d : Drum) (s : State) :
    (cycleGraceExpired d s).besides d = s.besides d := by
  unfold cycleGraceExpired; (try dsimp only); (repeat' split) <;> simp

@[simp] theorem besides_routedAction (d : Drum) (a : RoutedAction) (s : State) :
    (routedAction d a s).besides d = s.besides d := by
  unfold routedAction; (try dsimp only); (repeat' split) <;> simp

@[simp] theorem besides_takeInlet (d : Drum) (t : Temperature) (s : State) :
    (takeInlet d t s).besides d = s.besides d := by
  unfold takeInlet; (try dsimp only); (repeat' split) <;> simp

@[simp] theorem besides_judgeExhaust (d : Drum) (t : Temperature) (s : State) :
    (judgeExhaust d t s).besides d = s.besides d := by
  unfold judgeExhaust; (try dsimp only); (repeat' split) <;> simp

@[simp] theorem besides_takeExhaust (d : Drum) (t : Temperature) (s : State) :
    (takeExhaust d t s).besides d = s.besides d := by
  unfold takeExhaust; (try dsimp only); (repeat' split) <;> simp

@[simp] theorem besides_enterBurning (d : Drum) (s : State) :
    (enterBurning d s).besides d = s.besides d := by
  unfold enterBurning; (try dsimp only); (repeat' split) <;> simp

@[simp] theorem besides_retryDelayEnds (d : Drum) (s : State) :
    (retryDelayEnds d s).besides d = s.besides d := by
  unfold retryDelayEnds; (try dsimp only); (repeat' split) <;> simp

@[simp] theorem besides_burnerReset (d : Drum) (s : State) :
    (burnerReset d s).besides d = s.besides d := by
  unfold burnerReset; (try dsimp only); (repeat' split) <;> simp

@[simp] theorem besides_clearLockout (d : Drum) (s : State) :
    (clearLockout d s).besides d = s.besides d := by
  unfold clearLockout; (try dsimp only); (repeat' split) <;> simp

@[simp] theorem besides_takeCurrent (d : Drum) (v : Nat) (s : State) :
    (takeCurrent d v s).besides d = s.besides d := by
  unfold takeCurrent; (try dsimp only); (repeat' split) <;> simp

@[simp] theorem besides_statusInRun (d : Drum) (st : DriveStatus) (s : State) :
    (statusInRun d st s).besides d = s.besides d := by
  unfold statusInRun; (try dsimp only); (repeat' split) <;> simp

@[simp] theorem besides_stall (d : Drum) (st : DriveStatus) (s : State) :
    (stall d st s).besides d = s.besides d := by
  unfold stall; (try dsimp only); (repeat' split) <;> simp

@[simp] theorem besides_trip (d : Drum) (st : DriveStatus) (s : State) :
    (trip d st s).besides d = s.besides d := by
  unfold trip; (try dsimp only); (repeat' split) <;> simp

@[simp] theorem besides_takeDriveStat (d : Drum) (st : DriveStatus) (s : State) :
    (takeDriveStat d st s).besides d = s.besides d := by
  unfold takeDriveStat; (try dsimp only); (repeat' split) <;> simp

@[simp] theorem besides_minimumRunReached (d : Drum) (s : State) :
    (minimumRunReached d s).besides d = s.besides d := by
  unfold minimumRunReached; (try dsimp only); (repeat' split) <;> simp

@[simp] theorem besides_decelTimeout (d : Drum) (s : State) :
    (decelTimeout d s).besides d = s.besides d := by
  unfold decelTimeout; (try dsimp only); (repeat' split) <;> simp

@[simp] theorem besides_guardIntervalEnds (d : Drum) (s : State) :
    (guardIntervalEnds d s).besides d = s.besides d := by
  unfold guardIntervalEnds; (try dsimp only); (repeat' split) <;> simp

@[simp] theorem besides_pauseLimitEnds (d : Drum) (s : State) :
    (pauseLimitEnds d s).besides d = s.besides d := by
  unfold pauseLimitEnds; (try dsimp only); (repeat' split) <;> simp

@[simp] theorem besides_extraDryEnds (d : Drum) (s : State) :
    (extraDryEnds d s).besides d = s.besides d := by
  unfold extraDryEnds; (try dsimp only); (repeat' split) <;> simp

@[simp] theorem besides_dryReached (d : Drum) (p : DrynessPart) (s : State) :
    (dryReached d p s).besides d = s.besides d := by
  unfold dryReached; (try dsimp only); (repeat' split) <;> simp

@[simp] theorem besides_dryTest (d : Drum) (p : DrynessPart) (s : State) :
    (dryTest d p s).besides d = s.besides d := by
  unfold dryTest; (try dsimp only); (repeat' split) <;> simp

@[simp] theorem besides_acceptWet (d : Drum) (v : Nat) (p : DrynessPart) (s : State) :
    (acceptWet d v p s).besides d = s.besides d := by
  unfold acceptWet; (try dsimp only); (repeat' split) <;> simp

@[simp] theorem besides_takeWet (d : Drum) (v : Nat) (s : State) :
    (takeWet d v s).besides d = s.besides d := by
  unfold takeWet; (try dsimp only); (repeat' split) <;> simp

@[simp] theorem besides_drynessStart (d : Drum) (s : State) :
    (drynessStart d s).besides d = s.besides d := by
  unfold drynessStart; (try dsimp only); (repeat' split) <;> simp

@[simp] theorem besides_drynessReset (d : Drum) (s : State) :
    (drynessReset d s).besides d = s.besides d := by
  unfold drynessReset; (try dsimp only); (repeat' split) <;> simp

@[simp] theorem besides_setPortState (d : Drum) (st : PortState) (s : State) :
    (setPortState d st s).besides d = s.besides d := by
  unfold setPortState; (try dsimp only); (repeat' split) <;> simp

@[simp] theorem besides_leaveUp (d : Drum) (st : PortState) (s : State) :
    (leaveUp d st s).besides d = s.besides d := by
  unfold leaveUp; (try dsimp only); (repeat' split) <;> simp

@[simp] theorem besides_movePort (d : Drum) (st : PortState) (s : State) :
    (movePort d st s).besides d = s.besides d := by
  unfold movePort; (try dsimp only); (repeat' split) <;> simp

@[simp] theorem besides_enterUp (d : Drum) (s : State) :
    (enterUp d s).besides d = s.besides d := by
  unfold enterUp; (try dsimp only); (repeat' split) <;> simp

@[simp] theorem besides_graceExpires (d : Drum) (s : State) :
    (graceExpires d s).besides d = s.besides d := by
  unfold graceExpires; (try dsimp only); (repeat' split) <;> simp

@[simp] theorem besides_mainLaneLost (d : Drum) (s : State) :
    (mainLaneLost d s).besides d = s.besides d := by
  unfold mainLaneLost; (try dsimp only); (repeat' split) <;> simp

@[simp] theorem besides_cycleOnChange (d : Drum) (x : Discrete) (safe : Bool) (s : State) :
    (cycleOnChange d x safe s).besides d = s.besides d := by
  unfold cycleOnChange; (try dsimp only); (repeat' split) <;> simp

@[simp] theorem besides_changeReading (d : Drum) (x : Discrete) (safe accepted : Bool) (s : State) :
    (changeReading d x safe accepted s).besides d = s.besides d := by
  unfold changeReading; (try dsimp only); (repeat' split) <;> simp

@[simp] theorem besides_forceSafe (d : Drum) (x : Discrete) (s : State) :
    (forceSafe d x s).besides d = s.besides d := by
  unfold forceSafe; (try dsimp only); (repeat' split) <;> simp

@[simp] theorem besides_takeDiscretes (d : Drum) (raw : Readings) (s : State) :
    (takeDiscretes d raw s).besides d = s.besides d := by
  unfold takeDiscretes; (try dsimp only); (repeat' split) <;> simp

@[simp] theorem besides_debounceExpires (d : Drum) (x : Discrete) (s : State) :
    (debounceExpires d x s).besides d = s.besides d := by
  unfold debounceExpires; (try dsimp only); (repeat' split) <;> simp

@[simp] theorem besides_presenceChange (d : Drum) (old new : BitVec 16) (s : State) (n : Nat) :
    (presenceChange d old new s n).besides d = s.besides d := by
  unfold presenceChange; (repeat' split) <;> simp

@[simp] theorem besides_setPresence (d : Drum) (report : BitVec 16) (s : State) :
    (setPresence d report s).besides d = s.besides d := by
  simp [setPresence, nodeAddresses]

@[simp] theorem besides_setHold (d : Drum) (s : State) :
    (setHold d s).besides d = s.besides d := by
  unfold setHold; (try dsimp only); (repeat' split) <;> simp

@[simp] theorem besides_clearHold (d : Drum) (s : State) :
    (clearHold d s).besides d = s.besides d := by
  unfold clearHold; (try dsimp only); (repeat' split) <;> simp

@[simp] theorem besides_serviceLaneDown (d : Drum) (s : State) :
    (serviceLaneDown d s).besides d = s.besides d := by
  unfold serviceLaneDown; (try dsimp only); (repeat' split) <;> simp

@[simp] theorem besides_beginSend (d : Drum) (s : State) :
    (beginSend d s).besides d = s.besides d := by
  unfold beginSend; (try dsimp only); (repeat' split) <;> simp

@[simp] theorem besides_refreshExpires (d : Drum) (s : State) :
    (refreshExpires d s).besides d = s.besides d := by
  unfold refreshExpires; (try dsimp only); (repeat' split) <;> simp

@[simp] theorem besides_startTest (d : Drum) (dir : TestDirection) (mode : FlagMode) (s : State) :
    (startTest d dir mode s).besides d = s.besides d := by
  unfold startTest; (try dsimp only); (repeat' split) <;> simp

@[simp] theorem besides_leaveTest (d : Drum) (o : TestOutcome) (s : State) :
    (leaveTest d o s).besides d = s.besides d := by
  unfold leaveTest; (try dsimp only); (repeat' split) <;> simp

@[simp] theorem besides_testArmed (d : Drum) (s : State) :
    (testArmed d s).besides d = s.besides d := by
  unfold testArmed; (try dsimp only); (repeat' split) <;> simp

@[simp] theorem besides_closeInterval (d : Drum) (n : Nat) (s : State) :
    (closeInterval d n s).besides d = s.besides d := by
  unfold closeInterval; (try dsimp only); (repeat' split) <;> simp

@[simp] theorem besides_checkerCloses (d : Drum) (n : Nat) (s : State) :
    (checkerCloses d n s).besides d = s.besides d := by
  unfold checkerCloses; (try dsimp only); (repeat' split) <;> simp

@[simp] theorem besides_loadCycle (d : Drum) (r : CycleRecord) (s : State) :
    (loadCycle d r s).besides d = s.besides d := by
  unfold loadCycle; (try dsimp only); (repeat' split) <;> simp

@[simp] theorem besides_startCycle (d : Drum) (s : State) :
    (startCycle d s).besides d = s.besides d := by
  unfold startCycle; (try dsimp only); (repeat' split) <;> simp

@[simp] theorem besides_resumeCycle (d : Drum) (s : State) :
    (resumeCycle d s).besides d = s.besides d := by
  unfold resumeCycle; (try dsimp only); (repeat' split) <;> simp

@[simp] theorem besides_setReason (d : Drum) (r : Reason) (s : State) :
    (setReason d r s).besides d = s.besides d := by
  unfold setReason; (try dsimp only); (repeat' split) <;> simp

@[simp] theorem besides_abortCycle (d : Drum) (s : State) :
    (abortCycle d s).besides d = s.besides d := by
  unfold abortCycle; (try dsimp only); (repeat' split) <;> simp

@[simp] theorem besides_powerOff (d : Drum) (s : State) :
    (powerOff d s).besides d = s.besides d := by
  unfold powerOff; (try dsimp only); (repeat' split) <;> simp

@[simp] theorem besides_serviceOnly (d : Drum) (s : State) :
    (serviceOnly d s).besides d = s.besides d := by
  unfold serviceOnly; (try dsimp only); (repeat' split) <;> simp

@[simp] theorem besides_endTest (d : Drum) (s : State) :
    (endTest d s).besides d = s.besides d := by
  unfold endTest; (try dsimp only); (repeat' split) <;> simp

/-! ### Reading the frame -/

theorem drum_of_besides {s t : State} {d e : Drum} (h : t.besides d = s.besides d) (he : e ≠ d) :
    t.drum e = s.drum e := by
  have hv := congrArg (fun b : Besides => b.drums[e]) h
  have := Fin.val_ne_of_ne he
  simpa [State.besides, State.drum, this.symm] using hv

theorem config_of_besides {s t : State} {d : Drum} (h : t.besides d = s.besides d) (e : Drum) :
    (t.drum e).config = (s.drum e).config := by
  by_cases he : e = d
  · subst he; exact congrArg Besides.config h
  · rw [drum_of_besides h he]

theorem heat_of_besides {s t : State} {d : Drum} (h : t.besides d = s.besides d) : t.heat = s.heat :=
  congrArg Besides.heat h

theorem share_of_besides {s t : State} {d : Drum} (h : t.besides d = s.besides d) (e : Drum) :
    t.share e = s.share e := by
  simp [State.share, heat_of_besides h]

theorem cabinet_of_besides {s t : State} {d : Drum} (h : t.besides d = s.besides d) : t.cabinet = s.cabinet :=
  congrArg Besides.cabinet h

theorem router_of_besides {s t : State} {d : Drum} (h : t.besides d = s.besides d) : t.router = s.router :=
  congrArg Besides.router h

theorem classifier_of_besides {s t : State} {d : Drum} (h : t.besides d = s.besides d) :
    t.classifier = s.classifier :=
  congrArg Besides.classifier h

theorem attributes_of_besides {s t : State} {d : Drum} (h : t.besides d = s.besides d) :
    t.attributes = s.attributes :=
  congrArg Besides.attributes h

theorem profiles_of_besides {s t : State} {d : Drum} (h : t.besides d = s.besides d) : t.profiles = s.profiles :=
  congrArg Besides.profiles h

theorem clock_of_besides {s t : State} {d : Drum} (h : t.besides d = s.besides d) : t.clock = s.clock :=
  congrArg Besides.clock h

/-- Another drum's demands under way are the same. -/
theorem demands_of_besides {s t : State} {d : Drum} (h : t.besides d = s.besides d) {p : Drum × Nat} (hp : p.1 ≠ d) :
    p ∈ t.flight.demands ↔ p ∈ s.flight.demands := by
  have hv : t.flight.demands.filter (fun p => p.1 != d) = s.flight.demands.filter fun p => p.1 != d :=
    congrArg Besides.demands h
  have := congrArg (fun l => p ∈ l) hv
  simpa [List.mem_filter, hp] using this

theorem pending_of_besides {s t : State} {d : Drum} (h : t.besides d = s.besides d) : t.pending = s.pending :=
  congrArg Besides.pending h

end Sys2Proof.Machine
end

