-- ==== Sys2Proof/Laws/Keep.lean ====
section
/-! SUPPORT. What each operation on a drum leaves alone within that drum, and whether it hands on events, demands or
increments: one lemma for each operation, tagged for simp. What it leaves alone elsewhere is in Laws/Frame.lean. -/

set_option linter.unusedTactic false
set_option linter.unreachableTactic false
set_option linter.unnecessarySeqFocus false

namespace Sys2Proof.Machine

@[simp] theorem keeps_raise (src : Block) (k : EventKind) (d e : Drum) (x : Option Byte) (s : State) :
    ((raise src k e x s).drum d).port = (s.drum d).port ∧ ((raise src k e x s).drum d).cycle = (s.drum d).cycle ∧
    ((raise src k e x s).drum d).tumble = (s.drum d).tumble ∧
    ((raise src k e x s).drum d).tangle = (s.drum d).tangle ∧
    ((raise src k e x s).drum d).burner = (s.drum d).burner ∧
    ((raise src k e x s).drum d).dryness = (s.drum d).dryness ∧
    (raise src k e x s).flight.increments = s.flight.increments ∧
    (raise src k e x s).flight.demands = s.flight.demands := by
  refine ⟨?_, ?_, ?_, ?_, ?_, ?_, ?_, ?_⟩ <;> (unfold raise; (try dsimp only); (repeat' split) <;> simp)

@[simp] theorem keeps_handIncrement (src : Block) (d e : Drum) (a : Fin 8) (s : State) :
    ((handIncrement src e a s).drum d).port = (s.drum d).port ∧
    ((handIncrement src e a s).drum d).cycle = (s.drum d).cycle ∧
    ((handIncrement src e a s).drum d).tumble = (s.drum d).tumble ∧
    ((handIncrement src e a s).drum d).tangle = (s.drum d).tangle ∧
    ((handIncrement src e a s).drum d).burner = (s.drum d).burner ∧
    ((handIncrement src e a s).drum d).dryness = (s.drum d).dryness ∧
    (handIncrement src e a s).flight.events = s.flight.events ∧
    (handIncrement src e a s).flight.demands = s.flight.demands := by
  refine ⟨?_, ?_, ?_, ?_, ?_, ?_, ?_, ?_⟩ <;> (unfold handIncrement; (try dsimp only); (repeat' split) <;> simp)

@[simp] theorem keeps_handDemand (d e : Drum) (w : Nat) (s : State) :
    ((handDemand e w s).drum d).port = (s.drum d).port ∧ ((handDemand e w s).drum d).cycle = (s.drum d).cycle ∧
    ((handDemand e w s).drum d).tumble = (s.drum d).tumble ∧ ((handDemand e w s).drum d).tangle = (s.drum d).tangle ∧
    ((handDemand e w s).drum d).burner = (s.drum d).burner ∧
    ((handDemand e w s).drum d).dryness = (s.drum d).dryness ∧ (handDemand e w s).flight.events = s.flight.events ∧
    (handDemand e w s).flight.increments = s.flight.increments := by
  refine ⟨?_, ?_, ?_, ?_, ?_, ?_, ?_, ?_⟩ <;> (unfold handDemand; (try dsimp only); (repeat' split) <;> simp)

@[simp] theorem keeps_writeDrive (d : Drum) (v : DriveCmd) (s : State) :
    ((writeDrive d v s).drum d).port.state = (s.drum d).port.state ∧
    ((writeDrive d v s).drum d).port.readings = (s.drum d).port.readings ∧
    ((writeDrive d v s).drum d).port.presence = (s.drum d).port.presence ∧
    ((writeDrive d v s).drum d).port.hold = (s.drum d).port.hold ∧
    ((writeDrive d v s).drum d).port.grace = (s.drum d).port.grace ∧
    ((writeDrive d v s).drum d).port.image.flameStage = (s.drum d).port.image.flameStage ∧
    ((writeDrive d v s).drum d).port.image.resetLockout = (s.drum d).port.image.resetLockout ∧
    ((writeDrive d v s).drum d).port.image.fan = (s.drum d).port.image.fan ∧
    ((writeDrive d v s).drum d).cycle = (s.drum d).cycle ∧ ((writeDrive d v s).drum d).tumble = (s.drum d).tumble ∧
    ((writeDrive d v s).drum d).tangle = (s.drum d).tangle ∧ ((writeDrive d v s).drum d).burner = (s.drum d).burner ∧
    ((writeDrive d v s).drum d).dryness = (s.drum d).dryness ∧ (writeDrive d v s).flight.events = s.flight.events ∧
    (writeDrive d v s).flight.increments = s.flight.increments ∧
    (writeDrive d v s).flight.demands = s.flight.demands := by
  refine ⟨?_, ?_, ?_, ?_, ?_, ?_, ?_, ?_, ?_, ?_, ?_, ?_, ?_, ?_, ?_, ?_⟩ <;> (unfold writeDrive; (try dsimp only); (repeat' split) <;> simp)

@[simp] theorem keeps_writeFlame (d : Drum) (n : Nat) (s : State) :
    ((writeFlame d n s).drum d).port.state = (s.drum d).port.state ∧
    ((writeFlame d n s).drum d).port.readings = (s.drum d).port.readings ∧
    ((writeFlame d n s).drum d).port.presence = (s.drum d).port.presence ∧
    ((writeFlame d n s).drum d).port.hold = (s.drum d).port.hold ∧
    ((writeFlame d n s).drum d).port.grace = (s.drum d).port.grace ∧
    ((writeFlame d n s).drum d).port.image.drive = (s.drum d).port.image.drive ∧
    ((writeFlame d n s).drum d).port.image.resetLockout = (s.drum d).port.image.resetLockout ∧
    ((writeFlame d n s).drum d).port.image.fan = (s.drum d).port.image.fan ∧
    ((writeFlame d n s).drum d).cycle = (s.drum d).cycle ∧ ((writeFlame d n s).drum d).tumble = (s.drum d).tumble ∧
    ((writeFlame d n s).drum d).tangle = (s.drum d).tangle ∧ ((writeFlame d n s).drum d).burner = (s.drum d).burner ∧
    ((writeFlame d n s).drum d).dryness = (s.drum d).dryness ∧ (writeFlame d n s).flight.events = s.flight.events ∧
    (writeFlame d n s).flight.increments = s.flight.increments ∧
    (writeFlame d n s).flight.demands = s.flight.demands := by
  refine ⟨?_, ?_, ?_, ?_, ?_, ?_, ?_, ?_, ?_, ?_, ?_, ?_, ?_, ?_, ?_, ?_⟩ <;> (unfold writeFlame; (try dsimp only); (repeat' split) <;> simp)

@[simp] theorem keeps_writeResetLockout (d : Drum) (s : State) :
    ((writeResetLockout d s).drum d).port.state = (s.drum d).port.state ∧
    ((writeResetLockout d s).drum d).port.readings = (s.drum d).port.readings ∧
    ((writeResetLockout d s).drum d).port.presence = (s.drum d).port.presence ∧
    ((writeResetLockout d s).drum d).port.hold = (s.drum d).port.hold ∧
    ((writeResetLockout d s).drum d).port.grace = (s.drum d).port.grace ∧
    ((writeResetLockout d s).drum d).port.image.drive = (s.drum d).port.image.drive ∧
    ((writeResetLockout d s).drum d).port.image.fan = (s.drum d).port.image.fan ∧
    ((writeResetLockout d s).drum d).cycle = (s.drum d).cycle ∧
    ((writeResetLockout d s).drum d).tumble = (s.drum d).tumble ∧
    ((writeResetLockout d s).drum d).tangle = (s.drum d).tangle ∧
    ((writeResetLockout d s).drum d).burner = (s.drum d).burner ∧
    ((writeResetLockout d s).drum d).dryness = (s.drum d).dryness ∧
    (writeResetLockout d s).flight.events = s.flight.events ∧
    (writeResetLockout d s).flight.increments = s.flight.increments ∧
    (writeResetLockout d s).flight.demands = s.flight.demands := by
  refine ⟨?_, ?_, ?_, ?_, ?_, ?_, ?_, ?_, ?_, ?_, ?_, ?_, ?_, ?_, ?_⟩ <;> (unfold writeResetLockout; (try dsimp only); (repeat' split) <;> simp)

@[simp] theorem keeps_writeFan (d : Drum) (on : Bool) (s : State) :
    ((writeFan d on s).drum d).port.state = (s.drum d).port.state ∧
    ((writeFan d on s).drum d).port.readings = (s.drum d).port.readings ∧
    ((writeFan d on s).drum d).port.presence = (s.drum d).port.presence ∧
    ((writeFan d on s).drum d).port.hold = (s.drum d).port.hold ∧
    ((writeFan d on s).drum d).port.grace = (s.drum d).port.grace ∧
    ((writeFan d on s).drum d).port.image.drive = (s.drum d).port.image.drive ∧
    ((writeFan d on s).drum d).port.image.flameStage = (s.drum d).port.image.flameStage ∧
    ((writeFan d on s).drum d).port.image.resetLockout = (s.drum d).port.image.resetLockout ∧
    ((writeFan d on s).drum d).cycle = (s.drum d).cycle ∧ ((writeFan d on s).drum d).tumble = (s.drum d).tumble ∧
    ((writeFan d on s).drum d).tangle = (s.drum d).tangle ∧ ((writeFan d on s).drum d).burner = (s.drum d).burner ∧
    ((writeFan d on s).drum d).dryness = (s.drum d).dryness ∧ (writeFan d on s).flight.events = s.flight.events ∧
    (writeFan d on s).flight.increments = s.flight.increments ∧
    (writeFan d on s).flight.demands = s.flight.demands := by
  refine ⟨?_, ?_, ?_, ?_, ?_, ?_, ?_, ?_, ?_, ?_, ?_, ?_, ?_, ?_, ?_, ?_⟩ <;> (unfold writeFan; (try dsimp only); (repeat' split) <;> simp)

@[simp] theorem keeps_settleStandby (d : Drum) (s : State) :
    ((settleStandby d s).drum d).port.state = (s.drum d).port.state ∧
    ((settleStandby d s).drum d).port.readings = (s.drum d).port.readings ∧
    ((settleStandby d s).drum d).port.presence = (s.drum d).port.presence ∧
    ((settleStandby d s).drum d).port.hold = (s.drum d).port.hold ∧
    ((settleStandby d s).drum d).port.grace = (s.drum d).port.grace ∧
    ((settleStandby d s).drum d).port.image = (s.drum d).port.image ∧
    ((settleStandby d s).drum d).cycle = (s.drum d).cycle ∧ ((settleStandby d s).drum d).tumble = (s.drum d).tumble ∧
    ((settleStandby d s).drum d).tangle = (s.drum d).tangle ∧
    ((settleStandby d s).drum d).burner = (s.drum d).burner ∧
    ((settleStandby d s).drum d).dryness = (s.drum d).dryness ∧ (settleStandby d s).flight.events = s.flight.events ∧
    (settleStandby d s).flight.increments = s.flight.increments ∧
    (settleStandby d s).flight.demands = s.flight.demands := by
  refine ⟨?_, ?_, ?_, ?_, ?_, ?_, ?_, ?_, ?_, ?_, ?_, ?_, ?_, ?_⟩ <;> (unfold settleStandby; (try dsimp only); (repeat' split) <;> simp)

@[simp] theorem keeps_reloadStandby (d : Drum) (s : State) :
    ((reloadStandby d s).drum d).port.state = (s.drum d).port.state ∧
    ((reloadStandby d s).drum d).port.readings = (s.drum d).port.readings ∧
    ((reloadStandby d s).drum d).port.presence = (s.drum d).port.presence ∧
    ((reloadStandby d s).drum d).port.hold = (s.drum d).port.hold ∧
    ((reloadStandby d s).drum d).port.grace = (s.drum d).port.grace ∧
    ((reloadStandby d s).drum d).port.image = (s.drum d).port.image ∧
    ((reloadStandby d s).drum d).cycle = (s.drum d).cycle ∧ ((reloadStandby d s).drum d).tumble = (s.drum d).tumble ∧
    ((reloadStandby d s).drum d).tangle = (s.drum d).tangle ∧
    ((reloadStandby d s).drum d).burner = (s.drum d).burner ∧
    ((reloadStandby d s).drum d).dryness = (s.drum d).dryness ∧ (reloadStandby d s).flight.events = s.flight.events ∧
    (reloadStandby d s).flight.increments = s.flight.increments ∧
    (reloadStandby d s).flight.demands = s.flight.demands := by
  refine ⟨?_, ?_, ?_, ?_, ?_, ?_, ?_, ?_, ?_, ?_, ?_, ?_, ?_, ?_⟩ <;> (unfold reloadStandby; (try dsimp only); (repeat' split) <;> simp)

@[simp] theorem keeps_burnerUpdate (d : Drum) (s : State) :
    ((burnerUpdate d s).drum d).port.state = (s.drum d).port.state ∧
    ((burnerUpdate d s).drum d).port.readings = (s.drum d).port.readings ∧
    ((burnerUpdate d s).drum d).port.presence = (s.drum d).port.presence ∧
    ((burnerUpdate d s).drum d).port.hold = (s.drum d).port.hold ∧
    ((burnerUpdate d s).drum d).port.grace = (s.drum d).port.grace ∧
    ((burnerUpdate d s).drum d).port.image.drive = (s.drum d).port.image.drive ∧
    ((burnerUpdate d s).drum d).port.image.resetLockout = (s.drum d).port.image.resetLockout ∧
    ((burnerUpdate d s).drum d).port.image.fan = (s.drum d).port.image.fan ∧
    ((burnerUpdate d s).drum d).cycle = (s.drum d).cycle ∧ ((burnerUpdate d s).drum d).tumble = (s.drum d).tumble ∧
    ((burnerUpdate d s).drum d).tangle = (s.drum d).tangle ∧
    ((burnerUpdate d s).drum d).dryness = (s.drum d).dryness := by
  refine ⟨?_, ?_, ?_, ?_, ?_, ?_, ?_, ?_, ?_, ?_, ?_, ?_⟩ <;> (unfold burnerUpdate; (try dsimp only); (repeat' split) <;> simp)

@[simp] theorem keeps_setWanted (d : Drum) (w : Nat) (s : State) :
    ((setWanted d w s).drum d).port.state = (s.drum d).port.state ∧
    ((setWanted d w s).drum d).port.readings = (s.drum d).port.readings ∧
    ((setWanted d w s).drum d).port.presence = (s.drum d).port.presence ∧
    ((setWanted d w s).drum d).port.hold = (s.drum d).port.hold ∧
    ((setWanted d w s).drum d).port.grace = (s.drum d).port.grace ∧
    ((setWanted d w s).drum d).port.image.drive = (s.drum d).port.image.drive ∧
    ((setWanted d w s).drum d).port.image.resetLockout = (s.drum d).port.image.resetLockout ∧
    ((setWanted d w s).drum d).port.image.fan = (s.drum d).port.image.fan ∧
    ((setWanted d w s).drum d).cycle = (s.drum d).cycle ∧ ((setWanted d w s).drum d).tumble = (s.drum d).tumble ∧
    ((setWanted d w s).drum d).tangle = (s.drum d).tangle ∧
    ((setWanted d w s).drum d).dryness = (s.drum d).dryness := by
  refine ⟨?_, ?_, ?_, ?_, ?_, ?_, ?_, ?_, ?_, ?_, ?_, ?_⟩ <;> (unfold setWanted; (try dsimp only); (repeat' split) <;> simp)

@[simp] theorem keeps_setReading (d : Drum) (x : Discrete) (v : Bool) (s : State) :
    ((setReading d x v s).drum d).port.state = (s.drum d).port.state ∧
    ((setReading d x v s).drum d).port.presence = (s.drum d).port.presence ∧
    ((setReading d x v s).drum d).port.hold = (s.drum d).port.hold ∧
    ((setReading d x v s).drum d).port.grace = (s.drum d).port.grace ∧
    ((setReading d x v s).drum d).port.image.drive = (s.drum d).port.image.drive ∧
    ((setReading d x v s).drum d).port.image.resetLockout = (s.drum d).port.image.resetLockout ∧
    ((setReading d x v s).drum d).port.image.fan = (s.drum d).port.image.fan ∧
    ((setReading d x v s).drum d).cycle = (s.drum d).cycle ∧
    ((setReading d x v s).drum d).tumble = (s.drum d).tumble ∧
    ((setReading d x v s).drum d).tangle = (s.drum d).tangle ∧
    ((setReading d x v s).drum d).dryness = (s.drum d).dryness := by
  refine ⟨?_, ?_, ?_, ?_, ?_, ?_, ?_, ?_, ?_, ?_, ?_⟩ <;> (unfold setReading; (try dsimp only); (repeat' split) <;> simp)

@[simp] theorem keeps_setRest (d : Drum) (v : Bool) (s : State) :
    ((setRest d v s).drum d).port.state = (s.drum d).port.state ∧
    ((setRest d v s).drum d).port.readings = (s.drum d).port.readings ∧
    ((setRest d v s).drum d).port.presence = (s.drum d).port.presence ∧
    ((setRest d v s).drum d).port.hold = (s.drum d).port.hold ∧
    ((setRest d v s).drum d).port.grace = (s.drum d).port.grace ∧
    ((setRest d v s).drum d).port.image.drive = (s.drum d).port.image.drive ∧
    ((setRest d v s).drum d).port.image.resetLockout = (s.drum d).port.image.resetLockout ∧
    ((setRest d v s).drum d).port.image.fan = (s.drum d).port.image.fan ∧
    ((setRest d v s).drum d).cycle = (s.drum d).cycle ∧ ((setRest d v s).drum d).tumble = (s.drum d).tumble ∧
    ((setRest d v s).drum d).tangle = (s.drum d).tangle ∧ ((setRest d v s).drum d).dryness = (s.drum d).dryness := by
  refine ⟨?_, ?_, ?_, ?_, ?_, ?_, ?_, ?_, ?_, ?_, ?_, ?_⟩ <;> (unfold setRest; (try dsimp only); (repeat' split) <;> simp)

@[simp] theorem keeps_burnerNotice (d : Drum) (s : State) :
    ((burnerNotice d s).drum d).port.state = (s.drum d).port.state ∧
    ((burnerNotice d s).drum d).port.readings = (s.drum d).port.readings ∧
    ((burnerNotice d s).drum d).port.presence = (s.drum d).port.presence ∧
    ((burnerNotice d s).drum d).port.hold = (s.drum d).port.hold ∧
    ((burnerNotice d s).drum d).port.grace = (s.drum d).port.grace ∧
    ((burnerNotice d s).drum d).port.image.drive = (s.drum d).port.image.drive ∧
    ((burnerNotice d s).drum d).port.image.resetLockout = (s.drum d).port.image.resetLockout ∧
    ((burnerNotice d s).drum d).port.image.fan = (s.drum d).port.image.fan ∧
    ((burnerNotice d s).drum d).cycle = (s.drum d).cycle ∧ ((burnerNotice d s).drum d).tumble = (s.drum d).tumble ∧
    ((burnerNotice d s).drum d).tangle = (s.drum d).tangle ∧
    ((burnerNotice d s).drum d).dryness = (s.drum d).dryness := by
  refine ⟨?_, ?_, ?_, ?_, ?_, ?_, ?_, ?_, ?_, ?_, ?_, ?_⟩ <;> (unfold burnerNotice; (try dsimp only); (repeat' split) <;> simp)

@[simp] theorem keeps_leaveRun (d : Drum) (f : Tumble → Tumble) (s : State) :
    ((leaveRun d f s).drum d).port.state = (s.drum d).port.state ∧
    ((leaveRun d f s).drum d).port.readings = (s.drum d).port.readings ∧
    ((leaveRun d f s).drum d).port.presence = (s.drum d).port.presence ∧
    ((leaveRun d f s).drum d).port.hold = (s.drum d).port.hold ∧
    ((leaveRun d f s).drum d).port.grace = (s.drum d).port.grace ∧
    ((leaveRun d f s).drum d).port.image.drive = (s.drum d).port.image.drive ∧
    ((leaveRun d f s).drum d).port.image.resetLockout = (s.drum d).port.image.resetLockout ∧
    ((leaveRun d f s).drum d).port.image.fan = (s.drum d).port.image.fan ∧
    ((leaveRun d f s).drum d).cycle = (s.drum d).cycle ∧ ((leaveRun d f s).drum d).dryness = (s.drum d).dryness := by
  refine ⟨?_, ?_, ?_, ?_, ?_, ?_, ?_, ?_, ?_, ?_⟩ <;> (unfold leaveRun; (try dsimp only); (repeat' split) <;> simp)

@[simp] theorem keeps_guardTumbleDone (d : Drum) (s : State) :
    ((guardTumbleDone d s).drum d).port.state = (s.drum d).port.state ∧
    ((guardTumbleDone d s).drum d).port.readings = (s.drum d).port.readings ∧
    ((guardTumbleDone d s).drum d).port.presence = (s.drum d).port.presence ∧
    ((guardTumbleDone d s).drum d).port.hold = (s.drum d).port.hold ∧
    ((guardTumbleDone d s).drum d).port.grace = (s.drum d).port.grace ∧
    ((guardTumbleDone d s).drum d).port.image.drive = (s.drum d).port.image.drive ∧
    ((guardTumbleDone d s).drum d).port.image.flameStage = (s.drum d).port.image.flameStage ∧
    ((guardTumbleDone d s).drum d).port.image.resetLockout = (s.drum d).port.image.resetLockout ∧
    ((guardTumbleDone d s).drum d).cycle.state = (s.drum d).cycle.state ∧
    ((guardTumbleDone d s).drum d).cycle.record = (s.drum d).cycle.record ∧
    ((guardTumbleDone d s).drum d).cycle.drying = (s.drum d).cycle.drying ∧
    ((guardTumbleDone d s).drum d).cycle.cooling = (s.drum d).cycle.cooling ∧
    ((guardTumbleDone d s).drum d).cycle.reason = (s.drum d).cycle.reason ∧
    ((guardTumbleDone d s).drum d).tumble = (s.drum d).tumble ∧
    ((guardTumbleDone d s).drum d).tangle = (s.drum d).tangle ∧
    ((guardTumbleDone d s).drum d).burner = (s.drum d).burner ∧
    ((guardTumbleDone d s).drum d).dryness = (s.drum d).dryness ∧
    (guardTumbleDone d s).flight.events = s.flight.events ∧
    (guardTumbleDone d s).flight.increments = s.flight.increments ∧
    (guardTumbleDone d s).flight.demands = s.flight.demands := by
  refine ⟨?_, ?_, ?_, ?_, ?_, ?_, ?_, ?_, ?_, ?_, ?_, ?_, ?_, ?_, ?_, ?_, ?_, ?_, ?_, ?_⟩ <;> (unfold guardTumbleDone; (try dsimp only); (repeat' split) <;> simp)

@[simp] theorem keeps_enterStopped (d : Drum) (s : State) :
    ((enterStopped d s).drum d).port.state = (s.drum d).port.state ∧
    ((enterStopped d s).drum d).port.readings = (s.drum d).port.readings ∧
    ((enterStopped d s).drum d).port.presence = (s.drum d).port.presence ∧
    ((enterStopped d s).drum d).port.hold = (s.drum d).port.hold ∧
    ((enterStopped d s).drum d).port.grace = (s.drum d).port.grace ∧
    ((enterStopped d s).drum d).port.image.drive = (s.drum d).port.image.drive ∧
    ((enterStopped d s).drum d).port.image.resetLockout = (s.drum d).port.image.resetLockout ∧
    ((enterStopped d s).drum d).cycle.state = (s.drum d).cycle.state ∧
    ((enterStopped d s).drum d).cycle.record = (s.drum d).cycle.record ∧
    ((enterStopped d s).drum d).cycle.drying = (s.drum d).cycle.drying ∧
    ((enterStopped d s).drum d).cycle.cooling = (s.drum d).cycle.cooling ∧
    ((enterStopped d s).drum d).cycle.reason = (s.drum d).cycle.reason ∧
    ((enterStopped d s).drum d).dryness = (s.drum d).dryness := by
  refine ⟨?_, ?_, ?_, ?_, ?_, ?_, ?_, ?_, ?_, ?_, ?_, ?_, ?_⟩ <;> (unfold enterStopped; (try dsimp only); (repeat' split) <;> simp)

@[simp] theorem keeps_enterDecel (d : Drum) (target : Target) (s : State) :
    ((enterDecel d target s).drum d).port.state = (s.drum d).port.state ∧
    ((enterDecel d target s).drum d).port.readings = (s.drum d).port.readings ∧
    ((enterDecel d target s).drum d).port.presence = (s.drum d).port.presence ∧
    ((enterDecel d target s).drum d).port.hold = (s.drum d).port.hold ∧
    ((enterDecel d target s).drum d).port.grace = (s.drum d).port.grace ∧
    ((enterDecel d target s).drum d).port.image.resetLockout = (s.drum d).port.image.resetLockout ∧
    ((enterDecel d target s).drum d).port.image.fan = (s.drum d).port.image.fan ∧
    ((enterDecel d target s).drum d).cycle = (s.drum d).cycle ∧
    ((enterDecel d target s).drum d).dryness = (s.drum d).dryness := by
  refine ⟨?_, ?_, ?_, ?_, ?_, ?_, ?_, ?_, ?_⟩ <;> (unfold enterDecel; (try dsimp only); (repeat' split) <;> simp)

@[simp] theorem keeps_beginRun (d : Drum) (s : State) :
    ((beginRun d s).drum d).port.state = (s.drum d).port.state ∧
    ((beginRun d s).drum d).port.readings = (s.drum d).port.readings ∧
    ((beginRun d s).drum d).port.presence = (s.drum d).port.presence ∧
    ((beginRun d s).drum d).port.hold = (s.drum d).port.hold ∧
    ((beginRun d s).drum d).port.grace = (s.drum d).port.grace ∧
    ((beginRun d s).drum d).port.image.resetLockout = (s.drum d).port.image.resetLockout ∧
    ((beginRun d s).drum d).port.image.fan = (s.drum d).port.image.fan ∧
    ((beginRun d s).drum d).cycle = (s.drum d).cycle ∧
    ((beginRun d s).drum d).tumble.status = (s.drum d).tumble.status ∧
    ((beginRun d s).drum d).tumble.inForce = (s.drum d).tumble.inForce ∧
    ((beginRun d s).drum d).tumble.multiplier = (s.drum d).tumble.multiplier ∧
    ((beginRun d s).drum d).tumble.reduction = (s.drum d).tumble.reduction ∧
    ((beginRun d s).drum d).dryness.window = (s.drum d).dryness.window := by
  refine ⟨?_, ?_, ?_, ?_, ?_, ?_, ?_, ?_, ?_, ?_, ?_, ?_, ?_⟩ <;> (unfold beginRun; (try dsimp only); (repeat' split) <;> simp)

@[simp] theorem keeps_startDwell (d : Drum) (s : State) :
    ((startDwell d s).drum d).port.state = (s.drum d).port.state ∧
    ((startDwell d s).drum d).port.readings = (s.drum d).port.readings ∧
    ((startDwell d s).drum d).port.presence = (s.drum d).port.presence ∧
    ((startDwell d s).drum d).port.hold = (s.drum d).port.hold ∧
    ((startDwell d s).drum d).port.grace = (s.drum d).port.grace ∧
    ((startDwell d s).drum d).port.image.resetLockout = (s.drum d).port.image.resetLockout ∧
    ((startDwell d s).drum d).port.image.fan = (s.drum d).port.image.fan ∧
    ((startDwell d s).drum d).cycle = (s.drum d).cycle ∧
    ((startDwell d s).drum d).dryness.window = (s.drum d).dryness.window := by
  refine ⟨?_, ?_, ?_, ?_, ?_, ?_, ?_, ?_, ?_⟩ <;> (unfold startDwell; (try dsimp only); (repeat' split) <;> simp)

@[simp] theorem keeps_startFromStopped (d : Drum) (s : State) :
    ((startFromStopped d s).drum d).port.state = (s.drum d).port.state ∧
    ((startFromStopped d s).drum d).port.readings = (s.drum d).port.readings ∧
    ((startFromStopped d s).drum d).port.presence = (s.drum d).port.presence ∧
    ((startFromStopped d s).drum d).port.hold = (s.drum d).port.hold ∧
    ((startFromStopped d s).drum d).port.grace = (s.drum d).port.grace ∧
    ((startFromStopped d s).drum d).port.image.resetLockout = (s.drum d).port.image.resetLockout ∧
    ((startFromStopped d s).drum d).port.image.fan = (s.drum d).port.image.fan ∧
    ((startFromStopped d s).drum d).cycle = (s.drum d).cycle ∧
    ((startFromStopped d s).drum d).dryness.window = (s.drum d).dryness.window := by
  refine ⟨?_, ?_, ?_, ?_, ?_, ?_, ?_, ?_, ?_⟩ <;> (unfold startFromStopped; (try dsimp only); (repeat' split) <;> simp)

@[simp] theorem keeps_setTarget (d : Drum) (target : Target) (s : State) :
    ((setTarget d target s).drum d).port = (s.drum d).port ∧
    ((setTarget d target s).drum d).cycle = (s.drum d).cycle ∧
    ((setTarget d target s).drum d).tumble.state = (s.drum d).tumble.state ∧
    ((setTarget d target s).drum d).tumble.status = (s.drum d).tumble.status ∧
    ((setTarget d target s).drum d).tumble.inForce = (s.drum d).tumble.inForce ∧
    ((setTarget d target s).drum d).tumble.lastDir = (s.drum d).tumble.lastDir ∧
    ((setTarget d target s).drum d).tumble.multiplier = (s.drum d).tumble.multiplier ∧
    ((setTarget d target s).drum d).tumble.reduction = (s.drum d).tumble.reduction ∧
    ((setTarget d target s).drum d).tangle = (s.drum d).tangle ∧
    ((setTarget d target s).drum d).burner = (s.drum d).burner ∧
    ((setTarget d target s).drum d).dryness = (s.drum d).dryness ∧
    (setTarget d target s).flight.events = s.flight.events ∧
    (setTarget d target s).flight.increments = s.flight.increments ∧
    (setTarget d target s).flight.demands = s.flight.demands := by
  refine ⟨?_, ?_, ?_, ?_, ?_, ?_, ?_, ?_, ?_, ?_, ?_, ?_, ?_, ?_⟩ <;> (unfold setTarget; (try dsimp only); (repeat' split) <;> simp)

@[simp] theorem keeps_firstStart (d : Drum) (n : Nat) (s : State) :
    ((firstStart d n s).drum d).port = (s.drum d).port ∧
    ((firstStart d n s).drum d).cycle = (s.drum d).cycle ∧
    ((firstStart d n s).drum d).tumble.target = (s.drum d).tumble.target ∧
    ((firstStart d n s).drum d).tumble.stalls = (s.drum d).tumble.stalls ∧
    ((firstStart d n s).drum d).tumble.guardLength = (s.drum d).tumble.guardLength ∧
    ((firstStart d n s).drum d).tumble.state = (s.drum d).tumble.state ∧
    ((firstStart d n s).drum d).tumble.status = (s.drum d).tumble.status ∧
    ((firstStart d n s).drum d).tumble.inForce = (s.drum d).tumble.inForce ∧
    ((firstStart d n s).drum d).tumble.lastDir = (s.drum d).tumble.lastDir ∧
    ((firstStart d n s).drum d).tumble.multiplier = (s.drum d).tumble.multiplier ∧
    ((firstStart d n s).drum d).tumble.reduction = (s.drum d).tumble.reduction ∧
    ((firstStart d n s).drum d).tangle = (s.drum d).tangle ∧
    ((firstStart d n s).drum d).burner = (s.drum d).burner ∧
    ((firstStart d n s).drum d).dryness = (s.drum d).dryness ∧
    (firstStart d n s).flight.events = s.flight.events ∧
    (firstStart d n s).flight.increments = s.flight.increments ∧
    (firstStart d n s).flight.demands = s.flight.demands := by
  refine ⟨?_, ?_, ?_, ?_, ?_, ?_, ?_, ?_, ?_, ?_, ?_, ?_, ?_, ?_, ?_, ?_, ?_⟩ <;> (unfold firstStart; (try dsimp only); (repeat' split) <;> simp)

@[simp] theorem keeps_tumbleStart (d : Drum) (n : Nat) (s : State) :
    ((tumbleStart d n s).drum d).port.state = (s.drum d).port.state ∧
    ((tumbleStart d n s).drum d).port.readings = (s.drum d).port.readings ∧
    ((tumbleStart d n s).drum d).port.presence = (s.drum d).port.presence ∧
    ((tumbleStart d n s).drum d).port.hold = (s.drum d).port.hold ∧
    ((tumbleStart d n s).drum d).port.grace = (s.drum d).port.grace ∧
    ((tumbleStart d n s).drum d).port.image.resetLockout = (s.drum d).port.image.resetLockout ∧
    ((tumbleStart d n s).drum d).port.image.fan = (s.drum d).port.image.fan ∧
    ((tumbleStart d n s).drum d).cycle = (s.drum d).cycle ∧
    ((tumbleStart d n s).drum d).dryness.window = (s.drum d).dryness.window := by
  refine ⟨?_, ?_, ?_, ?_, ?_, ?_, ?_, ?_, ?_⟩ <;> (unfold tumbleStart; (try dsimp only); (repeat' split) <;> simp)

@[simp] theorem keeps_tumbleHold (d : Drum) (s : State) :
    ((tumbleHold d s).drum d).port.state = (s.drum d).port.state ∧
    ((tumbleHold d s).drum d).port.readings = (s.drum d).port.readings ∧
    ((tumbleHold d s).drum d).port.presence = (s.drum d).port.presence ∧
    ((tumbleHold d s).drum d).port.hold = (s.drum d).port.hold ∧
    ((tumbleHold d s).drum d).port.grace = (s.drum d).port.grace ∧
    ((tumbleHold d s).drum d).port.image.resetLockout = (s.drum d).port.image.resetLockout ∧
    ((tumbleHold d s).drum d).cycle.state = (s.drum d).cycle.state ∧
    ((tumbleHold d s).drum d).cycle.record = (s.drum d).cycle.record ∧
    ((tumbleHold d s).drum d).cycle.drying = (s.drum d).cycle.drying ∧
    ((tumbleHold d s).drum d).cycle.cooling = (s.drum d).cycle.cooling ∧
    ((tumbleHold d s).drum d).cycle.reason = (s.drum d).cycle.reason ∧
    ((tumbleHold d s).drum d).dryness = (s.drum d).dryness := by
  refine ⟨?_, ?_, ?_, ?_, ?_, ?_, ?_, ?_, ?_, ?_, ?_, ?_⟩ <;> (unfold tumbleHold; (try dsimp only); (repeat' split) <;> simp)

@[simp] theorem keeps_clearPersistence (d : Drum) (s : State) :
    ((clearPersistence d s).drum d).port = (s.drum d).port ∧
    ((clearPersistence d s).drum d).cycle = (s.drum d).cycle ∧
    ((clearPersistence d s).drum d).tumble.state = (s.drum d).tumble.state ∧
    ((clearPersistence d s).drum d).tumble.status = (s.drum d).tumble.status ∧
    ((clearPersistence d s).drum d).tumble.inForce = (s.drum d).tumble.inForce ∧
    ((clearPersistence d s).drum d).tumble.lastDir = (s.drum d).tumble.lastDir ∧
    ((clearPersistence d s).drum d).burner = (s.drum d).burner ∧
    ((clearPersistence d s).drum d).dryness = (s.drum d).dryness ∧
    (clearPersistence d s).flight.events = s.flight.events ∧
    (clearPersistence d s).flight.increments = s.flight.increments ∧
    (clearPersistence d s).flight.demands = s.flight.demands := by
  refine ⟨?_, ?_, ?_, ?_, ?_, ?_, ?_, ?_, ?_, ?_, ?_⟩ <;> (unfold clearPersistence; (try dsimp only); (repeat' split) <;> simp)

@[simp] theorem keeps_tumbleStop (d : Drum) (s : State) :
    ((tumbleStop d s).drum d).port.state = (s.drum d).port.state ∧
    ((tumbleStop d s).drum d).port.readings = (s.drum d).port.readings ∧
    ((tumbleStop d s).drum d).port.presence = (s.drum d).port.presence ∧
    ((tumbleStop d s).drum d).port.hold = (s.drum d).port.hold ∧
    ((tumbleStop d s).drum d).port.grace = (s.drum d).port.grace ∧
    ((tumbleStop d s).drum d).port.image.resetLockout = (s.drum d).port.image.resetLockout ∧
    ((tumbleStop d s).drum d).cycle.state = (s.drum d).cycle.state ∧
    ((tumbleStop d s).drum d).cycle.record = (s.drum d).cycle.record ∧
    ((tumbleStop d s).drum d).cycle.drying = (s.drum d).cycle.drying ∧
    ((tumbleStop d s).drum d).cycle.cooling = (s.drum d).cycle.cooling ∧
    ((tumbleStop d s).drum d).cycle.reason = (s.drum d).cycle.reason ∧
    ((tumbleStop d s).drum d).dryness = (s.drum d).dryness := by
  refine ⟨?_, ?_, ?_, ?_, ?_, ?_, ?_, ?_, ?_, ?_, ?_, ?_⟩ <;> (unfold tumbleStop; (try dsimp only); (repeat' split) <;> simp)

@[simp] theorem keeps_tumbleGuard (d : Drum) (n : Nat) (s : State) :
    ((tumbleGuard d n s).drum d).port.state = (s.drum d).port.state ∧
    ((tumbleGuard d n s).drum d).port.readings = (s.drum d).port.readings ∧
    ((tumbleGuard d n s).drum d).port.presence = (s.drum d).port.presence ∧
    ((tumbleGuard d n s).drum d).port.hold = (s.drum d).port.hold ∧
    ((tumbleGuard d n s).drum d).port.grace = (s.drum d).port.grace ∧
    ((tumbleGuard d n s).drum d).port.image.resetLockout = (s.drum d).port.image.resetLockout ∧
    ((tumbleGuard d n s).drum d).port.image.fan = (s.drum d).port.image.fan ∧
    ((tumbleGuard d n s).drum d).cycle = (s.drum d).cycle ∧
    ((tumbleGuard d n s).drum d).dryness.window = (s.drum d).dryness.window := by
  refine ⟨?_, ?_, ?_, ?_, ?_, ?_, ?_, ?_, ?_⟩ <;> (unfold tumbleGuard; (try dsimp only); (repeat' split) <;> simp)

@[simp] theorem keeps_endNormalRun (d : Drum) (s : State) :
    ((endNormalRun d s).drum d).port.state = (s.drum d).port.state ∧
    ((endNormalRun d s).drum d).port.readings = (s.drum d).port.readings ∧
    ((endNormalRun d s).drum d).port.presence = (s.drum d).port.presence ∧
    ((endNormalRun d s).drum d).port.hold = (s.drum d).port.hold ∧
    ((endNormalRun d s).drum d).port.grace = (s.drum d).port.grace ∧
    ((endNormalRun d s).drum d).port.image.resetLockout = (s.drum d).port.image.resetLockout ∧
    ((endNormalRun d s).drum d).port.image.fan = (s.drum d).port.image.fan ∧
    ((endNormalRun d s).drum d).cycle = (s.drum d).cycle ∧
    ((endNormalRun d s).drum d).dryness = (s.drum d).dryness := by
  refine ⟨?_, ?_, ?_, ?_, ?_, ?_, ?_, ?_, ?_⟩ <;> (unfold endNormalRun; (try dsimp only); (repeat' split) <;> simp)

@[simp] theorem keeps_applyPersistence (d : Drum) (s : State) :
    ((applyPersistence d s).drum d).port = (s.drum d).port ∧
    ((applyPersistence d s).drum d).cycle = (s.drum d).cycle ∧
    ((applyPersistence d s).drum d).burner = (s.drum d).burner ∧
    ((applyPersistence d s).drum d).dryness = (s.drum d).dryness := by
  refine ⟨?_, ?_, ?_, ?_⟩ <;> (unfold applyPersistence; (try dsimp only); (repeat' split) <;> simp)

@[simp] theorem keeps_endEarlyRun (d : Drum) (s : State) :
    ((endEarlyRun d s).drum d).port.state = (s.drum d).port.state ∧
    ((endEarlyRun d s).drum d).port.readings = (s.drum d).port.readings ∧
    ((endEarlyRun d s).drum d).port.presence = (s.drum d).port.presence ∧
    ((endEarlyRun d s).drum d).port.hold = (s.drum d).port.hold ∧
    ((endEarlyRun d s).drum d).port.grace = (s.drum d).port.grace ∧
    ((endEarlyRun d s).drum d).port.image.resetLockout = (s.drum d).port.image.resetLockout ∧
    ((endEarlyRun d s).drum d).port.image.fan = (s.drum d).port.image.fan ∧
    ((endEarlyRun d s).drum d).cycle = (s.drum d).cycle ∧
    ((endEarlyRun d s).drum d).dryness = (s.drum d).dryness := by
  refine ⟨?_, ?_, ?_, ?_, ?_, ?_, ?_, ?_, ?_⟩ <;> (unfold endEarlyRun; (try dsimp only); (repeat' split) <;> simp)

@[simp] theorem keeps_reachTarget (d : Drum) (s : State) :
    ((reachTarget d s).drum d).port.state = (s.drum d).port.state ∧
    ((reachTarget d s).drum d).port.readings = (s.drum d).port.readings ∧
    ((reachTarget d s).drum d).port.presence = (s.drum d).port.presence ∧
    ((reachTarget d s).drum d).port.hold = (s.drum d).port.hold ∧
    ((reachTarget d s).drum d).port.grace = (s.drum d).port.grace ∧
    ((reachTarget d s).drum d).port.image.resetLockout = (s.drum d).port.image.resetLockout ∧
    ((reachTarget d s).drum d).cycle.state = (s.drum d).cycle.state ∧
    ((reachTarget d s).drum d).cycle.record = (s.drum d).cycle.record ∧
    ((reachTarget d s).drum d).cycle.drying = (s.drum d).cycle.drying ∧
    ((reachTarget d s).drum d).cycle.cooling = (s.drum d).cycle.cooling ∧
    ((reachTarget d s).drum d).cycle.reason = (s.drum d).cycle.reason ∧
    ((reachTarget d s).drum d).dryness.window = (s.drum d).dryness.window := by
  refine ⟨?_, ?_, ?_, ?_, ?_, ?_, ?_, ?_, ?_, ?_, ?_, ?_⟩ <;> (unfold reachTarget; (try dsimp only); (repeat' split) <;> simp)

@[simp] theorem keeps_recoverConfirmed (d : Drum) (s : State) :
    ((recoverConfirmed d s).drum d).port.state = (s.drum d).port.state ∧
    ((recoverConfirmed d s).drum d).port.readings = (s.drum d).port.readings ∧
    ((recoverConfirmed d s).drum d).port.presence = (s.drum d).port.presence ∧
    ((recoverConfirmed d s).drum d).port.hold = (s.drum d).port.hold ∧
    ((recoverConfirmed d s).drum d).port.grace = (s.drum d).port.grace ∧
    ((recoverConfirmed d s).drum d).port.image.drive = (s.drum d).port.image.drive ∧
    ((recoverConfirmed d s).drum d).port.image.resetLockout = (s.drum d).port.image.resetLockout ∧
    ((recoverConfirmed d s).drum d).cycle.state = (s.drum d).cycle.state ∧
    ((recoverConfirmed d s).drum d).cycle.record = (s.drum d).cycle.record ∧
    ((recoverConfirmed d s).drum d).cycle.drying = (s.drum d).cycle.drying ∧
    ((recoverConfirmed d s).drum d).cycle.cooling = (s.drum d).cycle.cooling ∧
    ((recoverConfirmed d s).drum d).cycle.reason = (s.drum d).cycle.reason ∧
    ((recoverConfirmed d s).drum d).dryness = (s.drum d).dryness := by
  refine ⟨?_, ?_, ?_, ?_, ?_, ?_, ?_, ?_, ?_, ?_, ?_, ?_, ?_⟩ <;> (unfold recoverConfirmed; (try dsimp only); (repeat' split) <;> simp)

@[simp] theorem keeps_tumbleNotice (d : Drum) (s : State) :
    ((tumbleNotice d s).drum d).port.state = (s.drum d).port.state ∧
    ((tumbleNotice d s).drum d).port.readings = (s.drum d).port.readings ∧
    ((tumbleNotice d s).drum d).port.presence = (s.drum d).port.presence ∧
    ((tumbleNotice d s).drum d).port.hold = (s.drum d).port.hold ∧
    ((tumbleNotice d s).drum d).port.grace = (s.drum d).port.grace ∧
    ((tumbleNotice d s).drum d).port.image.resetLockout = (s.drum d).port.image.resetLockout ∧
    ((tumbleNotice d s).drum d).port.image.fan = (s.drum d).port.image.fan ∧
    ((tumbleNotice d s).drum d).cycle = (s.drum d).cycle ∧
    ((tumbleNotice d s).drum d).dryness = (s.drum d).dryness := by
  refine ⟨?_, ?_, ?_, ?_, ?_, ?_, ?_, ?_, ?_⟩ <;> (unfold tumbleNotice; (try dsimp only); (repeat' split) <;> simp)

@[simp] theorem keeps_linkLostNotice (d : Drum) (s : State) :
    ((linkLostNotice d s).drum d).port.state = (s.drum d).port.state ∧
    ((linkLostNotice d s).drum d).port.readings = (s.drum d).port.readings ∧
    ((linkLostNotice d s).drum d).port.presence = (s.drum d).port.presence ∧
    ((linkLostNotice d s).drum d).port.hold = (s.drum d).port.hold ∧
    ((linkLostNotice d s).drum d).port.grace = (s.drum d).port.grace ∧
    ((linkLostNotice d s).drum d).port.image.resetLockout = (s.drum d).port.image.resetLockout ∧
    ((linkLostNotice d s).drum d).port.image.fan = (s.drum d).port.image.fan ∧
    ((linkLostNotice d s).drum d).cycle = (s.drum d).cycle ∧
    ((linkLostNotice d s).drum d).dryness = (s.drum d).dryness := by
  refine ⟨?_, ?_, ?_, ?_, ?_, ?_, ?_, ?_, ?_⟩ <;> (unfold linkLostNotice; (try dsimp only); (repeat' split) <;> simp)

@[simp] theorem keeps_tumbleReset (d : Drum) (s : State) :
    ((tumbleReset d s).drum d).port.state = (s.drum d).port.state ∧
    ((tumbleReset d s).drum d).port.readings = (s.drum d).port.readings ∧
    ((tumbleReset d s).drum d).port.presence = (s.drum d).port.presence ∧
    ((tumbleReset d s).drum d).port.hold = (s.drum d).port.hold ∧
    ((tumbleReset d s).drum d).port.grace = (s.drum d).port.grace ∧
    ((tumbleReset d s).drum d).port.image.resetLockout = (s.drum d).port.image.resetLockout ∧
    ((tumbleReset d s).drum d).port.image.fan = (s.drum d).port.image.fan ∧
    ((tumbleReset d s).drum d).cycle = (s.drum d).cycle ∧
    ((tumbleReset d s).drum d).dryness = (s.drum d).dryness := by
  refine ⟨?_, ?_, ?_, ?_, ?_, ?_, ?_, ?_, ?_⟩ <;> (unfold tumbleReset; (try dsimp only); (repeat' split) <;> simp)

@[simp] theorem keeps_setCycle (d : Drum) (new : CycleState) (f : Cycle → Cycle) (s : State) :
    ((setCycle d new f s).drum d).port.state = (s.drum d).port.state ∧
    ((setCycle d new f s).drum d).port.readings = (s.drum d).port.readings ∧
    ((setCycle d new f s).drum d).port.presence = (s.drum d).port.presence ∧
    ((setCycle d new f s).drum d).port.hold = (s.drum d).port.hold ∧
    ((setCycle d new f s).drum d).port.grace = (s.drum d).port.grace ∧
    ((setCycle d new f s).drum d).port.image.drive = (s.drum d).port.image.drive ∧
    ((setCycle d new f s).drum d).port.image.resetLockout = (s.drum d).port.image.resetLockout ∧
    ((setCycle d new f s).drum d).tumble.state = (s.drum d).tumble.state ∧
    ((setCycle d new f s).drum d).tumble.status = (s.drum d).tumble.status ∧
    ((setCycle d new f s).drum d).tumble.inForce = (s.drum d).tumble.inForce ∧
    ((setCycle d new f s).drum d).tumble.lastDir = (s.drum d).tumble.lastDir ∧
    ((setCycle d new f s).drum d).tumble.multiplier = (s.drum d).tumble.multiplier ∧
    ((setCycle d new f s).drum d).tumble.reduction = (s.drum d).tumble.reduction ∧
    ((setCycle d new f s).drum d).tangle = (s.drum d).tangle := by
  refine ⟨?_, ?_, ?_, ?_, ?_, ?_, ?_, ?_, ?_, ?_, ?_, ?_, ?_, ?_⟩ <;> (unfold setCycle; (try dsimp only); (repeat' split) <;> simp)

@[simp] theorem keeps_enterDone (d : Drum) (s : State) :
    ((enterDone d s).drum d).port.state = (s.drum d).port.state ∧
    ((enterDone d s).drum d).port.readings = (s.drum d).port.readings ∧
    ((enterDone d s).drum d).port.presence = (s.drum d).port.presence ∧
    ((enterDone d s).drum d).port.hold = (s.drum d).port.hold ∧
    ((enterDone d s).drum d).port.grace = (s.drum d).port.grace ∧
    ((enterDone d s).drum d).port.image.resetLockout = (s.drum d).port.image.resetLockout := by
  refine ⟨?_, ?_, ?_, ?_, ?_, ?_⟩ <;> (unfold enterDone; (try dsimp only); (repeat' split) <;> simp)

@[simp] theorem keeps_cycleHalt (d : Drum) (c : HaltCause) (s : State) :
    ((cycleHalt d c s).drum d).port.state = (s.drum d).port.state ∧
    ((cycleHalt d c s).drum d).port.readings = (s.drum d).port.readings ∧
    ((cycleHalt d c s).drum d).port.presence = (s.drum d).port.presence ∧
    ((cycleHalt d c s).drum d).port.hold = (s.drum d).port.hold ∧
    ((cycleHalt d c s).drum d).port.grace = (s.drum d).port.grace ∧
    ((cycleHalt d c s).drum d).port.image.resetLockout = (s.drum d).port.image.resetLockout := by
  refine ⟨?_, ?_, ?_, ?_, ?_, ?_⟩ <;> (unfold cycleHalt; (try dsimp only); (repeat' split) <;> simp)

@[simp] theorem keeps_enterVacant (d : Drum) (s : State) :
    ((enterVacant d s).drum d).port.state = (s.drum d).port.state ∧
    ((enterVacant d s).drum d).port.readings = (s.drum d).port.readings ∧
    ((enterVacant d s).drum d).port.presence = (s.drum d).port.presence ∧
    ((enterVacant d s).drum d).port.hold = (s.drum d).port.hold ∧
    ((enterVacant d s).drum d).port.grace = (s.drum d).port.grace ∧
    ((enterVacant d s).drum d).port.image.drive = (s.drum d).port.image.drive ∧
    ((enterVacant d s).drum d).port.image.resetLockout = (s.drum d).port.image.resetLockout ∧
    ((enterVacant d s).drum d).tumble.state = (s.drum d).tumble.state ∧
    ((enterVacant d s).drum d).tumble.status = (s.drum d).tumble.status ∧
    ((enterVacant d s).drum d).tumble.inForce = (s.drum d).tumble.inForce ∧
    ((enterVacant d s).drum d).tumble.lastDir = (s.drum d).tumble.lastDir ∧
    ((enterVacant d s).drum d).tumble.multiplier = (s.drum d).tumble.multiplier ∧
    ((enterVacant d s).drum d).tumble.reduction = (s.drum d).tumble.reduction ∧
    ((enterVacant d s).drum d).tangle = (s.drum d).tangle := by
  refine ⟨?_, ?_, ?_, ?_, ?_, ?_, ?_, ?_, ?_, ?_, ?_, ?_, ?_, ?_⟩ <;> (unfold enterVacant; (try dsimp only); (repeat' split) <;> simp)

@[simp] theorem keeps_pauseCycle (d : Drum) (c : PauseCause) (s : State) :
    ((pauseCycle d c s).drum d).port.state = (s.drum d).port.state ∧
    ((pauseCycle d c s).drum d).port.readings = (s.drum d).port.readings ∧
    ((pauseCycle d c s).drum d).port.presence = (s.drum d).port.presence ∧
    ((pauseCycle d c s).drum d).port.hold = (s.drum d).port.hold ∧
    ((pauseCycle d c s).drum d).port.grace = (s.drum d).port.grace ∧
    ((pauseCycle d c s).drum d).port.image.resetLockout = (s.drum d).port.image.resetLockout := by
  refine ⟨?_, ?_, ?_, ?_, ?_, ?_⟩ <;> (unfold pauseCycle; (try dsimp only); (repeat' split) <;> simp)

@[simp] theorem keeps_joinCause (d : Drum) (c : PauseCause) (s : State) :
    ((joinCause d c s).drum d).port = (s.drum d).port ∧ ((joinCause d c s).drum d).tumble = (s.drum d).tumble ∧
    ((joinCause d c s).drum d).tangle = (s.drum d).tangle ∧ ((joinCause d c s).drum d).burner = (s.drum d).burner ∧
    ((joinCause d c s).drum d).dryness = (s.drum d).dryness ∧ (joinCause d c s).flight.events = s.flight.events ∧
    (joinCause d c s).flight.increments = s.flight.increments ∧
    (joinCause d c s).flight.demands = s.flight.demands := by
  refine ⟨?_, ?_, ?_, ?_, ?_, ?_, ?_, ?_⟩ <;> (unfold joinCause; (try dsimp only); (repeat' split) <;> simp)

@[simp] theorem keeps_pauseOrJoin (d : Drum) (c : PauseCause) (s : State) :
    ((pauseOrJoin d c s).drum d).port.state = (s.drum d).port.state ∧
    ((pauseOrJoin d c s).drum d).port.readings = (s.drum d).port.readings ∧
    ((pauseOrJoin d c s).drum d).port.presence = (s.drum d).port.presence ∧
    ((pauseOrJoin d c s).drum d).port.hold = (s.drum d).port.hold ∧
    ((pauseOrJoin d c s).drum d).port.grace = (s.drum d).port.grace ∧
    ((pauseOrJoin d c s).drum d).port.image.resetLockout = (s.drum d).port.image.resetLockout := by
  refine ⟨?_, ?_, ?_, ?_, ?_, ?_⟩ <;> (unfold pauseOrJoin; (try dsimp only); (repeat' split) <;> simp)

@[simp] theorem keeps_enterPurge (d : Drum) (target : Option Phase) (f : Cycle → Cycle) (s : State) :
    ((enterPurge d target f s).drum d).port.state = (s.drum d).port.state ∧
    ((enterPurge d target f s).drum d).port.readings = (s.drum d).port.readings ∧
    ((enterPurge d target f s).drum d).port.presence = (s.drum d).port.presence ∧
    ((enterPurge d target f s).drum d).port.hold = (s.drum d).port.hold ∧
    ((enterPurge d target f s).drum d).port.grace = (s.drum d).port.grace ∧
    ((enterPurge d target f s).drum d).port.image.drive = (s.drum d).port.image.drive ∧
    ((enterPurge d target f s).drum d).port.image.resetLockout = (s.drum d).port.image.resetLockout ∧
    ((enterPurge d target f s).drum d).tumble.state = (s.drum d).tumble.state ∧
    ((enterPurge d target f s).drum d).tumble.status = (s.drum d).tumble.status ∧
    ((enterPurge d target f s).drum d).tumble.inForce = (s.drum d).tumble.inForce ∧
    ((enterPurge d target f s).drum d).tumble.lastDir = (s.drum d).tumble.lastDir ∧
    ((enterPurge d target f s).drum d).tumble.multiplier = (s.drum d).tumble.multiplier ∧
    ((enterPurge d target f s).drum d).tumble.reduction = (s.drum d).tumble.reduction ∧
    ((enterPurge d target f s).drum d).tangle = (s.drum d).tangle := by
  refine ⟨?_, ?_, ?_, ?_, ?_, ?_, ?_, ?_, ?_, ?_, ?_, ?_, ?_, ?_⟩ <;> (unfold enterPurge; (try dsimp only); (repeat' split) <;> simp)

@[simp] theorem keeps_startCooling (d : Drum) (r : Reason) (s : State) :
    ((startCooling d r s).drum d).port.state = (s.drum d).port.state ∧
    ((startCooling d r s).drum d).port.readings = (s.drum d).port.readings ∧
    ((startCooling d r s).drum d).port.presence = (s.drum d).port.presence ∧
    ((startCooling d r s).drum d).port.hold = (s.drum d).port.hold ∧
    ((startCooling d r s).drum d).port.grace = (s.drum d).port.grace ∧
    ((startCooling d r s).drum d).port.image.drive = (s.drum d).port.image.drive ∧
    ((startCooling d r s).drum d).port.image.resetLockout = (s.drum d).port.image.resetLockout ∧
    ((startCooling d r s).drum d).tumble.state = (s.drum d).tumble.state ∧
    ((startCooling d r s).drum d).tumble.status = (s.drum d).tumble.status ∧
    ((startCooling d r s).drum d).tumble.inForce = (s.drum d).tumble.inForce ∧
    ((startCooling d r s).drum d).tumble.lastDir = (s.drum d).tumble.lastDir ∧
    ((startCooling d r s).drum d).tumble.multiplier = (s.drum d).tumble.multiplier ∧
    ((startCooling d r s).drum d).tumble.reduction = (s.drum d).tumble.reduction ∧
    ((startCooling d r s).drum d).tangle = (s.drum d).tangle := by
  refine ⟨?_, ?_, ?_, ?_, ?_, ?_, ?_, ?_, ?_, ?_, ?_, ?_, ?_, ?_⟩ <;> (unfold startCooling; (try dsimp only); (repeat' split) <;> simp)

@[simp] theorem keeps_heatEnd (d : Drum) (r : Reason) (s : State) :
    ((heatEnd d r s).drum d).port.state = (s.drum d).port.state ∧
    ((heatEnd d r s).drum d).port.readings = (s.drum d).port.readings ∧
    ((heatEnd d r s).drum d).port.presence = (s.drum d).port.presence ∧
    ((heatEnd d r s).drum d).port.hold = (s.drum d).port.hold ∧
    ((heatEnd d r s).drum d).port.grace = (s.drum d).port.grace ∧
    ((heatEnd d r s).drum d).port.image.drive = (s.drum d).port.image.drive ∧
    ((heatEnd d r s).drum d).port.image.resetLockout = (s.drum d).port.image.resetLockout ∧
    ((heatEnd d r s).drum d).tumble.state = (s.drum d).tumble.state ∧
    ((heatEnd d r s).drum d).tumble.status = (s.drum d).tumble.status ∧
    ((heatEnd d r s).drum d).tumble.inForce = (s.drum d).tumble.inForce ∧
    ((heatEnd d r s).drum d).tumble.lastDir = (s.drum d).tumble.lastDir ∧
    ((heatEnd d r s).drum d).tumble.multiplier = (s.drum d).tumble.multiplier ∧
    ((heatEnd d r s).drum d).tumble.reduction = (s.drum d).tumble.reduction ∧
    ((heatEnd d r s).drum d).tangle = (s.drum d).tangle := by
  refine ⟨?_, ?_, ?_, ?_, ?_, ?_, ?_, ?_, ?_, ?_, ?_, ?_, ?_, ?_⟩ <;> (unfold heatEnd; (try dsimp only); (repeat' split) <;> simp)

@[simp] theorem keeps_coolingEnds (d : Drum) (s : State) :
    ((coolingEnds d s).drum d).port.state = (s.drum d).port.state ∧
    ((coolingEnds d s).drum d).port.readings = (s.drum d).port.readings ∧
    ((coolingEnds d s).drum d).port.presence = (s.drum d).port.presence ∧
    ((coolingEnds d s).drum d).port.hold = (s.drum d).port.hold ∧
    ((coolingEnds d s).drum d).port.grace = (s.drum d).port.grace ∧
    ((coolingEnds d s).drum d).port.image.resetLockout = (s.drum d).port.image.resetLockout := by
  refine ⟨?_, ?_, ?_, ?_, ?_, ?_⟩ <;> (unfold coolingEnds; (try dsimp only); (repeat' split) <;> simp)

@[simp] theorem keeps_coolTest (d : Drum) (s : State) :
    ((coolTest d s).drum d).port.state = (s.drum d).port.state ∧
    ((coolTest d s).drum d).port.readings = (s.drum d).port.readings ∧
    ((coolTest d s).drum d).port.presence = (s.drum d).port.presence ∧
    ((coolTest d s).drum d).port.hold = (s.drum d).port.hold ∧
    ((coolTest d s).drum d).port.grace = (s.drum d).port.grace ∧
    ((coolTest d s).drum d).port.image.resetLockout = (s.drum d).port.image.resetLockout := by
  refine ⟨?_, ?_, ?_, ?_, ?_, ?_⟩ <;> (unfold coolTest; (try dsimp only); (repeat' split) <;> simp)

@[simp] theorem keeps_enterTarget (d : Drum) (s : State) :
    ((enterTarget d s).drum d).port.state = (s.drum d).port.state ∧
    ((enterTarget d s).drum d).port.readings = (s.drum d).port.readings ∧
    ((enterTarget d s).drum d).port.presence = (s.drum d).port.presence ∧
    ((enterTarget d s).drum d).port.hold = (s.drum d).port.hold ∧
    ((enterTarget d s).drum d).port.grace = (s.drum d).port.grace ∧
    ((enterTarget d s).drum d).port.image.drive = (s.drum d).port.image.drive ∧
    ((enterTarget d s).drum d).port.image.resetLockout = (s.drum d).port.image.resetLockout ∧
    ((enterTarget d s).drum d).tumble.state = (s.drum d).tumble.state ∧
    ((enterTarget d s).drum d).tumble.status = (s.drum d).tumble.status ∧
    ((enterTarget d s).drum d).tumble.inForce = (s.drum d).tumble.inForce ∧
    ((enterTarget d s).drum d).tumble.lastDir = (s.drum d).tumble.lastDir ∧
    ((enterTarget d s).drum d).tumble.multiplier = (s.drum d).tumble.multiplier ∧
    ((enterTarget d s).drum d).tumble.reduction = (s.drum d).tumble.reduction ∧
    ((enterTarget d s).drum d).tangle = (s.drum d).tangle := by
  refine ⟨?_, ?_, ?_, ?_, ?_, ?_, ?_, ?_, ?_, ?_, ?_, ?_, ?_, ?_⟩ <;> (unfold enterTarget; (try dsimp only); (repeat' split) <;> simp)

@[simp] theorem keeps_cycleDoorOpened (d : Drum) (s : State) :
    ((cycleDoorOpened d s).drum d).port.state = (s.drum d).port.state ∧
    ((cycleDoorOpened d s).drum d).port.readings = (s.drum d).port.readings ∧
    ((cycleDoorOpened d s).drum d).port.presence = (s.drum d).port.presence ∧
    ((cycleDoorOpened d s).drum d).port.hold = (s.drum d).port.hold ∧
    ((cycleDoorOpened d s).drum d).port.grace = (s.drum d).port.grace ∧
    ((cycleDoorOpened d s).drum d).port.image.resetLockout = (s.drum d).port.image.resetLockout := by
  refine ⟨?_, ?_, ?_, ?_, ?_, ?_⟩ <;> (unfold cycleDoorOpened; (try dsimp only); (repeat' split) <;> simp)

@[simp] theorem keeps_cycleAirflowLost (d : Drum) (s : State) :
    ((cycleAirflowLost d s).drum d).port.state = (s.drum d).port.state ∧
    ((cycleAirflowLost d s).drum d).port.readings = (s.drum d).port.readings ∧
    ((cycleAirflowLost d s).drum d).port.presence = (s.drum d).port.presence ∧
    ((cycleAirflowLost d s).drum d).port.hold = (s.drum d).port.hold ∧
    ((cycleAirflowLost d s).drum d).port.grace = (s.drum d).port.grace ∧
    ((cycleAirflowLost d s).drum d).port.image.resetLockout = (s.drum d).port.image.resetLockout := by
  refine ⟨?_, ?_, ?_, ?_, ?_, ?_⟩ <;> (unfold cycleAirflowLost; (try dsimp only); (repeat' split) <;> simp)

@[simp] theorem keeps_cycleAirflowProven (d : Drum) (s : State) :
    ((cycleAirflowProven d s).drum d).port = (s.drum d).port ∧
    ((cycleAirflowProven d s).drum d).cycle.state = (s.drum d).cycle.state ∧
    ((cycleAirflowProven d s).drum d).cycle.record = (s.drum d).cycle.record ∧
    ((cycleAirflowProven d s).drum d).cycle.drying = (s.drum d).cycle.drying ∧
    ((cycleAirflowProven d s).drum d).cycle.cooling = (s.drum d).cycle.cooling ∧
    ((cycleAirflowProven d s).drum d).cycle.reason = (s.drum d).cycle.reason ∧
    ((cycleAirflowProven d s).drum d).tumble = (s.drum d).tumble ∧
    ((cycleAirflowProven d s).drum d).tangle = (s.drum d).tangle ∧
    ((cycleAirflowProven d s).drum d).burner = (s.drum d).burner ∧
    ((cycleAirflowProven d s).drum d).dryness = (s.drum d).dryness ∧
    (cycleAirflowProven d s).flight.events = s.flight.events ∧
    (cycleAirflowProven d s).flight.increments = s.flight.increments ∧
    (cycleAirflowProven d s).flight.demands = s.flight.demands := by
  refine ⟨?_, ?_, ?_, ?_, ?_, ?_, ?_, ?_, ?_, ?_, ?_, ?_, ?_⟩ <;> (unfold cycleAirflowProven; (try dsimp only); (repeat' split) <;> simp)

@[simp] theorem keeps_cycleNodeLost (d : Drum) (n : Nat) (s : State) :
    ((cycleNodeLost d n s).drum d).port.state = (s.drum d).port.state ∧
    ((cycleNodeLost d n s).drum d).port.readings = (s.drum d).port.readings ∧
    ((cycleNodeLost d n s).drum d).port.presence = (s.drum d).port.presence ∧
    ((cycleNodeLost d n s).drum d).port.hold = (s.drum d).port.hold ∧
    ((cycleNodeLost d n s).drum d).port.grace = (s.drum d).port.grace ∧
    ((cycleNodeLost d n s).drum d).port.image.resetLockout = (s.drum d).port.image.resetLockout := by
  refine ⟨?_, ?_, ?_, ?_, ?_, ?_⟩ <;> (unfold cycleNodeLost; (try dsimp only); (repeat' split) <;> simp)

@[simp] theorem keeps_cycleGraceExpired (d : Drum) (s : State) :
    ((cycleGraceExpired d s).drum d).port.state = (s.drum d).port.state ∧
    ((cycleGraceExpired d s).drum d).port.readings = (s.drum d).port.readings ∧
    ((cycleGraceExpired d s).drum d).port.presence = (s.drum d).port.presence ∧
    ((cycleGraceExpired d s).drum d).port.hold = (s.drum d).port.hold ∧
    ((cycleGraceExpired d s).drum d).port.grace = (s.drum d).port.grace ∧
    ((cycleGraceExpired d s).drum d).port.image.resetLockout = (s.drum d).port.image.resetLockout := by
  refine ⟨?_, ?_, ?_, ?_, ?_, ?_⟩ <;> (unfold cycleGraceExpired; (try dsimp only); (repeat' split) <;> simp)

@[simp] theorem keeps_routedAction (d : Drum) (a : RoutedAction) (s : State) :
    ((routedAction d a s).drum d).port.state = (s.drum d).port.state ∧
    ((routedAction d a s).drum d).port.readings = (s.drum d).port.readings ∧
    ((routedAction d a s).drum d).port.presence = (s.drum d).port.presence ∧
    ((routedAction d a s).drum d).port.hold = (s.drum d).port.hold ∧
    ((routedAction d a s).drum d).port.grace = (s.drum d).port.grace ∧
    ((routedAction d a s).drum d).port.image.resetLockout = (s.drum d).port.image.resetLockout := by
  refine ⟨?_, ?_, ?_, ?_, ?_, ?_⟩ <;> (unfold routedAction; (try dsimp only); (repeat' split) <;> simp)

@[simp] theorem keeps_takeInlet (d : Drum) (t : Temperature) (s : State) :
    ((takeInlet d t s).drum d).port.state = (s.drum d).port.state ∧
    ((takeInlet d t s).drum d).port.readings = (s.drum d).port.readings ∧
    ((takeInlet d t s).drum d).port.presence = (s.drum d).port.presence ∧
    ((takeInlet d t s).drum d).port.hold = (s.drum d).port.hold ∧
    ((takeInlet d t s).drum d).port.grace = (s.drum d).port.grace ∧
    ((takeInlet d t s).drum d).port.image.drive = (s.drum d).port.image.drive ∧
    ((takeInlet d t s).drum d).port.image.resetLockout = (s.drum d).port.image.resetLockout ∧
    ((takeInlet d t s).drum d).port.image.fan = (s.drum d).port.image.fan ∧
    ((takeInlet d t s).drum d).cycle = (s.drum d).cycle ∧ ((takeInlet d t s).drum d).tumble = (s.drum d).tumble ∧
    ((takeInlet d t s).drum d).tangle = (s.drum d).tangle ∧
    ((takeInlet d t s).drum d).dryness = (s.drum d).dryness := by
  refine ⟨?_, ?_, ?_, ?_, ?_, ?_, ?_, ?_, ?_, ?_, ?_, ?_⟩ <;> (unfold takeInlet; (try dsimp only); (repeat' split) <;> simp)

@[simp] theorem keeps_judgeExhaust (d : Drum) (t : Temperature) (s : State) :
    ((judgeExhaust d t s).drum d).port.state = (s.drum d).port.state ∧
    ((judgeExhaust d t s).drum d).port.readings = (s.drum d).port.readings ∧
    ((judgeExhaust d t s).drum d).port.presence = (s.drum d).port.presence ∧
    ((judgeExhaust d t s).drum d).port.hold = (s.drum d).port.hold ∧
    ((judgeExhaust d t s).drum d).port.grace = (s.drum d).port.grace ∧
    ((judgeExhaust d t s).drum d).port.image.drive = (s.drum d).port.image.drive ∧
    ((judgeExhaust d t s).drum d).port.image.resetLockout = (s.drum d).port.image.resetLockout ∧
    ((judgeExhaust d t s).drum d).port.image.fan = (s.drum d).port.image.fan ∧
    ((judgeExhaust d t s).drum d).cycle = (s.drum d).cycle ∧
    ((judgeExhaust d t s).drum d).tumble = (s.drum d).tumble ∧
    ((judgeExhaust d t s).drum d).tangle = (s.drum d).tangle ∧
    ((judgeExhaust d t s).drum d).dryness = (s.drum d).dryness := by
  refine ⟨?_, ?_, ?_, ?_, ?_, ?_, ?_, ?_, ?_, ?_, ?_, ?_⟩ <;> (unfold judgeExhaust; (try dsimp only); (repeat' split) <;> simp)

@[simp] theorem keeps_takeExhaust (d : Drum) (t : Temperature) (s : State) :
    ((takeExhaust d t s).drum d).port.state = (s.drum d).port.state ∧
    ((takeExhaust d t s).drum d).port.readings = (s.drum d).port.readings ∧
    ((takeExhaust d t s).drum d).port.presence = (s.drum d).port.presence ∧
    ((takeExhaust d t s).drum d).port.hold = (s.drum d).port.hold ∧
    ((takeExhaust d t s).drum d).port.grace = (s.drum d).port.grace ∧
    ((takeExhaust d t s).drum d).port.image.resetLockout = (s.drum d).port.image.resetLockout := by
  refine ⟨?_, ?_, ?_, ?_, ?_, ?_⟩ <;> (unfold takeExhaust; (try dsimp only); (repeat' split) <;> simp)

@[simp] theorem keeps_enterBurning (d : Drum) (s : State) :
    ((enterBurning d s).drum d).port.state = (s.drum d).port.state ∧
    ((enterBurning d s).drum d).port.readings = (s.drum d).port.readings ∧
    ((enterBurning d s).drum d).port.presence = (s.drum d).port.presence ∧
    ((enterBurning d s).drum d).port.hold = (s.drum d).port.hold ∧
    ((enterBurning d s).drum d).port.grace = (s.drum d).port.grace ∧
    ((enterBurning d s).drum d).port.image.drive = (s.drum d).port.image.drive ∧
    ((enterBurning d s).drum d).port.image.resetLockout = (s.drum d).port.image.resetLockout ∧
    ((enterBurning d s).drum d).port.image.fan = (s.drum d).port.image.fan ∧
    ((enterBurning d s).drum d).cycle = (s.drum d).cycle ∧ ((enterBurning d s).drum d).tumble = (s.drum d).tumble ∧
    ((enterBurning d s).drum d).tangle = (s.drum d).tangle ∧
    ((enterBurning d s).drum d).dryness = (s.drum d).dryness := by
  refine ⟨?_, ?_, ?_, ?_, ?_, ?_, ?_, ?_, ?_, ?_, ?_, ?_⟩ <;> (unfold enterBurning; (try dsimp only); (repeat' split) <;> simp)

@[simp] theorem keeps_retryDelayEnds (d : Drum) (s : State) :
    ((retryDelayEnds d s).drum d).port.state = (s.drum d).port.state ∧
    ((retryDelayEnds d s).drum d).port.readings = (s.drum d).port.readings ∧
    ((retryDelayEnds d s).drum d).port.presence = (s.drum d).port.presence ∧
    ((retryDelayEnds d s).drum d).port.hold = (s.drum d).port.hold ∧
    ((retryDelayEnds d s).drum d).port.grace = (s.drum d).port.grace ∧
    ((retryDelayEnds d s).drum d).port.image.drive = (s.drum d).port.image.drive ∧
    ((retryDelayEnds d s).drum d).port.image.resetLockout = (s.drum d).port.image.resetLockout ∧
    ((retryDelayEnds d s).drum d).port.image.fan = (s.drum d).port.image.fan ∧
    ((retryDelayEnds d s).drum d).cycle = (s.drum d).cycle ∧
    ((retryDelayEnds d s).drum d).tumble = (s.drum d).tumble ∧
    ((retryDelayEnds d s).drum d).tangle = (s.drum d).tangle ∧
    ((retryDelayEnds d s).drum d).dryness = (s.drum d).dryness := by
  refine ⟨?_, ?_, ?_, ?_, ?_, ?_, ?_, ?_, ?_, ?_, ?_, ?_⟩ <;> (unfold retryDelayEnds; (try dsimp only); (repeat' split) <;> simp)

@[simp] theorem keeps_burnerReset (d : Drum) (s : State) :
    ((burnerReset d s).drum d).port.state = (s.drum d).port.state ∧
    ((burnerReset d s).drum d).port.readings = (s.drum d).port.readings ∧
    ((burnerReset d s).drum d).port.presence = (s.drum d).port.presence ∧
    ((burnerReset d s).drum d).port.hold = (s.drum d).port.hold ∧
    ((burnerReset d s).drum d).port.grace = (s.drum d).port.grace ∧
    ((burnerReset d s).drum d).port.image.drive = (s.drum d).port.image.drive ∧
    ((burnerReset d s).drum d).port.image.resetLockout = (s.drum d).port.image.resetLockout ∧
    ((burnerReset d s).drum d).port.image.fan = (s.drum d).port.image.fan ∧
    ((burnerReset d s).drum d).cycle = (s.drum d).cycle ∧ ((burnerReset d s).drum d).tumble = (s.drum d).tumble ∧
    ((burnerReset d s).drum d).tangle = (s.drum d).tangle ∧
    ((burnerReset d s).drum d).burner.lockout = (s.drum d).burner.lockout ∧
    ((burnerReset d s).drum d).burner.rest = (s.drum d).burner.rest ∧
    ((burnerReset d s).drum d).burner.inlet = (s.drum d).burner.inlet ∧
    ((burnerReset d s).drum d).burner.exhaust = (s.drum d).burner.exhaust ∧
    ((burnerReset d s).drum d).burner.exhaustHigh = (s.drum d).burner.exhaustHigh ∧
    ((burnerReset d s).drum d).burner.flame = (s.drum d).burner.flame ∧
    ((burnerReset d s).drum d).dryness = (s.drum d).dryness ∧ (burnerReset d s).flight.events = s.flight.events ∧
    (burnerReset d s).flight.increments = s.flight.increments ∧
    (burnerReset d s).flight.demands = s.flight.demands := by
  refine ⟨?_, ?_, ?_, ?_, ?_, ?_, ?_, ?_, ?_, ?_, ?_, ?_, ?_, ?_, ?_, ?_, ?_, ?_, ?_, ?_, ?_⟩ <;> (unfold burnerReset; (try dsimp only); (repeat' split) <;> simp)

@[simp] theorem keeps_clearLockout (d : Drum) (s : State) :
    ((clearLockout d s).drum d).port.state = (s.drum d).port.state ∧
    ((clearLockout d s).drum d).port.readings = (s.drum d).port.readings ∧
    ((clearLockout d s).drum d).port.presence = (s.drum d).port.presence ∧
    ((clearLockout d s).drum d).port.hold = (s.drum d).port.hold ∧
    ((clearLockout d s).drum d).port.grace = (s.drum d).port.grace ∧
    ((clearLockout d s).drum d).port.image.drive = (s.drum d).port.image.drive ∧
    ((clearLockout d s).drum d).port.image.fan = (s.drum d).port.image.fan ∧
    ((clearLockout d s).drum d).cycle = (s.drum d).cycle ∧ ((clearLockout d s).drum d).tumble = (s.drum d).tumble ∧
    ((clearLockout d s).drum d).tangle = (s.drum d).tangle ∧
    ((clearLockout d s).drum d).dryness = (s.drum d).dryness := by
  refine ⟨?_, ?_, ?_, ?_, ?_, ?_, ?_, ?_, ?_, ?_, ?_⟩ <;> (unfold clearLockout; (try dsimp only); (repeat' split) <;> simp)

@[simp] theorem keeps_takeCurrent (d : Drum) (v : Nat) (s : State) :
    ((takeCurrent d v s).drum d).port = (s.drum d).port ∧ ((takeCurrent d v s).drum d).cycle = (s.drum d).cycle ∧
    ((takeCurrent d v s).drum d).tumble = (s.drum d).tumble ∧
    ((takeCurrent d v s).drum d).tangle.earlyRuns = (s.drum d).tangle.earlyRuns ∧
    ((takeCurrent d v s).drum d).burner = (s.drum d).burner ∧
    ((takeCurrent d v s).drum d).dryness = (s.drum d).dryness ∧ (takeCurrent d v s).flight.events = s.flight.events ∧
    (takeCurrent d v s).flight.increments = s.flight.increments ∧
    (takeCurrent d v s).flight.demands = s.flight.demands := by
  refine ⟨?_, ?_, ?_, ?_, ?_, ?_, ?_, ?_, ?_⟩ <;> (unfold takeCurrent; (try dsimp only); (repeat' split) <;> simp)

@[simp] theorem keeps_statusInRun (d : Drum) (st : DriveStatus) (s : State) :
    ((statusInRun d st s).drum d).port.state = (s.drum d).port.state ∧
    ((statusInRun d st s).drum d).port.readings = (s.drum d).port.readings ∧
    ((statusInRun d st s).drum d).port.presence = (s.drum d).port.presence ∧
    ((statusInRun d st s).drum d).port.hold = (s.drum d).port.hold ∧
    ((statusInRun d st s).drum d).port.grace = (s.drum d).port.grace ∧
    ((statusInRun d st s).drum d).port.image.resetLockout = (s.drum d).port.image.resetLockout ∧
    ((statusInRun d st s).drum d).port.image.fan = (s.drum d).port.image.fan ∧
    ((statusInRun d st s).drum d).cycle = (s.drum d).cycle ∧
    ((statusInRun d st s).drum d).dryness = (s.drum d).dryness := by
  refine ⟨?_, ?_, ?_, ?_, ?_, ?_, ?_, ?_, ?_⟩ <;> (unfold statusInRun; (try dsimp only); (repeat' split) <;> simp)

@[simp] theorem keeps_stall (d : Drum) (st : DriveStatus) (s : State) :
    ((stall d st s).drum d).port.state = (s.drum d).port.state ∧
    ((stall d st s).drum d).port.readings = (s.drum d).port.readings ∧
    ((stall d st s).drum d).port.presence = (s.drum d).port.presence ∧
    ((stall d st s).drum d).port.hold = (s.drum d).port.hold ∧
    ((stall d st s).drum d).port.grace = (s.drum d).port.grace ∧
    ((stall d st s).drum d).port.image.resetLockout = (s.drum d).port.image.resetLockout := by
  refine ⟨?_, ?_, ?_, ?_, ?_, ?_⟩ <;> (unfold stall; (try dsimp only); (repeat' split) <;> simp)

@[simp] theorem keeps_trip (d : Drum) (st : DriveStatus) (s : State) :
    ((trip d st s).drum d).port.state = (s.drum d).port.state ∧
    ((trip d st s).drum d).port.readings = (s.drum d).port.readings ∧
    ((trip d st s).drum d).port.presence = (s.drum d).port.presence ∧
    ((trip d st s).drum d).port.hold = (s.drum d).port.hold ∧
    ((trip d st s).drum d).port.grace = (s.drum d).port.grace ∧
    ((trip d st s).drum d).port.image.resetLockout = (s.drum d).port.image.resetLockout := by
  refine ⟨?_, ?_, ?_, ?_, ?_, ?_⟩ <;> (unfold trip; (try dsimp only); (repeat' split) <;> simp)

@[simp] theorem keeps_takeDriveStat (d : Drum) (st : DriveStatus) (s : State) :
    ((takeDriveStat d st s).drum d).port.state = (s.drum d).port.state ∧
    ((takeDriveStat d st s).drum d).port.readings = (s.drum d).port.readings ∧
    ((takeDriveStat d st s).drum d).port.presence = (s.drum d).port.presence ∧
    ((takeDriveStat d st s).drum d).port.hold = (s.drum d).port.hold ∧
    ((takeDriveStat d st s).drum d).port.grace = (s.drum d).port.grace ∧
    ((takeDriveStat d st s).drum d).port.image.resetLockout = (s.drum d).port.image.resetLockout := by
  refine ⟨?_, ?_, ?_, ?_, ?_, ?_⟩ <;> (unfold takeDriveStat; (try dsimp only); (repeat' split) <;> simp)

@[simp] theorem keeps_minimumRunReached (d : Drum) (s : State) :
    ((minimumRunReached d s).drum d).port.state = (s.drum d).port.state ∧
    ((minimumRunReached d s).drum d).port.readings = (s.drum d).port.readings ∧
    ((minimumRunReached d s).drum d).port.presence = (s.drum d).port.presence ∧
    ((minimumRunReached d s).drum d).port.hold = (s.drum d).port.hold ∧
    ((minimumRunReached d s).drum d).port.grace = (s.drum d).port.grace ∧
    ((minimumRunReached d s).drum d).port.image.resetLockout = (s.drum d).port.image.resetLockout ∧
    ((minimumRunReached d s).drum d).port.image.fan = (s.drum d).port.image.fan ∧
    ((minimumRunReached d s).drum d).cycle = (s.drum d).cycle ∧
    ((minimumRunReached d s).drum d).dryness = (s.drum d).dryness := by
  refine ⟨?_, ?_, ?_, ?_, ?_, ?_, ?_, ?_, ?_⟩ <;> (unfold minimumRunReached; (try dsimp only); (repeat' split) <;> simp)

@[simp] theorem keeps_decelTimeout (d : Drum) (s : State) :
    ((decelTimeout d s).drum d).port.state = (s.drum d).port.state ∧
    ((decelTimeout d s).drum d).port.readings = (s.drum d).port.readings ∧
    ((decelTimeout d s).drum d).port.presence = (s.drum d).port.presence ∧
    ((decelTimeout d s).drum d).port.hold = (s.drum d).port.hold ∧
    ((decelTimeout d s).drum d).port.grace = (s.drum d).port.grace ∧
    ((decelTimeout d s).drum d).port.image.resetLockout = (s.drum d).port.image.resetLockout := by
  refine ⟨?_, ?_, ?_, ?_, ?_, ?_⟩ <;> (unfold decelTimeout; (try dsimp only); (repeat' split) <;> simp)

@[simp] theorem keeps_guardIntervalEnds (d : Drum) (s : State) :
    ((guardIntervalEnds d s).drum d).port.state = (s.drum d).port.state ∧
    ((guardIntervalEnds d s).drum d).port.readings = (s.drum d).port.readings ∧
    ((guardIntervalEnds d s).drum d).port.presence = (s.drum d).port.presence ∧
    ((guardIntervalEnds d s).drum d).port.hold = (s.drum d).port.hold ∧
    ((guardIntervalEnds d s).drum d).port.grace = (s.drum d).port.grace ∧
    ((guardIntervalEnds d s).drum d).port.image.resetLockout = (s.drum d).port.image.resetLockout ∧
    ((guardIntervalEnds d s).drum d).cycle.state = (s.drum d).cycle.state ∧
    ((guardIntervalEnds d s).drum d).cycle.record = (s.drum d).cycle.record ∧
    ((guardIntervalEnds d s).drum d).cycle.drying = (s.drum d).cycle.drying ∧
    ((guardIntervalEnds d s).drum d).cycle.cooling = (s.drum d).cycle.cooling ∧
    ((guardIntervalEnds d s).drum d).cycle.reason = (s.drum d).cycle.reason ∧
    ((guardIntervalEnds d s).drum d).dryness.window = (s.drum d).dryness.window := by
  refine ⟨?_, ?_, ?_, ?_, ?_, ?_, ?_, ?_, ?_, ?_, ?_, ?_⟩ <;> (unfold guardIntervalEnds; (try dsimp only); (repeat' split) <;> simp)

@[simp] theorem keeps_pauseLimitEnds (d : Drum) (s : State) :
    ((pauseLimitEnds d s).drum d).port.state = (s.drum d).port.state ∧
    ((pauseLimitEnds d s).drum d).port.readings = (s.drum d).port.readings ∧
    ((pauseLimitEnds d s).drum d).port.presence = (s.drum d).port.presence ∧
    ((pauseLimitEnds d s).drum d).port.hold = (s.drum d).port.hold ∧
    ((pauseLimitEnds d s).drum d).port.grace = (s.drum d).port.grace ∧
    ((pauseLimitEnds d s).drum d).port.image.resetLockout = (s.drum d).port.image.resetLockout := by
  refine ⟨?_, ?_, ?_, ?_, ?_, ?_⟩ <;> (unfold pauseLimitEnds; (try dsimp only); (repeat' split) <;> simp)

@[simp] theorem keeps_extraDryEnds (d : Drum) (s : State) :
    ((extraDryEnds d s).drum d).port.state = (s.drum d).port.state ∧
    ((extraDryEnds d s).drum d).port.readings = (s.drum d).port.readings ∧
    ((extraDryEnds d s).drum d).port.presence = (s.drum d).port.presence ∧
    ((extraDryEnds d s).drum d).port.hold = (s.drum d).port.hold ∧
    ((extraDryEnds d s).drum d).port.grace = (s.drum d).port.grace ∧
    ((extraDryEnds d s).drum d).port.image.drive = (s.drum d).port.image.drive ∧
    ((extraDryEnds d s).drum d).port.image.resetLockout = (s.drum d).port.image.resetLockout ∧
    ((extraDryEnds d s).drum d).tumble.state = (s.drum d).tumble.state ∧
    ((extraDryEnds d s).drum d).tumble.status = (s.drum d).tumble.status ∧
    ((extraDryEnds d s).drum d).tumble.inForce = (s.drum d).tumble.inForce ∧
    ((extraDryEnds d s).drum d).tumble.lastDir = (s.drum d).tumble.lastDir ∧
    ((extraDryEnds d s).drum d).tumble.multiplier = (s.drum d).tumble.multiplier ∧
    ((extraDryEnds d s).drum d).tumble.reduction = (s.drum d).tumble.reduction ∧
    ((extraDryEnds d s).drum d).tangle = (s.drum d).tangle := by
  refine ⟨?_, ?_, ?_, ?_, ?_, ?_, ?_, ?_, ?_, ?_, ?_, ?_, ?_, ?_⟩ <;> (unfold extraDryEnds; (try dsimp only); (repeat' split) <;> simp)

@[simp] theorem keeps_dryReached (d : Drum) (p : DrynessPart) (s : State) :
    ((dryReached d p s).drum d).port.state = (s.drum d).port.state ∧
    ((dryReached d p s).drum d).port.readings = (s.drum d).port.readings ∧
    ((dryReached d p s).drum d).port.presence = (s.drum d).port.presence ∧
    ((dryReached d p s).drum d).port.hold = (s.drum d).port.hold ∧
    ((dryReached d p s).drum d).port.grace = (s.drum d).port.grace ∧
    ((dryReached d p s).drum d).port.image.drive = (s.drum d).port.image.drive ∧
    ((dryReached d p s).drum d).port.image.resetLockout = (s.drum d).port.image.resetLockout ∧
    ((dryReached d p s).drum d).tumble.state = (s.drum d).tumble.state ∧
    ((dryReached d p s).drum d).tumble.status = (s.drum d).tumble.status ∧
    ((dryReached d p s).drum d).tumble.inForce = (s.drum d).tumble.inForce ∧
    ((dryReached d p s).drum d).tumble.lastDir = (s.drum d).tumble.lastDir ∧
    ((dryReached d p s).drum d).tumble.multiplier = (s.drum d).tumble.multiplier ∧
    ((dryReached d p s).drum d).tumble.reduction = (s.drum d).tumble.reduction ∧
    ((dryReached d p s).drum d).tangle = (s.drum d).tangle := by
  refine ⟨?_, ?_, ?_, ?_, ?_, ?_, ?_, ?_, ?_, ?_, ?_, ?_, ?_, ?_⟩ <;> (unfold dryReached; (try dsimp only); (repeat' split) <;> simp)

@[simp] theorem keeps_dryTest (d : Drum) (p : DrynessPart) (s : State) :
    ((dryTest d p s).drum d).port.state = (s.drum d).port.state ∧
    ((dryTest d p s).drum d).port.readings = (s.drum d).port.readings ∧
    ((dryTest d p s).drum d).port.presence = (s.drum d).port.presence ∧
    ((dryTest d p s).drum d).port.hold = (s.drum d).port.hold ∧
    ((dryTest d p s).drum d).port.grace = (s.drum d).port.grace ∧
    ((dryTest d p s).drum d).port.image.drive = (s.drum d).port.image.drive ∧
    ((dryTest d p s).drum d).port.image.resetLockout = (s.drum d).port.image.resetLockout ∧
    ((dryTest d p s).drum d).tumble.state = (s.drum d).tumble.state ∧
    ((dryTest d p s).drum d).tumble.status = (s.drum d).tumble.status ∧
    ((dryTest d p s).drum d).tumble.inForce = (s.drum d).tumble.inForce ∧
    ((dryTest d p s).drum d).tumble.lastDir = (s.drum d).tumble.lastDir ∧
    ((dryTest d p s).drum d).tumble.multiplier = (s.drum d).tumble.multiplier ∧
    ((dryTest d p s).drum d).tumble.reduction = (s.drum d).tumble.reduction ∧
    ((dryTest d p s).drum d).tangle = (s.drum d).tangle := by
  refine ⟨?_, ?_, ?_, ?_, ?_, ?_, ?_, ?_, ?_, ?_, ?_, ?_, ?_, ?_⟩ <;> (unfold dryTest; (try dsimp only); (repeat' split) <;> simp)

@[simp] theorem keeps_acceptWet (d : Drum) (v : Nat) (p : DrynessPart) (s : State) :
    ((acceptWet d v p s).drum d).port.state = (s.drum d).port.state ∧
    ((acceptWet d v p s).drum d).port.readings = (s.drum d).port.readings ∧
    ((acceptWet d v p s).drum d).port.presence = (s.drum d).port.presence ∧
    ((acceptWet d v p s).drum d).port.hold = (s.drum d).port.hold ∧
    ((acceptWet d v p s).drum d).port.grace = (s.drum d).port.grace ∧
    ((acceptWet d v p s).drum d).port.image.drive = (s.drum d).port.image.drive ∧
    ((acceptWet d v p s).drum d).port.image.resetLockout = (s.drum d).port.image.resetLockout ∧
    ((acceptWet d v p s).drum d).tumble.state = (s.drum d).tumble.state ∧
    ((acceptWet d v p s).drum d).tumble.status = (s.drum d).tumble.status ∧
    ((acceptWet d v p s).drum d).tumble.inForce = (s.drum d).tumble.inForce ∧
    ((acceptWet d v p s).drum d).tumble.lastDir = (s.drum d).tumble.lastDir ∧
    ((acceptWet d v p s).drum d).tumble.multiplier = (s.drum d).tumble.multiplier ∧
    ((acceptWet d v p s).drum d).tumble.reduction = (s.drum d).tumble.reduction ∧
    ((acceptWet d v p s).drum d).tangle = (s.drum d).tangle := by
  refine ⟨?_, ?_, ?_, ?_, ?_, ?_, ?_, ?_, ?_, ?_, ?_, ?_, ?_, ?_⟩ <;> (unfold acceptWet; (try dsimp only); (repeat' split) <;> simp)

@[simp] theorem keeps_takeWet (d : Drum) (v : Nat) (s : State) :
    ((takeWet d v s).drum d).port.state = (s.drum d).port.state ∧
    ((takeWet d v s).drum d).port.readings = (s.drum d).port.readings ∧
    ((takeWet d v s).drum d).port.presence = (s.drum d).port.presence ∧
    ((takeWet d v s).drum d).port.hold = (s.drum d).port.hold ∧
    ((takeWet d v s).drum d).port.grace = (s.drum d).port.grace ∧
    ((takeWet d v s).drum d).port.image.drive = (s.drum d).port.image.drive ∧
    ((takeWet d v s).drum d).port.image.resetLockout = (s.drum d).port.image.resetLockout ∧
    ((takeWet d v s).drum d).tumble.state = (s.drum d).tumble.state ∧
    ((takeWet d v s).drum d).tumble.status = (s.drum d).tumble.status ∧
    ((takeWet d v s).drum d).tumble.inForce = (s.drum d).tumble.inForce ∧
    ((takeWet d v s).drum d).tumble.lastDir = (s.drum d).tumble.lastDir ∧
    ((takeWet d v s).drum d).tumble.multiplier = (s.drum d).tumble.multiplier ∧
    ((takeWet d v s).drum d).tumble.reduction = (s.drum d).tumble.reduction ∧
    ((takeWet d v s).drum d).tangle = (s.drum d).tangle := by
  refine ⟨?_, ?_, ?_, ?_, ?_, ?_, ?_, ?_, ?_, ?_, ?_, ?_, ?_, ?_⟩ <;> (unfold takeWet; (try dsimp only); (repeat' split) <;> simp)

@[simp] theorem keeps_drynessStart (d : Drum) (s : State) :
    ((drynessStart d s).drum d).port = (s.drum d).port ∧ ((drynessStart d s).drum d).cycle = (s.drum d).cycle ∧
    ((drynessStart d s).drum d).tumble = (s.drum d).tumble ∧ ((drynessStart d s).drum d).tangle = (s.drum d).tangle ∧
    ((drynessStart d s).drum d).burner = (s.drum d).burner ∧
    ((drynessStart d s).drum d).dryness.settle = (s.drum d).dryness.settle ∧
    (drynessStart d s).flight.events = s.flight.events ∧ (drynessStart d s).flight.increments = s.flight.increments ∧
    (drynessStart d s).flight.demands = s.flight.demands := by
  refine ⟨?_, ?_, ?_, ?_, ?_, ?_, ?_, ?_, ?_⟩ <;> (unfold drynessStart; (try dsimp only); (repeat' split) <;> simp)

@[simp] theorem keeps_drynessReset (d : Drum) (s : State) :
    ((drynessReset d s).drum d).port = (s.drum d).port ∧ ((drynessReset d s).drum d).cycle = (s.drum d).cycle ∧
    ((drynessReset d s).drum d).tumble = (s.drum d).tumble ∧ ((drynessReset d s).drum d).tangle = (s.drum d).tangle ∧
    ((drynessReset d s).drum d).burner = (s.drum d).burner ∧ (drynessReset d s).flight.events = s.flight.events ∧
    (drynessReset d s).flight.increments = s.flight.increments ∧
    (drynessReset d s).flight.demands = s.flight.demands := by
  refine ⟨?_, ?_, ?_, ?_, ?_, ?_, ?_, ?_⟩ <;> (unfold drynessReset; (try dsimp only); (repeat' split) <;> simp)

@[simp] theorem keeps_setPortState (d : Drum) (st : PortState) (s : State) :
    ((setPortState d st s).drum d).port.readings = (s.drum d).port.readings ∧
    ((setPortState d st s).drum d).port.presence = (s.drum d).port.presence ∧
    ((setPortState d st s).drum d).port.hold = (s.drum d).port.hold ∧
    ((setPortState d st s).drum d).port.grace = (s.drum d).port.grace ∧
    ((setPortState d st s).drum d).port.image = (s.drum d).port.image ∧
    ((setPortState d st s).drum d).cycle = (s.drum d).cycle ∧
    ((setPortState d st s).drum d).tumble = (s.drum d).tumble ∧
    ((setPortState d st s).drum d).tangle = (s.drum d).tangle ∧
    ((setPortState d st s).drum d).burner = (s.drum d).burner ∧
    ((setPortState d st s).drum d).dryness = (s.drum d).dryness ∧
    (setPortState d st s).flight.events = s.flight.events ∧
    (setPortState d st s).flight.increments = s.flight.increments ∧
    (setPortState d st s).flight.demands = s.flight.demands := by
  refine ⟨?_, ?_, ?_, ?_, ?_, ?_, ?_, ?_, ?_, ?_, ?_, ?_, ?_⟩ <;> (unfold setPortState; (try dsimp only); (repeat' split) <;> simp)

@[simp] theorem keeps_leaveUp (d : Drum) (st : PortState) (s : State) :
    ((leaveUp d st s).drum d).port.readings = (s.drum d).port.readings ∧
    ((leaveUp d st s).drum d).port.presence = (s.drum d).port.presence ∧
    ((leaveUp d st s).drum d).port.hold = (s.drum d).port.hold ∧
    ((leaveUp d st s).drum d).port.grace = (s.drum d).port.grace ∧
    ((leaveUp d st s).drum d).cycle = (s.drum d).cycle ∧ ((leaveUp d st s).drum d).tumble = (s.drum d).tumble ∧
    ((leaveUp d st s).drum d).tangle = (s.drum d).tangle ∧ ((leaveUp d st s).drum d).burner = (s.drum d).burner ∧
    ((leaveUp d st s).drum d).dryness = (s.drum d).dryness ∧ (leaveUp d st s).flight.events = s.flight.events ∧
    (leaveUp d st s).flight.increments = s.flight.increments ∧
    (leaveUp d st s).flight.demands = s.flight.demands := by
  refine ⟨?_, ?_, ?_, ?_, ?_, ?_, ?_, ?_, ?_, ?_, ?_, ?_⟩ <;> (unfold leaveUp; (try dsimp only); (repeat' split) <;> simp)

@[simp] theorem keeps_movePort (d : Drum) (st : PortState) (s : State) :
    ((movePort d st s).drum d).port.readings = (s.drum d).port.readings ∧
    ((movePort d st s).drum d).port.presence = (s.drum d).port.presence ∧
    ((movePort d st s).drum d).port.hold = (s.drum d).port.hold ∧
    ((movePort d st s).drum d).cycle = (s.drum d).cycle ∧
    ((movePort d st s).drum d).dryness = (s.drum d).dryness := by
  refine ⟨?_, ?_, ?_, ?_, ?_⟩ <;> (unfold movePort; (try dsimp only); (repeat' split) <;> simp)

@[simp] theorem keeps_enterUp (d : Drum) (s : State) :
    ((enterUp d s).drum d).port.readings = (s.drum d).port.readings ∧
    ((enterUp d s).drum d).port.presence = (s.drum d).port.presence ∧
    ((enterUp d s).drum d).port.hold = (s.drum d).port.hold ∧ ((enterUp d s).drum d).cycle = (s.drum d).cycle ∧
    ((enterUp d s).drum d).tumble = (s.drum d).tumble ∧ ((enterUp d s).drum d).tangle = (s.drum d).tangle ∧
    ((enterUp d s).drum d).burner = (s.drum d).burner ∧ ((enterUp d s).drum d).dryness = (s.drum d).dryness := by
  refine ⟨?_, ?_, ?_, ?_, ?_, ?_, ?_, ?_⟩ <;> (unfold enterUp; (try dsimp only); (repeat' split) <;> simp)

@[simp] theorem keeps_graceExpires (d : Drum) (s : State) :
    ((graceExpires d s).drum d).port.state = (s.drum d).port.state ∧
    ((graceExpires d s).drum d).port.readings = (s.drum d).port.readings ∧
    ((graceExpires d s).drum d).port.presence = (s.drum d).port.presence ∧
    ((graceExpires d s).drum d).port.hold = (s.drum d).port.hold ∧
    ((graceExpires d s).drum d).port.image.resetLockout = (s.drum d).port.image.resetLockout := by
  refine ⟨?_, ?_, ?_, ?_, ?_⟩ <;> (unfold graceExpires; (try dsimp only); (repeat' split) <;> simp)

@[simp] theorem keeps_mainLaneLost (d : Drum) (s : State) :
    ((mainLaneLost d s).drum d).port.readings = (s.drum d).port.readings ∧
    ((mainLaneLost d s).drum d).port.presence = (s.drum d).port.presence ∧
    ((mainLaneLost d s).drum d).port.hold = (s.drum d).port.hold := by
  refine ⟨?_, ?_, ?_⟩ <;> (unfold mainLaneLost; (try dsimp only); (repeat' split) <;> simp)

@[simp] theorem keeps_cycleOnChange (d : Drum) (x : Discrete) (safe : Bool) (s : State) :
    ((cycleOnChange d x safe s).drum d).port.state = (s.drum d).port.state ∧
    ((cycleOnChange d x safe s).drum d).port.readings = (s.drum d).port.readings ∧
    ((cycleOnChange d x safe s).drum d).port.presence = (s.drum d).port.presence ∧
    ((cycleOnChange d x safe s).drum d).port.hold = (s.drum d).port.hold ∧
    ((cycleOnChange d x safe s).drum d).port.grace = (s.drum d).port.grace ∧
    ((cycleOnChange d x safe s).drum d).port.image.resetLockout = (s.drum d).port.image.resetLockout := by
  refine ⟨?_, ?_, ?_, ?_, ?_, ?_⟩ <;> (unfold cycleOnChange; (try dsimp only); (repeat' split) <;> simp)

@[simp] theorem keeps_changeReading (d : Drum) (x : Discrete) (safe accepted : Bool) (s : State) :
    ((changeReading d x safe accepted s).drum d).port.presence = (s.drum d).port.presence ∧
    ((changeReading d x safe accepted s).drum d).port.hold = (s.drum d).port.hold ∧
    ((changeReading d x safe accepted s).drum d).port.grace = (s.drum d).port.grace ∧
    ((changeReading d x safe accepted s).drum d).port.image.resetLockout = (s.drum d).port.image.resetLockout := by
  refine ⟨?_, ?_, ?_, ?_⟩ <;> (unfold changeReading; (try dsimp only); (repeat' split) <;> simp)

@[simp] theorem keeps_forceSafe (d : Drum) (x : Discrete) (s : State) :
    ((forceSafe d x s).drum d).port.presence = (s.drum d).port.presence ∧
    ((forceSafe d x s).drum d).port.hold = (s.drum d).port.hold ∧
    ((forceSafe d x s).drum d).port.grace = (s.drum d).port.grace ∧
    ((forceSafe d x s).drum d).port.image.resetLockout = (s.drum d).port.image.resetLockout := by
  refine ⟨?_, ?_, ?_, ?_⟩ <;> (unfold forceSafe; (try dsimp only); (repeat' split) <;> simp)

@[simp] theorem keeps_takeDiscretes (d : Drum) (raw : Readings) (s : State) :
    ((takeDiscretes d raw s).drum d).port.state = (s.drum d).port.state ∧
    ((takeDiscretes d raw s).drum d).port.readings = (s.drum d).port.readings ∧
    ((takeDiscretes d raw s).drum d).port.presence = (s.drum d).port.presence ∧
    ((takeDiscretes d raw s).drum d).port.hold = (s.drum d).port.hold ∧
    ((takeDiscretes d raw s).drum d).port.grace = (s.drum d).port.grace ∧
    ((takeDiscretes d raw s).drum d).port.image = (s.drum d).port.image ∧
    ((takeDiscretes d raw s).drum d).cycle = (s.drum d).cycle ∧
    ((takeDiscretes d raw s).drum d).tumble = (s.drum d).tumble ∧
    ((takeDiscretes d raw s).drum d).tangle = (s.drum d).tangle ∧
    ((takeDiscretes d raw s).drum d).burner = (s.drum d).burner ∧
    ((takeDiscretes d raw s).drum d).dryness = (s.drum d).dryness ∧
    (takeDiscretes d raw s).flight.events = s.flight.events ∧
    (takeDiscretes d raw s).flight.increments = s.flight.increments ∧
    (takeDiscretes d raw s).flight.demands = s.flight.demands := by
  refine ⟨?_, ?_, ?_, ?_, ?_, ?_, ?_, ?_, ?_, ?_, ?_, ?_, ?_, ?_⟩ <;> (unfold takeDiscretes; (try dsimp only); (repeat' split) <;> simp)

@[simp] theorem keeps_debounceExpires (d : Drum) (x : Discrete) (s : State) :
    ((debounceExpires d x s).drum d).port.presence = (s.drum d).port.presence ∧
    ((debounceExpires d x s).drum d).port.hold = (s.drum d).port.hold ∧
    ((debounceExpires d x s).drum d).port.grace = (s.drum d).port.grace ∧
    ((debounceExpires d x s).drum d).port.image.resetLockout = (s.drum d).port.image.resetLockout := by
  refine ⟨?_, ?_, ?_, ?_⟩ <;> (unfold debounceExpires; (try dsimp only); (repeat' split) <;> simp)

@[simp] theorem keeps_presenceChange (d : Drum) (old new : BitVec 16) (s : State) (n : Nat) :
    ((presenceChange d old new s n).drum d).port.state = (s.drum d).port.state ∧
    ((presenceChange d old new s n).drum d).port.readings = (s.drum d).port.readings ∧
    ((presenceChange d old new s n).drum d).port.presence = (s.drum d).port.presence ∧
    ((presenceChange d old new s n).drum d).port.hold = (s.drum d).port.hold ∧
    ((presenceChange d old new s n).drum d).port.grace = (s.drum d).port.grace ∧
    ((presenceChange d old new s n).drum d).port.image.resetLockout = (s.drum d).port.image.resetLockout := by
  refine ⟨?_, ?_, ?_, ?_, ?_, ?_⟩ <;> (unfold presenceChange; (try dsimp only); (repeat' split) <;> simp)

@[simp] theorem keeps_clearHold (d : Drum) (s : State) :
    ((clearHold d s).drum d).port.state = (s.drum d).port.state ∧
    ((clearHold d s).drum d).port.readings = (s.drum d).port.readings ∧
    ((clearHold d s).drum d).port.presence = (s.drum d).port.presence ∧
    ((clearHold d s).drum d).port.grace = (s.drum d).port.grace ∧ ((clearHold d s).drum d).cycle = (s.drum d).cycle ∧
    ((clearHold d s).drum d).tumble = (s.drum d).tumble ∧ ((clearHold d s).drum d).tangle = (s.drum d).tangle ∧
    ((clearHold d s).drum d).burner = (s.drum d).burner ∧ ((clearHold d s).drum d).dryness = (s.drum d).dryness ∧
    (clearHold d s).flight.events = s.flight.events ∧ (clearHold d s).flight.increments = s.flight.increments ∧
    (clearHold d s).flight.demands = s.flight.demands := by
  refine ⟨?_, ?_, ?_, ?_, ?_, ?_, ?_, ?_, ?_, ?_, ?_, ?_⟩ <;> (unfold clearHold; (try dsimp only); (repeat' split) <;> simp)

@[simp] theorem keeps_beginSend (d : Drum) (s : State) :
    ((beginSend d s).drum d).port.state = (s.drum d).port.state ∧
    ((beginSend d s).drum d).port.readings = (s.drum d).port.readings ∧
    ((beginSend d s).drum d).port.presence = (s.drum d).port.presence ∧
    ((beginSend d s).drum d).port.hold = (s.drum d).port.hold ∧
    ((beginSend d s).drum d).port.grace = (s.drum d).port.grace ∧ ((beginSend d s).drum d).cycle = (s.drum d).cycle ∧
    ((beginSend d s).drum d).tumble = (s.drum d).tumble ∧ ((beginSend d s).drum d).tangle = (s.drum d).tangle ∧
    ((beginSend d s).drum d).burner = (s.drum d).burner ∧ ((beginSend d s).drum d).dryness = (s.drum d).dryness ∧
    (beginSend d s).flight.events = s.flight.events ∧ (beginSend d s).flight.increments = s.flight.increments ∧
    (beginSend d s).flight.demands = s.flight.demands := by
  refine ⟨?_, ?_, ?_, ?_, ?_, ?_, ?_, ?_, ?_, ?_, ?_, ?_, ?_⟩ <;> (unfold beginSend; (try dsimp only); (repeat' split) <;> simp)

@[simp] theorem keeps_refreshExpires (d : Drum) (s : State) :
    ((refreshExpires d s).drum d).port.state = (s.drum d).port.state ∧
    ((refreshExpires d s).drum d).port.readings = (s.drum d).port.readings ∧
    ((refreshExpires d s).drum d).port.presence = (s.drum d).port.presence ∧
    ((refreshExpires d s).drum d).port.hold = (s.drum d).port.hold ∧
    ((refreshExpires d s).drum d).port.grace = (s.drum d).port.grace ∧
    ((refreshExpires d s).drum d).cycle = (s.drum d).cycle ∧
    ((refreshExpires d s).drum d).tumble = (s.drum d).tumble ∧
    ((refreshExpires d s).drum d).tangle = (s.drum d).tangle ∧
    ((refreshExpires d s).drum d).burner = (s.drum d).burner ∧
    ((refreshExpires d s).drum d).dryness = (s.drum d).dryness ∧
    (refreshExpires d s).flight.events = s.flight.events ∧
    (refreshExpires d s).flight.increments = s.flight.increments ∧
    (refreshExpires d s).flight.demands = s.flight.demands := by
  refine ⟨?_, ?_, ?_, ?_, ?_, ?_, ?_, ?_, ?_, ?_, ?_, ?_, ?_⟩ <;> (unfold refreshExpires; (try dsimp only); (repeat' split) <;> simp)

@[simp] theorem keeps_startTest (d : Drum) (dir : TestDirection) (mode : FlagMode) (s : State) :
    ((startTest d dir mode s).drum d).port.readings = (s.drum d).port.readings ∧
    ((startTest d dir mode s).drum d).port.presence = (s.drum d).port.presence ∧
    ((startTest d dir mode s).drum d).port.hold = (s.drum d).port.hold ∧
    ((startTest d dir mode s).drum d).cycle = (s.drum d).cycle ∧
    ((startTest d dir mode s).drum d).dryness = (s.drum d).dryness := by
  refine ⟨?_, ?_, ?_, ?_, ?_⟩ <;> (unfold startTest; (try dsimp only); (repeat' split) <;> simp)

@[simp] theorem keeps_leaveTest (d : Drum) (o : TestOutcome) (s : State) :
    ((leaveTest d o s).drum d).port.readings = (s.drum d).port.readings ∧
    ((leaveTest d o s).drum d).port.presence = (s.drum d).port.presence ∧
    ((leaveTest d o s).drum d).port.hold = (s.drum d).port.hold ∧
    ((leaveTest d o s).drum d).port.grace = (s.drum d).port.grace ∧
    ((leaveTest d o s).drum d).port.image = (s.drum d).port.image ∧
    ((leaveTest d o s).drum d).cycle = (s.drum d).cycle ∧ ((leaveTest d o s).drum d).tumble = (s.drum d).tumble ∧
    ((leaveTest d o s).drum d).tangle = (s.drum d).tangle ∧ ((leaveTest d o s).drum d).burner = (s.drum d).burner ∧
    ((leaveTest d o s).drum d).dryness = (s.drum d).dryness ∧ (leaveTest d o s).flight.events = s.flight.events ∧
    (leaveTest d o s).flight.increments = s.flight.increments ∧
    (leaveTest d o s).flight.demands = s.flight.demands := by
  refine ⟨?_, ?_, ?_, ?_, ?_, ?_, ?_, ?_, ?_, ?_, ?_, ?_, ?_⟩ <;> (unfold leaveTest; (try dsimp only); (repeat' split) <;> simp)

@[simp] theorem keeps_testArmed (d : Drum) (s : State) :
    ((testArmed d s).drum d).port.state = (s.drum d).port.state ∧
    ((testArmed d s).drum d).port.readings = (s.drum d).port.readings ∧
    ((testArmed d s).drum d).port.presence = (s.drum d).port.presence ∧
    ((testArmed d s).drum d).port.hold = (s.drum d).port.hold ∧
    ((testArmed d s).drum d).port.grace = (s.drum d).port.grace ∧
    ((testArmed d s).drum d).port.image = (s.drum d).port.image ∧ ((testArmed d s).drum d).cycle = (s.drum d).cycle ∧
    ((testArmed d s).drum d).tumble = (s.drum d).tumble ∧ ((testArmed d s).drum d).tangle = (s.drum d).tangle ∧
    ((testArmed d s).drum d).burner = (s.drum d).burner ∧ ((testArmed d s).drum d).dryness = (s.drum d).dryness ∧
    (testArmed d s).flight.events = s.flight.events ∧ (testArmed d s).flight.increments = s.flight.increments ∧
    (testArmed d s).flight.demands = s.flight.demands := by
  refine ⟨?_, ?_, ?_, ?_, ?_, ?_, ?_, ?_, ?_, ?_, ?_, ?_, ?_, ?_⟩ <;> (unfold testArmed; (try dsimp only); (repeat' split) <;> simp)

@[simp] theorem keeps_closeInterval (d : Drum) (n : Nat) (s : State) :
    ((closeInterval d n s).drum d).port.state = (s.drum d).port.state ∧
    ((closeInterval d n s).drum d).port.readings = (s.drum d).port.readings ∧
    ((closeInterval d n s).drum d).port.presence = (s.drum d).port.presence ∧
    ((closeInterval d n s).drum d).port.hold = (s.drum d).port.hold ∧
    ((closeInterval d n s).drum d).port.grace = (s.drum d).port.grace ∧
    ((closeInterval d n s).drum d).port.image = (s.drum d).port.image ∧
    ((closeInterval d n s).drum d).cycle = (s.drum d).cycle ∧
    ((closeInterval d n s).drum d).tumble = (s.drum d).tumble ∧
    ((closeInterval d n s).drum d).tangle = (s.drum d).tangle ∧
    ((closeInterval d n s).drum d).burner = (s.drum d).burner ∧
    ((closeInterval d n s).drum d).dryness = (s.drum d).dryness := by
  refine ⟨?_, ?_, ?_, ?_, ?_, ?_, ?_, ?_, ?_, ?_, ?_⟩ <;> (unfold closeInterval; (try dsimp only); (repeat' split) <;> simp)

@[simp] theorem keeps_checkerCloses (d : Drum) (n : Nat) (s : State) :
    ((checkerCloses d n s).drum d).port.state = (s.drum d).port.state ∧
    ((checkerCloses d n s).drum d).port.readings = (s.drum d).port.readings ∧
    ((checkerCloses d n s).drum d).port.presence = (s.drum d).port.presence ∧
    ((checkerCloses d n s).drum d).port.hold = (s.drum d).port.hold ∧
    ((checkerCloses d n s).drum d).port.grace = (s.drum d).port.grace ∧
    ((checkerCloses d n s).drum d).port.image = (s.drum d).port.image ∧
    ((checkerCloses d n s).drum d).cycle = (s.drum d).cycle ∧
    ((checkerCloses d n s).drum d).tumble = (s.drum d).tumble ∧
    ((checkerCloses d n s).drum d).tangle = (s.drum d).tangle ∧
    ((checkerCloses d n s).drum d).burner = (s.drum d).burner ∧
    ((checkerCloses d n s).drum d).dryness = (s.drum d).dryness := by
  refine ⟨?_, ?_, ?_, ?_, ?_, ?_, ?_, ?_, ?_, ?_, ?_⟩ <;> (unfold checkerCloses; (try dsimp only); (repeat' split) <;> simp)

@[simp] theorem keeps_loadCycle (d : Drum) (r : CycleRecord) (s : State) :
    ((loadCycle d r s).drum d).port.state = (s.drum d).port.state ∧
    ((loadCycle d r s).drum d).port.readings = (s.drum d).port.readings ∧
    ((loadCycle d r s).drum d).port.presence = (s.drum d).port.presence ∧
    ((loadCycle d r s).drum d).port.hold = (s.drum d).port.hold ∧
    ((loadCycle d r s).drum d).port.grace = (s.drum d).port.grace ∧
    ((loadCycle d r s).drum d).port.image.drive = (s.drum d).port.image.drive ∧
    ((loadCycle d r s).drum d).port.image.resetLockout = (s.drum d).port.image.resetLockout ∧
    ((loadCycle d r s).drum d).tumble.state = (s.drum d).tumble.state ∧
    ((loadCycle d r s).drum d).tumble.status = (s.drum d).tumble.status ∧
    ((loadCycle d r s).drum d).tumble.inForce = (s.drum d).tumble.inForce ∧
    ((loadCycle d r s).drum d).tumble.lastDir = (s.drum d).tumble.lastDir ∧
    ((loadCycle d r s).drum d).tumble.multiplier = (s.drum d).tumble.multiplier ∧
    ((loadCycle d r s).drum d).tumble.reduction = (s.drum d).tumble.reduction ∧
    ((loadCycle d r s).drum d).tangle = (s.drum d).tangle := by
  refine ⟨?_, ?_, ?_, ?_, ?_, ?_, ?_, ?_, ?_, ?_, ?_, ?_, ?_, ?_⟩ <;> (unfold loadCycle; (try dsimp only); (repeat' split) <;> simp)

@[simp] theorem keeps_startCycle (d : Drum) (s : State) :
    ((startCycle d s).drum d).port.state = (s.drum d).port.state ∧
    ((startCycle d s).drum d).port.readings = (s.drum d).port.readings ∧
    ((startCycle d s).drum d).port.presence = (s.drum d).port.presence ∧
    ((startCycle d s).drum d).port.hold = (s.drum d).port.hold ∧
    ((startCycle d s).drum d).port.grace = (s.drum d).port.grace ∧
    ((startCycle d s).drum d).port.image.resetLockout = (s.drum d).port.image.resetLockout := by
  refine ⟨?_, ?_, ?_, ?_, ?_, ?_⟩ <;> (unfold startCycle; (try dsimp only); (repeat' split) <;> simp)

@[simp] theorem keeps_resumeCycle (d : Drum) (s : State) :
    ((resumeCycle d s).drum d).port.state = (s.drum d).port.state ∧
    ((resumeCycle d s).drum d).port.readings = (s.drum d).port.readings ∧
    ((resumeCycle d s).drum d).port.presence = (s.drum d).port.presence ∧
    ((resumeCycle d s).drum d).port.hold = (s.drum d).port.hold ∧
    ((resumeCycle d s).drum d).port.grace = (s.drum d).port.grace ∧
    ((resumeCycle d s).drum d).port.image.resetLockout = (s.drum d).port.image.resetLockout := by
  refine ⟨?_, ?_, ?_, ?_, ?_, ?_⟩ <;> (unfold resumeCycle; (try dsimp only); (repeat' split) <;> simp)

@[simp] theorem keeps_setReason (d : Drum) (r : Reason) (s : State) :
    ((setReason d r s).drum d).port = (s.drum d).port ∧
    ((setReason d r s).drum d).cycle.state = (s.drum d).cycle.state ∧
    ((setReason d r s).drum d).cycle.record = (s.drum d).cycle.record ∧
    ((setReason d r s).drum d).cycle.drying = (s.drum d).cycle.drying ∧
    ((setReason d r s).drum d).cycle.cooling = (s.drum d).cycle.cooling ∧
    ((setReason d r s).drum d).tumble = (s.drum d).tumble ∧ ((setReason d r s).drum d).tangle = (s.drum d).tangle ∧
    ((setReason d r s).drum d).burner = (s.drum d).burner ∧ ((setReason d r s).drum d).dryness = (s.drum d).dryness ∧
    (setReason d r s).flight.events = s.flight.events ∧ (setReason d r s).flight.increments = s.flight.increments ∧
    (setReason d r s).flight.demands = s.flight.demands := by
  refine ⟨?_, ?_, ?_, ?_, ?_, ?_, ?_, ?_, ?_, ?_, ?_, ?_⟩ <;> (unfold setReason; (try dsimp only); (repeat' split) <;> simp)

@[simp] theorem keeps_abortCycle (d : Drum) (s : State) :
    ((abortCycle d s).drum d).port.state = (s.drum d).port.state ∧
    ((abortCycle d s).drum d).port.readings = (s.drum d).port.readings ∧
    ((abortCycle d s).drum d).port.presence = (s.drum d).port.presence ∧
    ((abortCycle d s).drum d).port.hold = (s.drum d).port.hold ∧
    ((abortCycle d s).drum d).port.grace = (s.drum d).port.grace ∧
    ((abortCycle d s).drum d).port.image.resetLockout = (s.drum d).port.image.resetLockout := by
  refine ⟨?_, ?_, ?_, ?_, ?_, ?_⟩ <;> (unfold abortCycle; (try dsimp only); (repeat' split) <;> simp)

@[simp] theorem keeps_serviceOnly (d : Drum) (s : State) :
    ((serviceOnly d s).drum d).port.readings = (s.drum d).port.readings ∧
    ((serviceOnly d s).drum d).port.presence = (s.drum d).port.presence ∧
    ((serviceOnly d s).drum d).port.hold = (s.drum d).port.hold ∧
    ((serviceOnly d s).drum d).cycle = (s.drum d).cycle ∧
    ((serviceOnly d s).drum d).dryness = (s.drum d).dryness := by
  refine ⟨?_, ?_, ?_, ?_, ?_⟩ <;> (unfold serviceOnly; (try dsimp only); (repeat' split) <;> simp)

@[simp] theorem keeps_endTest (d : Drum) (s : State) :
    ((endTest d s).drum d).port.readings = (s.drum d).port.readings ∧
    ((endTest d s).drum d).port.presence = (s.drum d).port.presence ∧
    ((endTest d s).drum d).port.hold = (s.drum d).port.hold ∧
    ((endTest d s).drum d).port.grace = (s.drum d).port.grace ∧
    ((endTest d s).drum d).port.image = (s.drum d).port.image ∧ ((endTest d s).drum d).cycle = (s.drum d).cycle ∧
    ((endTest d s).drum d).tumble = (s.drum d).tumble ∧ ((endTest d s).drum d).tangle = (s.drum d).tangle ∧
    ((endTest d s).drum d).burner = (s.drum d).burner ∧ ((endTest d s).drum d).dryness = (s.drum d).dryness ∧
    (endTest d s).flight.events = s.flight.events ∧ (endTest d s).flight.increments = s.flight.increments ∧
    (endTest d s).flight.demands = s.flight.demands := by
  refine ⟨?_, ?_, ?_, ?_, ?_, ?_, ?_, ?_, ?_, ?_, ?_, ?_, ?_⟩ <;> (unfold endTest; (try dsimp only); (repeat' split) <;> simp)

end Sys2Proof.Machine
end

