-- ==== Sys2Proof/Laws/Serve.lean ====
section
/-! SUPPORT. How a request that is offered is answered, and what the operations on a drum write: one lemma for each. -/

set_option linter.unusedTactic false

namespace Sys2Proof.Machine

/-! ### Commands and requests -/

theorem running_released {s : State} (f : State → State) (h : s.resetHeld = false) : running f s = .next (f s) := by
  simp [running, h]

theorem running_held {s : State} (f : State → State) (h : s.resetHeld = true) : running f s = .next s := by
  simp [running, h]

theorem serve_offered {s : State} {r : Request} {rest : List Request} {mine : Request → Bool}
    (h : Request → State → Answer) (ho : s.offers r rest) (hm : mine r = true) : serve mine h s = answer r rest (h r) s := by
  obtain ⟨_, hi, ht⟩ := ho
  simp [serve, hi, ht, hm]

theorem serve_other {s : State} {r : Request} {rest : List Request} {mine : Request → Bool}
    (h : Request → State → Answer) (hi : s.cabinet.inbox = r :: rest) (hm : mine r = false) : serve mine h s = s := by
  simp [serve, hi, hm]

theorem serve_blocked {s : State} {mine : Request → Bool} (h : Request → State → Answer)
    (ht : s.cabinet.takes = false) : serve mine h s = s := by
  unfold serve; split <;> simp [ht]

/-- The state in which the owner of an offered request works: the request has left the inbox. -/
def State.taken (s : State) (rest : List Request) : State := s.onCabinet fun c => { c with inbox := rest }

/-- An owner that leaves the cabinet record alone: the request is answered on the state after its work. -/
theorem answer_of_cabinet {s : State} {r : Request} {rest : List Request} (h : State → Answer)
    (hc : (h (s.taken rest)).state.cabinet = (s.taken rest).cabinet) :
    answer r rest h s =
      ({ (h (s.taken rest)).state with cabinet := s.cabinet } : State).answered r rest (h (s.taken rest)).status
        (h (s.taken rest)).data := by
  unfold State.taken at *
  unfold answer State.answered State.named State.replied
  dsimp only
  split <;> simp_all [State.onCabinet, reloadStandby, State.onDrum]

/-- A refused request changes nothing but the inbox, the reply queue and the standby timer of the drum it names. -/
theorem answer_refuse {s : State} {r : Request} {rest : List Request} (st : Status) :
    answer r rest (refuse st) s = s.answered r rest st [] :=
  answer_of_cabinet (refuse st) rfl

/-- An owner's work on one drum is answered on the state after it, which agrees with the state before besides that drum. -/
theorem answer_drum {s : State} {r : Request} {rest : List Request} {d : Drum} {op : State → State}
    (hb : ∀ u : State, (op u).besides d = u.besides d) :
    answer r rest (fun u => ok (op u)) s =
        ({ op (s.taken rest) with cabinet := s.cabinet } : State).answered r rest .ok [] ∧
      ({ op (s.taken rest) with cabinet := s.cabinet } : State).besides d = s.besides d := by
  refine ⟨answer_of_cabinet (fun u => ok (op u)) (cabinet_of_besides (hb _)), ?_⟩
  have h := hb (s.taken rest)
  simp only [State.besides, State.taken, State.drum, State.onCabinet, Besides.mk.injEq] at h ⊢
  simp_all

@[simp] theorem drum_taken (s : State) (rest : List Request) (d : Drum) : (s.taken rest).drum d = s.drum d := rfl
@[simp] theorem share_taken (s : State) (rest : List Request) (d : Drum) : (s.taken rest).share d = s.share d := rfl
@[simp] theorem flight_taken (s : State) (rest : List Request) : (s.taken rest).flight = s.flight := rfl
@[simp] theorem clock_taken (s : State) (rest : List Request) : (s.taken rest).clock = s.clock := rfl
@[simp] theorem heat_taken (s : State) (rest : List Request) : (s.taken rest).heat = s.heat := rfl
@[simp] theorem router_taken (s : State) (rest : List Request) : (s.taken rest).router = s.router := rfl
@[simp] theorem attributes_taken (s : State) (rest : List Request) : (s.taken rest).attributes = s.attributes := rfl
@[simp] theorem profiles_taken (s : State) (rest : List Request) : (s.taken rest).profiles = s.profiles := rfl

theorem drumOf_byte (d : Drum) : drumOf (byte d.val).toNat = some d := by
  revert d; decide

/-! ### Work handed on -/

theorem events_raise (src : Block) (k : EventKind) (d : Drum) (x : Option Byte) (s : State) :
    (raise src k d x s).flight.events = s.flight.events ++ [⟨src, k, d, s.clock, x⟩] := rfl

theorem increments_handIncrement (src : Block) (d : Drum) (a : Fin 8) (s : State) :
    (handIncrement src d a s).flight.increments = s.flight.increments ++ [⟨src, d, a⟩] := rfl

theorem demands_handDemand (d : Drum) (w : Nat) (s : State) :
    (handDemand d w s).flight.demands = s.flight.demands ++ [(d, w)] := rfl

/-! ### What the operations write -/

@[simp] theorem writeDrive_drive (d : Drum) (v : DriveCmd) (s : State) :
    ((writeDrive d v s).drum d).port.image.drive = v := by
  unfold writeDrive; dsimp only; split
  · simp_all
  · simp

/-- A change from RUN to STOP sets the stop time to the clock reading; a write of the held value changes nothing. -/
theorem writeDrive_stopTime (d : Drum) (v : DriveCmd) (s : State) :
    ((writeDrive d v s).drum d).port.image.stopTime =
      if v = .stop ∧ (s.drum d).port.image.drive ≠ .stop then s.clock else (s.drum d).port.image.stopTime := by
  unfold writeDrive; dsimp only; split
  · rename_i h; subst h; simp
  · rename_i h; cases v <;> simp [Ne.symm h]

theorem writeDrive_same {d : Drum} {v : DriveCmd} {s : State} (h : (s.drum d).port.image.drive = v) :
    writeDrive d v s = s := by
  simp [writeDrive, h]

@[simp] theorem writeFan_fan (d : Drum) (on : Bool) (s : State) : ((writeFan d on s).drum d).port.image.fan = on := by
  unfold writeFan; dsimp only; split
  · simp_all
  · simp

theorem writeFan_same {d : Drum} {on : Bool} {s : State} (h : (s.drum d).port.image.fan = on) : writeFan d on s = s := by
  simp [writeFan, h]

@[simp] theorem writeFlame_stage (d : Drum) (n : Nat) (s : State) :
    ((writeFlame d n s).drum d).port.image.flameStage = n := by
  unfold writeFlame; dsimp only; split
  · simp_all
  · simp

theorem writeFlame_same {d : Drum} {n : Nat} {s : State} (h : (s.drum d).port.image.flameStage = n) :
    writeFlame d n s = s := by
  simp [writeFlame, h]

theorem writeResetLockout_image (d : Drum) (s : State) :
    ((writeResetLockout d s).drum d).port.image.flameStage = 0 ∧
      ((writeResetLockout d s).drum d).port.image.resetLockout = true := by
  simp [writeResetLockout]

/-- The recomputation (R144): the burner's new fields, the FLAME stage from its view, and a changed demand handed on. -/
theorem burnerUpdate_writes (d : Drum) (s : State) :
    ((burnerUpdate d s).drum d).burner = (s.drum d).burnerNow (s.heatLimit d) ∧
      ((burnerUpdate d s).drum d).port.image.flameStage =
        ((s.drum d).burnerNow (s.heatLimit d)).view.flameStage
          ((s.drum d).burnerNow (s.heatLimit d)).commanded ∧
      (burnerUpdate d s).flight.demands =
        if (s.drum d).demandNow = (s.drum d).burner.demand then s.flight.demands
        else s.flight.demands ++ [(d, (s.drum d).demandNow)] := by
  have hd : ((s.drum d).burnerNow (s.heatLimit d)).demand = (s.drum d).demandNow := rfl
  unfold burnerUpdate
  simp only [hd]
  refine ⟨?_, ?_, ?_⟩ <;> split <;> simp [demands_handDemand]

theorem setCycle_cycle (d : Drum) (new : CycleState) (f : Cycle → Cycle) (s : State) :
    ((setCycle d new f s).drum d).cycle = { f (s.drum d).cycle with state := new } ∧
      ((setCycle d new f s).drum d).port.image.fan = new.fanOnEntry := by
  simp [setCycle]

theorem leaveRun_writes (d : Drum) (f : Tumble → Tumble) (s : State) :
    ((leaveRun d f s).drum d).tumble = f (s.drum d).tumble ∧ ((leaveRun d f s).drum d).tangle = (s.drum d).tangle.closed := by
  simp [leaveRun]

theorem enterDecel_writes (d : Drum) (target : Target) (s : State) :
    ((enterDecel d target s).drum d).tumble =
        { (s.drum d).tumble.timersOff with
          state := .decel, target := some target, decel := seconds (s.drum d).tumble.values.decelTimeout } ∧
      ((enterDecel d target s).drum d).tangle = (s.drum d).tangle.closed ∧
      ((enterDecel d target s).drum d).port.image.drive = .stop := by
  simp [enterDecel, leaveRun]

theorem enterStopped_writes (d : Drum) (s : State) :
    ((enterStopped d s).drum d).tumble =
        { (s.drum d).tumble.timersOff with state := .stopped, target := none, guardLength := none } ∧
      ((enterStopped d s).drum d).tangle = (s.drum d).tangle.closed := by
  unfold enterStopped; dsimp only; split <;> simp [leaveRun]

/-- A run start (R95): the direction and the speed of the next run stand in the DRIVE entry. -/
theorem beginRun_writes (d : Drum) (s : State) :
    ((beginRun d s).drum d).tumble.lastDir = some (s.drum d).tumble.nextDir ∧
      ((beginRun d s).drum d).tumble.state = (match (s.drum d).tumble.nextDir with | .fwd => .runFwd | .rev => .runRev) ∧
      ((beginRun d s).drum d).port.image.drive =
        .run (s.drum d).tumble.nextDir
          (runSpeed (runValues s d).1 (s.drum d).tumble.nextDir (s.drum d).tumble.reduction) ∧
      ((beginRun d s).drum d).dryness.settle = (s.drum d).settleLoad := by
  refine ⟨by simp [beginRun], ?_, by simp [beginRun], by simp [beginRun]⟩
  cases h : (s.drum d).tumble.nextDir <;> simp [beginRun, h]

end Sys2Proof.Machine
end

