-- ==== Sys2Proof/Laws/Alloc.lean ====
section
/-! SUPPORT. What the heat allocator's operations leave alone: all of the state but the allocator, the burners and FLAME
entries of the drums, and the events and demands handed on. -/

set_option linter.unusedTactic false
set_option linter.unreachableTactic false
set_option linter.unnecessarySeqFocus false

namespace Sys2Proof.Machine

/-- What no operation of the allocator touches. -/
def State.around (s : State) :
    Clock × Bool × Cabinet × Classifier × Vector Profile 8 × Router × AttrStore × List HandedFrame ×
      List (Drum × Absorbed) × List Instr :=
  (s.clock, s.resetHeld, s.cabinet, s.classifier, s.profiles, s.router, s.attributes, s.flight.frames, s.flight.absorbs,
    s.pending)

theorem around_of_besides {s t : State} {d : Drum} (h : t.besides d = s.besides d) : t.around = s.around := by
  simp only [State.besides, Besides.mk.injEq] at h
  simp [State.around, h]

@[simp] theorem around_onHeat (f : Heat → Heat) (s : State) : (s.onHeat f).around = s.around := rfl

@[simp] theorem around_onShare (d : Drum) (f : HeatShare → HeatShare) (s : State) : (s.onShare d f).around = s.around := rfl

@[simp] theorem around_raise (src : Block) (k : EventKind) (d : Drum) (x : Option Byte) (s : State) :
    (raise src k d x s).around = s.around := rfl

@[simp] theorem around_handIncrement (src : Block) (d : Drum) (a : Fin 8) (s : State) :
    (handIncrement src d a s).around = s.around := rfl

@[simp] theorem around_burnerUpdate (d : Drum) (s : State) : (burnerUpdate d s).around = s.around :=
  around_of_besides (besides_burnerUpdate d s)

@[simp] theorem around_setGranted (d : Drum) (g : Nat) (s : State) : (setGranted d g s).around = s.around := by
  simp [setGranted]

@[simp] theorem around_dropCopy (d : Drum) (s : State) : (dropCopy d s).around = s.around := by
  unfold dropCopy; split <;> simp

@[simp] theorem around_lowerGrant (d : Drum) (g : Nat) (s : State) : (lowerGrant d g s).around = s.around := by
  unfold lowerGrant; split <;> simp

@[simp] theorem around_grantEntry (e : HeatEntry) (s : State) : (grantEntry e s).around = s.around := by
  simp [grantEntry]

theorem around_grantRound {s t : State} (h : grantRound s = some t) : t.around = s.around := by
  unfold grantRound at h
  (repeat' split at h) <;> simp_all <;> subst h <;> simp

@[simp] theorem around_grantRounds (n : Nat) (s : State) : (grantRounds n s).around = s.around := by
  induction n generalizing s with
  | zero => rfl
  | succ n ih =>
    unfold grantRounds; split
    · rfl
    · rename_i t h; rw [ih, around_grantRound h]

@[simp] theorem around_grantAttempt (s : State) : (grantAttempt s).around = s.around := around_grantRounds _ _

@[simp] theorem around_raisedDemand (d : Drum) (w : Nat) (s : State) : (raisedDemand d w s).around = s.around := by
  unfold raisedDemand; split <;> simp

@[simp] theorem around_loweredDemand (d : Drum) (w : Nat) (s : State) : (loweredDemand d w s).around = s.around := by
  unfold loweredDemand; dsimp only; split <;> simp

@[simp] theorem around_takeDemand (d : Drum) (w : Nat) (s : State) : (takeDemand d w s).around = s.around := by
  unfold takeDemand; dsimp only; (repeat' split) <;> simp

@[simp] theorem around_releaseDrum (d : Drum) (s : State) : (releaseDrum d s).around = s.around := by
  unfold releaseDrum; dsimp only; split <;> simp

@[simp] theorem around_requeue (d : Drum) (s : State) : (requeue d s).around = s.around := by
  unfold requeue; dsimp only; split <;> simp

@[simp] theorem around_revokeStep (d : Drum) (s : State) : (revokeStep d s).around = s.around := by
  simp [revokeStep]

@[simp] theorem around_revokeTo (b n : Nat) (s : State) : (revokeTo b n s).around = s.around := by
  induction n generalizing s with
  | zero => rfl
  | succ n ih => unfold revokeTo; (repeat' split) <;> simp [ih]

@[simp] theorem around_setBudget (b : Nat) (s : State) : (setBudget b s).around = s.around := by simp [setBudget]

@[simp] theorem around_judgeWait (d : Drum) (s : State) : (judgeWait d s).around = s.around := by
  unfold judgeWait; (repeat' split) <;> simp

@[simp] theorem around_setLockout (d : Drum) (p : LockoutPath) (s : State) : (setLockout d p s).around = s.around := by
  unfold setLockout
  rw [around_burnerUpdate]
  exact around_of_besides (besides_onBurner d _ s)

@[simp] theorem around_heatEnd (d : Drum) (r : Reason) (s : State) : (heatEnd d r s).around = s.around :=
  around_of_besides (besides_heatEnd d r s)

@[simp] theorem around_lockOut (d : Drum) (p : LockoutPath) (s : State) : (lockOut d p s).around = s.around := by
  unfold lockOut; (repeat' split) <;> simp

theorem cabinet_of_around {s t : State} (h : t.around = s.around) : t.cabinet = s.cabinet := by
  simp only [State.around, Prod.mk.injEq] at h; exact h.2.2.1

theorem router_of_around {s t : State} (h : t.around = s.around) : t.router = s.router := by
  simp only [State.around, Prod.mk.injEq] at h; exact h.2.2.2.2.2.1

theorem attributes_of_around {s t : State} (h : t.around = s.around) : t.attributes = s.attributes := by
  simp only [State.around, Prod.mk.injEq] at h; exact h.2.2.2.2.2.2.1

/-! ### The limits, and what a grant attempt reaches -/

@[simp] theorem heat_burnerUpdate (d : Drum) (s : State) : (burnerUpdate d s).heat = s.heat :=
  heat_of_besides (besides_burnerUpdate d s)

theorem setGranted_heat (d : Drum) (g : Nat) (s : State) :
    (setGranted d g s).heat = { s.heat with shares := s.heat.shares.set d { s.heat.shares[d] with granted := g } } := by
  simp [setGranted]

theorem grantEntry_heat (e : HeatEntry) (s : State) :
    (grantEntry e s).heat =
      { s.heat with
        shares := s.heat.shares.set e.drum { s.heat.shares[e.drum] with granted := e.wanted }
        grants := s.heat.grants.filter (· != e.drum) ++ [e.drum]
        queue := s.heat.queue.filter fun x => x.drum != e.drum } := by
  simp [grantEntry, setGranted_heat, Heat.without]

end Sys2Proof.Machine
end

