-- ==== Sys2Proof/Laws/Grants.lean ====
section
/-! SUPPORT. What telling a burner its granted stage changes, and what a grant attempt comes to (R125, R126, R132). -/

namespace Sys2Proof.Machine

/-! ### Telling a burner -/

/-- A write of the FLAME entry changes its stage and marks alone. -/
theorem drum_writeFlame (d : Drum) (n : Nat) (s : State) :
    ∃ m, (writeFlame d n s).drum d =
      { s.drum d with
        port :=
          { (s.drum d).port with image := { (s.drum d).port.image with flameStage := n, flameMarks := m } } } := by
  unfold writeFlame; dsimp only; split
  · rename_i h; exact ⟨(s.drum d).port.image.flameMarks, by rw [h]⟩
  · exact ⟨_, drum_onImage_self s d _⟩

/-- A recomputation changes the burner and the FLAME entry of its drum. -/
theorem drum_burnerUpdate (d : Drum) (s : State) :
    ∃ m, (burnerUpdate d s).drum d =
      { s.drum d with
        burner := (s.drum d).burnerNow (s.heatLimit d)
        port :=
          { (s.drum d).port with
            image :=
              { (s.drum d).port.image with
                flameStage :=
                  ((s.drum d).burnerNow (s.heatLimit d)).view.flameStage
                    ((s.drum d).burnerNow (s.heatLimit d)).commanded
                flameMarks := m } } } := by
  obtain ⟨m, h⟩ := drum_writeFlame d
    (((s.drum d).burnerNow (s.heatLimit d)).view.flameStage ((s.drum d).burnerNow (s.heatLimit d)).commanded)
    (s.onBurner d fun _ => (s.drum d).burnerNow (s.heatLimit d))
  rw [drum_onBurner_self] at h
  refine ⟨m, ?_⟩
  unfold burnerUpdate; dsimp only; split
  · exact h
  · exact h

theorem drum_burnerUpdate_ne {d e : Drum} (h : e ≠ d) (s : State) : (burnerUpdate d s).drum e = s.drum e := by
  unfold burnerUpdate writeFlame handDemand
  dsimp only
  (repeat' split) <;> simp [drum_onBurner_ne, drum_onImage_ne, h]

theorem flameStage_burnerNow_le (D : DrumState) (g : Nat) :
    (D.burnerNow g).view.flameStage (D.burnerNow g).commanded ≤ min D.demandNow g := by
  simp only [DrumState.burnerNow]
  cases D.burner.view <;> simp only [View.follow] <;> (try split) <;> simp [View.flameStage]

theorem burnerTold_burnerUpdate (d : Drum) (s : State) : BurnerTold s (burnerUpdate d s) d (s.share d).granted := by
  obtain ⟨m, h⟩ := drum_burnerUpdate d s
  have hle := flameStage_burnerNow_le (s.drum d) (s.heatLimit d)
  refine ⟨?_, ?_, ?_, ?_, ?_, fun e he => drum_burnerUpdate_ne he s⟩ <;> rw [h]
  · rfl
  · rfl
  · exact Nat.le_trans (Nat.le_trans hle (Nat.min_le_right _ _)) (limited_le s d _)

theorem share_setGranted (d : Drum) (g : Nat) (s : State) :
    (s.onHeat fun h => { h with shares := h.shares.set d { h.shares[d] with granted := g } }).share d =
      { s.share d with granted := g } := by
  simp [State.share]

theorem burnerTold_setGranted (d : Drum) (g : Nat) (s : State) : BurnerTold s (setGranted d g s) d g := by
  have h := burnerTold_burnerUpdate d
    (s.onHeat fun h => { h with shares := h.shares.set d { h.shares[d] with granted := g } })
  rw [share_setGranted] at h
  exact h

/-- BurnerTold reads the drums and, before, the demands under way. -/
theorem burnerTold_of_drums {s s' t t' : State} {d : Drum} {g : Nat} (h : BurnerTold s t d g)
    (hs : s'.drums = s.drums) (ht : t'.drums = t.drums) (hl : s'.limited d g = s.limited d g) :
    BurnerTold s' t' d g := by
  unfold BurnerTold State.drum at *
  rw [hs, ht, hl]; exact h

/-- Telling a burner changes the allocator, the drums and the demands handed on alone. -/
theorem setGranted_rest (d : Drum) (g : Nat) (s : State) :
    { setGranted d g s with
        heat := s.heat
        drums := s.drums
        flight := { (setGranted d g s).flight with demands := s.flight.demands } } = s := by
  have : ∀ s0 : State,
      { burnerUpdate d s0 with
          heat := s0.heat
          drums := s0.drums
          flight := { (burnerUpdate d s0).flight with demands := s0.flight.demands } } = s0 := by
    intro s0
    unfold burnerUpdate writeFlame handDemand
    dsimp only
    (repeat' split) <;> rfl
  have h := this (s.onHeat fun h => { h with shares := h.shares.set d { h.shares[d] with granted := g } })
  have := congrArg (fun x : State => { x with heat := s.heat }) h
  exact this

/-- A requeued drum changes the allocator alone. -/
theorem requeue_rest (d : Drum) (s : State) :
    (requeue d s).flight = s.flight ∧ (requeue d s).drums = s.drums ∧ { requeue d s with heat := s.heat } = s := by
  unfold requeue; dsimp only; split <;> exact ⟨rfl, rfl, rfl⟩


theorem lowerGrant_heat (d : Drum) (g : Nat) (s : State) :
    (lowerGrant d g s).heat =
      { s.heat with
        shares := s.heat.shares.set d { s.heat.shares[d] with granted := g }
        grants := if g = 0 then s.heat.grants.filter (· != d) else s.heat.grants } := by
  unfold lowerGrant; split <;> simp [setGranted_heat, *]

theorem burnerTold_lowerGrant (d : Drum) (g : Nat) (s : State) : BurnerTold s (lowerGrant d g s) d g := by
  unfold lowerGrant; split
  · exact burnerTold_of_drums
      (burnerTold_setGranted d g (s.onHeat fun h => { h with grants := h.grants.filter (· != d) })) rfl rfl rfl
  · exact burnerTold_setGranted d g s

theorem lowerGrant_rest (d : Drum) (g : Nat) (s : State) :
    { lowerGrant d g s with
        heat := s.heat
        drums := s.drums
        flight := { (lowerGrant d g s).flight with demands := s.flight.demands } } = s := by
  unfold lowerGrant; split
  · exact congrArg (fun x : State => { x with heat := s.heat })
      (setGranted_rest d g (s.onHeat fun h => { h with grants := h.grants.filter (· != d) }))
  · exact setGranted_rest d g s

/-! ### Grant attempts -/

theorem grantEntry_queue_length {e : HeatEntry} {s : State} (h : e ∈ s.heat.queue) :
    (grantEntry e s).heat.queue.length < s.heat.queue.length := by
  rw [grantEntry_heat]
  exact List.length_filter_lt_length_iff_exists.mpr ⟨e, h, by simp⟩

theorem grantRound_queue_length {s t : State} (h : grantRound s = some t) :
    t.heat.queue.length < s.heat.queue.length := by
  unfold grantRound at h
  split at h
  · cases h
  · rename_i head rest hq
    split at h
    · cases h; exact grantEntry_queue_length (by simp [hq])
    · split at h
      · split at h
        · cases h
        · rename_i e hf
          cases h
          have := List.mem_of_find?_eq_some hf
          refine Nat.lt_of_lt_of_eq (grantEntry_queue_length (by simp [this])) ?_
          simp [hq]
      · cases h

/-- Enough rounds make a whole grant attempt. -/
theorem grantRounds_spec {n : Nat} {s : State} (h : s.heat.queue.length ≤ n) : GrantRounds s (grantRounds n s) := by
  induction n generalizing s with
  | zero =>
    have : s.heat.queue = [] := List.eq_nil_of_length_eq_zero (Nat.le_zero.mp h)
    exact .stop (by simp [grantRound, this])
  | succ n ih =>
    unfold grantRounds
    split
    · rename_i h0; exact .stop h0
    · rename_i t ht
      exact .round ht (ih (by have := grantRound_queue_length ht; omega))

theorem grantAttempt_spec (s : State) : GrantRounds s (grantAttempt s) := grantRounds_spec (Nat.le_refl _)

theorem grantRound_of_grantRounds {s t : State} (h : GrantRounds s t) : grantRound t = none := by
  induction h with
  | stop h => exact h
  | round _ _ ih => exact ih

theorem around_of_grantRounds {s t : State} (h : GrantRounds s t) : t.around = s.around := by
  induction h with
  | stop _ => rfl
  | round h _ ih => rw [ih, around_grantRound h]

/-! ### A grant attempt and the state outside the allocator -/

/-- The same state with another cabinet record and another router: a grant attempt reads neither. -/
def State.withOutside (s : State) (c : Cabinet) (r : Router) : State := { s with cabinet := c, router := r }

theorem burnerUpdate_withOutside (d : Drum) (c : Cabinet) (r : Router) (s : State) :
    burnerUpdate d (s.withOutside c r) = (burnerUpdate d s).withOutside c r := by
  have h1 : (s.withOutside c r).drum d = s.drum d := rfl
  have h2 : (s.withOutside c r).heatLimit d = s.heatLimit d := rfl
  unfold burnerUpdate writeFlame
  dsimp only
  rw [h1, h2]
  have h3 : ((s.withOutside c r).onBurner d fun _ => (s.drum d).burnerNow (s.heatLimit d)) =
    (s.onBurner d fun _ => (s.drum d).burnerNow (s.heatLimit d)).withOutside c r := rfl
  rw [h3]
  have h4 : ∀ x : State, (x.withOutside c r).drum d = x.drum d := fun _ => rfl
  rw [h4]
  (repeat' split) <;> rfl

theorem onHeat_withOutside (f : Heat → Heat) (c : Cabinet) (r : Router) (s : State) :
    (s.withOutside c r).onHeat f = (s.onHeat f).withOutside c r := rfl

theorem grantEntry_withOutside (e : HeatEntry) (c : Cabinet) (r : Router) (s : State) :
    grantEntry e (s.withOutside c r) = (grantEntry e s).withOutside c r := by
  unfold grantEntry setGranted
  rw [onHeat_withOutside, onHeat_withOutside, burnerUpdate_withOutside]

theorem grantRound_withOutside (c : Cabinet) (r : Router) (s : State) :
    grantRound (s.withOutside c r) = (grantRound s).map (·.withOutside c r) := by
  have h : (s.withOutside c r).heat = s.heat := rfl
  unfold grantRound
  rw [h]
  (repeat' split) <;> simp_all [grantEntry_withOutside, onHeat_withOutside]

theorem grantRounds_withOutside (c : Cabinet) (r : Router) (n : Nat) (s : State) :
    grantRounds n (s.withOutside c r) = (grantRounds n s).withOutside c r := by
  induction n generalizing s with
  | zero => rfl
  | succ n ih =>
    unfold grantRounds
    rw [grantRound_withOutside]
    cases grantRound s with
    | none => rfl
    | some t => exact ih t

theorem grantRounds_of_withOutside {s t : State} (c : Cabinet) (r : Router) (h : GrantRounds s t) :
    GrantRounds (s.withOutside c r) (t.withOutside c r) := by
  induction h with
  | stop h => exact .stop (by rw [grantRound_withOutside, h]; rfl)
  | round h _ ih => exact .round (by rw [grantRound_withOutside, h]; rfl) ih

end Sys2Proof.Machine
end

