-- ==== Sys2Proof/Laws/Drive.lean ====
section
/-! SUPPORT. What the shared operations of the tumble controller make of the controller and of the DRIVE entry (R94 to
R106): a step of an argument about the DRIVE entry cites these lemmas and those of Laws/Serve.lean. -/

namespace Sys2Proof.Machine

theorem beginRun_tumble (d : Drum) (s : State) :
    ((beginRun d s).drum d).tumble =
      { (s.drum d).tumble with
        state := (match (s.drum d).tumble.nextDir with | .fwd => .runFwd | .rev => .runRev)
        target := none
        values := (runValues s d).1
        noReversal := (runValues s d).2
        lastDir := some (s.drum d).tumble.nextDir
        first255 := false
        runTimer := 0
        runTiming := false
        baseTaken := false
        revCount := 0
        statusWait := seconds (runValues s d).1.decelTimeout
        decel := none
        dwell := none
        recoverDelay := none } := by
  cases h : (s.drum d).tumble.nextDir <;> simp [beginRun, h]

/-- The start dwell begins a run, or enters DWELL with the DRIVE entry as it stands, by the time since the held status. -/
theorem startDwell_of_status {d : Drum} {s : State} {st : DriveStatus} (h : (s.drum d).tumble.status = some st) :
    (2000 ≤ elapsed s.clock st.arrival → startDwell d s = beginRun d s) ∧
      (elapsed s.clock st.arrival < 2000 →
        ((startDwell d s).drum d).tumble =
            { (s.drum d).tumble.timersOff with
              state := .dwell, target := none, dwell := some (2000 - elapsed s.clock st.arrival) } ∧
          ((startDwell d s).drum d).port.image.drive = (s.drum d).port.image.drive) := by
  refine ⟨fun hr => ?_, fun hr => ?_⟩
  · unfold startDwell; rw [h]; dsimp only; rw [if_pos hr]
  · unfold startDwell; rw [h]; dsimp only; rw [if_neg (Nat.not_le.mpr hr)]
    exact ⟨(leaveRun_writes d _ s).1, by simp⟩

theorem clearPersistence_writes (d : Drum) (s : State) :
    ((clearPersistence d s).drum d).tumble = { (s.drum d).tumble with multiplier := 1, reduction := 0 } ∧
      ((clearPersistence d s).drum d).port.image.drive = (s.drum d).port.image.drive := by
  simp [clearPersistence]

/-- HOLD brings a tumble controller to rest or on its way to rest, from any state (R103). -/
theorem comesToRest_tumbleHold (d : Drum) (s : State)
    (h : (s.drum d).tumble.recoverDelay ≠ none → (s.drum d).tumble.state = .recover) :
    ((tumbleHold d s).drum d).tumble.comesToRest := by
  have hn : (s.drum d).tumble.state = .decel → (s.drum d).tumble.recoverDelay = none := fun hs =>
    Decidable.byContradiction fun hr => by rw [h hr] at hs; exact nomatch hs
  unfold tumbleHold Tumble.comesToRest
  cases hs : (s.drum d).tumble.state <;> simp only [hs]
  case stopped => exact .inl trivial
  case runFwd | runRev => rw [(enterDecel_writes d .stopped s).1]; exact .inr ⟨.inl rfl, rfl, rfl⟩
  case decel => simp [setTarget, hs, hn hs]
  case dwell => rw [(enterStopped_writes d s).1]; exact .inl rfl
  case recover =>
    split
    · rw [(enterStopped_writes d s).1]; exact .inl rfl
    · rename_i hr; simp [setTarget, hs, by simpa using hr]

/-- After HOLD the DRIVE entry is STOP, if it was STOP outside a run (R97, R103). -/
theorem drive_tumbleHold (d : Drum) (s : State)
    (h : (s.drum d).tumble.state.running = false → (s.drum d).port.image.drive = .stop) :
    ((tumbleHold d s).drum d).port.image.drive = .stop := by
  unfold tumbleHold
  cases hs : (s.drum d).tumble.state <;> rw [hs] at h <;> simp only [hs]
  case stopped => exact h rfl
  case runFwd | runRev => exact (enterDecel_writes d .stopped s).2.2
  case decel => simpa [setTarget] using h rfl
  case dwell => simpa using h rfl
  case recover => split <;> simpa [setTarget] using h rfl

theorem comesToRest_tumbleStop (d : Drum) (s : State)
    (h : (s.drum d).tumble.recoverDelay ≠ none → (s.drum d).tumble.state = .recover) :
    ((tumbleStop d s).drum d).tumble.comesToRest := by
  have hh := comesToRest_tumbleHold d s h
  unfold tumbleStop
  unfold Tumble.comesToRest at hh ⊢
  rw [(clearPersistence_writes d _).1]
  exact hh

theorem drive_tumbleStop (d : Drum) (s : State)
    (h : (s.drum d).tumble.state.running = false → (s.drum d).port.image.drive = .stop) :
    ((tumbleStop d s).drum d).port.image.drive = .stop := by
  unfold tumbleStop
  rw [(clearPersistence_writes d _).2]
  exact drive_tumbleHold d s h

/-- The link-lost notice writes STOP, drops the held status and leaves the controller at rest or on its way to rest
(R105). -/
theorem tumbleNotice_rests (d : Drum) (s : State) :
    ((tumbleNotice d s).drum d).tumble.comesToRest ∧ ((tumbleNotice d s).drum d).tumble.status = none ∧
      ((tumbleNotice d s).drum d).port.image.drive = .stop := by
  unfold tumbleNotice Tumble.comesToRest
  cases hs : (s.drum d).tumble.state <;> simp only
  case stopped => simp [hs]
  all_goals
    refine ⟨?_, ?_, by simp⟩ <;> rw [(leaveRun_writes d _ _).1]
    · exact .inr ⟨.inl rfl, rfl, rfl⟩
    · simp [Tumble.timersOff]

/-- DRUM_RESET leaves the tumble controller STOPPED with STOP written, the held status and the profile values kept
(R106). -/
theorem tumbleReset_stops (d : Drum) (s : State) :
    ((tumbleReset d s).drum d).tumble.state = .stopped ∧ ((tumbleReset d s).drum d).tumble.recoverDelay = none ∧
      ((tumbleReset d s).drum d).tumble.status = (s.drum d).tumble.status ∧
      ((tumbleReset d s).drum d).tumble.values = (s.drum d).tumble.values ∧
      ((tumbleReset d s).drum d).port.image.drive = .stop := by
  simp [tumbleReset, leaveRun, Tumble.timersOff]

/-! ### The ends of a run and of a guard tumble -/

theorem flight_burnerUpdate (d : Drum) (s : State) :
    (burnerUpdate d s).flight.events = s.flight.events ∧
      (burnerUpdate d s).flight.increments = s.flight.increments := by
  unfold burnerUpdate writeFlame handDemand
  dsimp only
  constructor <;> (repeat' split) <;> rfl

theorem stopTime_burnerUpdate (d : Drum) (s : State) :
    ((burnerUpdate d s).drum d).port.image.stopTime = (s.drum d).port.image.stopTime := by
  obtain ⟨m, h⟩ := drum_burnerUpdate d s
  rw [h]

/-- What the entry to DECEL reports and stamps: nothing handed on but a demand, and the stop time at a RUN that ends. -/
theorem enterDecel_rest (d : Drum) (target : Target) (s : State) :
    (enterDecel d target s).flight.events = s.flight.events ∧
      (enterDecel d target s).flight.increments = s.flight.increments ∧
      ((s.drum d).port.image.drive ≠ .stop → ((enterDecel d target s).drum d).port.image.stopTime = s.clock) := by
  unfold enterDecel leaveRun
  refine ⟨?_, ?_, fun h => ?_⟩
  · rw [(flight_burnerUpdate d _).1]; simp
  · rw [(flight_burnerUpdate d _).2]; simp
  · rw [stopTime_burnerUpdate]; simp [writeDrive_stopTime, h]

/-- A controller that enters STOPPED reports a guard tumble under way as done (R97, R101, R104). -/
theorem guardTumbleReported_enterStopped (d : Drum) (s : State) : GuardTumbleReported s (enterStopped d s) d := by
  refine ⟨by rw [(enterStopped_writes d s).1], by rw [(enterStopped_writes d s).1], ?_, ?_⟩
  · intro x g hl hc hr hg
    unfold enterStopped guardTumbleDone
    simp [Option.isSome_iff_ne_none.mpr hl, hc, hr, hg]
  · intro h
    unfold enterStopped guardTumbleDone
    rcases h with h | h
    · simp [h]
    · cases hc : (s.drum d).cycle.state <;> simp_all

/-- A normal end of a run (R96, R114). -/
theorem endedNormally_endNormalRun (d : Drum) (s : State) : EndedNormally s (endNormalRun d s) d := by
  obtain ⟨ht, hm, hd⟩ := enterDecel_writes d .dwell s
  obtain ⟨he, hi, hs⟩ := enterDecel_rest d .dwell s
  have hk := keeps_enterDecel d .dwell s
  unfold EndedNormally endNormalRun clearPersistence
  simp [ht, hm, hd, he, hi, hk, Tumble.timersOff, Tangle.closed]
  exact hs

/-- An early end of a run, with the persistence rule where the persist count is reached (R112, R113). -/
theorem endedEarly_endEarlyRun (d : Drum) (s : State) : EndedEarly s (endEarlyRun d s) d (s.drum d).tangle.count := by
  obtain ⟨ht, hm, hd⟩ := enterDecel_writes d .dwell s
  obtain ⟨he, hi, hs⟩ := enterDecel_rest d .dwell s
  have hk := keeps_enterDecel d .dwell s
  have hc : (enterDecel d .dwell s).clock = s.clock := clock_of_besides (besides_enterDecel d .dwell s)
  unfold EndedEarly endEarlyRun applyPersistence
  by_cases h : (s.drum d).tumble.values.persistCount ≤ (s.drum d).tangle.earlyRuns + 1
  · cases ha : (s.drum d).tumble.values.persistAction <;>
      simp [ht, hm, hd, hk, h, ha, Tumble.persist, Tumble.timersOff, Tangle.closed, events_raise, Nat.not_lt.mpr h]
    all_goals simp [raise, handIncrement, State.onFlight, he, hi, hc]
  · simp [ht, hm, hd, hk, h, Tumble.timersOff, Tangle.closed, increments_handIncrement, Nat.not_le.mp h]
    simp [raise, handIncrement, State.onFlight, he, hi, hc]

/-- A recomputation with the rest flag clear leaves demand and commanded stage 0, and no view that calls for heat. -/
theorem burnerNow_of_rest {D : DrumState} (h : D.burner.rest = false) (g : Nat) :
    D.burnerNow g =
      { D.burner with
        demand := 0
        commanded := 0
        view :=
          if D.burner.view = .lighting ∨ D.burner.view = .burning then .idle else D.burner.view
        trial := none
        stable := none } := by
  have hc : D.permissiveCap = 0 := by unfold DrumState.permissiveCap; cases D.cycle.record <;> simp [h]
  cases hv : D.burner.view <;> simp [DrumState.burnerNow, DrumState.demandNow, hc, hv, View.follow]

/-- The tumble controller's part of the link-lost notice, and the burner as its recomputation leaves it (R105). -/
theorem tumbleNotice_writes (d : Drum) (s : State) :
    ((tumbleNotice d s).drum d).tumble =
        (if (s.drum d).tumble.state = .stopped then { (s.drum d).tumble with status := none }
         else
          { (s.drum d).tumble.timersOff with
            status := none
            state := .decel
            target := some .stopped
            decel := seconds (s.drum d).tumble.values.decelTimeout }) ∧
      ((tumbleNotice d s).drum d).tangle =
        (if (s.drum d).tumble.state = .stopped then (s.drum d).tangle else (s.drum d).tangle.closed) ∧
      (((tumbleNotice d s).drum d).burner = (s.drum d).burner ∨
        ∃ (D : DrumState) (g : Nat), D.burner = (s.drum d).burner ∧ ((tumbleNotice d s).drum d).burner = D.burnerNow g) := by
  unfold tumbleNotice leaveRun
  cases hs : (s.drum d).tumble.state <;> simp only
  case stopped => simp
  all_goals
    refine ⟨by simp [Tumble.timersOff], by simp, .inr ?_⟩
    obtain ⟨m, h⟩ := drum_burnerUpdate d
      (((writeDrive d .stop (s.onTumble d fun t => { t with status := none })).onTumble d fun t =>
        { t.timersOff with state := .decel, target := some .stopped, decel := seconds t.values.decelTimeout }).onTangle d
          Tangle.closed)
    rw [h]
    exact ⟨_, _, by simp, rfl⟩

/-- The link-lost notice at the tumble controller and the burner supervisor (R105, R152). -/
theorem noticeTaken_linkLostNotice (d : Drum) (s : State) : NoticeTaken s (linkLostNotice d s) d := by
  obtain ⟨ht, hm, hb⟩ := tumbleNotice_writes d s
  have hd := (tumbleNotice_rests d s).2.2
  have hk := keeps_tumbleNotice d s
  obtain ⟨m, h⟩ := drum_burnerUpdate d
    (((tumbleNotice d s).onBurner d fun b => { b with flame := none }).onBurner d fun b => { b with rest := false })
  rw [burnerNow_of_rest (by simp)] at h
  unfold NoticeTaken linkLostNotice burnerNotice setRest
  rw [h]
  have hz : ∀ v : View, v.flameStage 0 = 0 := fun v => by cases v <;> rfl
  refine ⟨by simpa using hd, by simp [hz], ?_, ?_, ?_, ?_, ?_⟩
  · simp only [drum_onBurner_self]
    rw [ht]
    by_cases hs : (s.drum d).tumble.state = .stopped <;> simp [hs, Tumble.timersOff]
  · intro hs
    simp [hm, hs, Tangle.closed]
  · intro _
    simp only [drum_onBurner_self]
    rw [ht, hm]
    by_cases hs : (s.drum d).tumble.state = .stopped <;> simp [hs, Tumble.timersOff, Tangle.closed]
  · intro _
    simp only [drum_onBurner_self]
    rw [ht]
    by_cases hs : (s.drum d).tumble.state = .stopped <;> simp [hs, Tumble.timersOff]
  · rcases hb with hb | ⟨D, g, hD, hb⟩
    · simp [hb]
    · simp only [drum_onBurner_self, hb, DrumState.burnerNow, hD]
      cases (s.drum d).burner.view <;> simp [View.follow] <;> split <;> simp_all

end Sys2Proof.Machine
end

