-- ==== Sys2Proof/Laws/Flame.lean ====
section
/-! SUPPORT. Every operation on a drum keeps its FLAME image stage within the permissive cap and the grant (R144): the
recomputation establishes it, the other operations leave what it reads. -/

set_option linter.unusedTactic false
set_option linter.unnecessarySeqFocus false
set_option linter.unreachableTactic false
set_option linter.unusedVariables false

namespace Sys2Proof.Machine

theorem flameOk_congr {s t : State} {d : Drum}
    (hf : (t.drum d).port.image.flameStage = (s.drum d).port.image.flameStage)
    (hc : (t.drum d).permissiveCap = (s.drum d).permissiveCap) (hg : (t.share d).granted = (s.share d).granted)
    (hd : t.flight.demands = s.flight.demands) (h : FlameOk s d) : FlameOk t d := by
  unfold FlameOk at *; rw [hf, hc, hg, hd]; exact h

theorem flameOk_onPort {s : State} {d : Drum} {f : Port → Port} (h : FlameOk s d)
    (hi : (f (s.drum d).port).image.flameStage = (s.drum d).port.image.flameStage)
    (hr : (f (s.drum d).port).readings = (s.drum d).port.readings) : FlameOk (s.onPort d f) d :=
  flameOk_congr (by simp [hi]) (by simp [DrumState.permissiveCap, hr]) (by simp) (by simp) h

theorem flameOk_onImage {s : State} {d : Drum} {f : Image → Image} (h : FlameOk s d)
    (hi : (f (s.drum d).port.image).flameStage = (s.drum d).port.image.flameStage) : FlameOk (s.onImage d f) d :=
  flameOk_onPort h hi rfl

theorem flameOk_onCycle {s : State} {d : Drum} {f : Cycle → Cycle} (h : FlameOk s d)
    (hs : (f (s.drum d).cycle).state = (s.drum d).cycle.state)
    (hr : (f (s.drum d).cycle).record = (s.drum d).cycle.record) : FlameOk (s.onCycle d f) d :=
  flameOk_congr (by simp) (by simp [DrumState.permissiveCap, hs, hr]) (by simp) (by simp) h

theorem flameOk_onTumble {s : State} {d : Drum} {f : Tumble → Tumble} (h : FlameOk s d)
    (hs : (f (s.drum d).tumble).state = (s.drum d).tumble.state) : FlameOk (s.onTumble d f) d :=
  flameOk_congr (by simp) (by simp [DrumState.permissiveCap, hs]) (by simp) (by simp) h

theorem flameOk_onTangle {s : State} {d : Drum} {f : Tangle → Tangle} (h : FlameOk s d) : FlameOk (s.onTangle d f) d :=
  flameOk_congr (by simp) (by simp [DrumState.permissiveCap]) (by simp) (by simp) h

theorem flameOk_onBurner {s : State} {d : Drum} {f : Burner → Burner} (h : FlameOk s d)
    (hl : (f (s.drum d).burner).lockout = (s.drum d).burner.lockout)
    (hr : (f (s.drum d).burner).rest = (s.drum d).burner.rest) : FlameOk (s.onBurner d f) d :=
  flameOk_congr (by simp) (by simp [DrumState.permissiveCap, hl, hr]) (by simp) (by simp) h

theorem flameOk_onDryness {s : State} {d : Drum} {f : Dryness → Dryness} (h : FlameOk s d) :
    FlameOk (s.onDryness d f) d :=
  flameOk_congr (by simp) (by simp [DrumState.permissiveCap]) (by simp) (by simp) h

theorem flameOk_raise {s : State} {d e : Drum} {src : Block} {k : EventKind} {x : Option Byte} (h : FlameOk s d) :
    FlameOk (raise src k e x s) d := h

theorem flameOk_handIncrement {s : State} {d e : Drum} {src : Block} {a : Fin 8} (h : FlameOk s d) :
    FlameOk (handIncrement src e a s) d := h

theorem flameOk_handDemand {s : State} {d : Drum} {w : Nat} (h : FlameOk s d)
    (hw : (s.drum d).port.image.flameStage ≤ w) : FlameOk (handDemand d w s) d := by
  refine ⟨h.1, h.2.1, fun p hp he => ?_⟩
  rcases List.mem_append.mp hp with hp | hp
  · exact h.2.2 p hp he
  · simp only [List.mem_singleton] at hp; rw [hp]; exact hw

@[simp] theorem persist_state (t : Tumble) : t.persist.state = t.state := by
  unfold Tumble.persist; split <;> rfl

@[simp] theorem takeCounter_state (t : Tumble) (c : BitVec 16) : (t.takeCounter c).state = t.state := by
  unfold Tumble.takeCounter; split <;> rfl

@[simp] theorem markAll_flameStage (i : Image) (c : DrumConfig) : (i.markAll c).flameStage = i.flameStage := rfl

@[simp] theorem clearMarks_flameStage (i : Image) (x : Sender) : (i.clearMarks x).flameStage = i.flameStage := by
  cases x <;> rfl

@[simp] theorem dropUnbound_flameStage (i : Image) (c : DrumConfig) : (i.dropUnbound c).flameStage = i.flameStage :=
  rfl

theorem flameStage_writeFlame (d : Drum) (n : Nat) (s : State) :
    ((writeFlame d n s).drum d).port.image.flameStage = n := by
  unfold writeFlame; dsimp only; split <;> simp_all

theorem permissiveCap_writeFlame (d : Drum) (n : Nat) (s : State) :
    ((writeFlame d n s).drum d).permissiveCap = (s.drum d).permissiveCap := by
  unfold writeFlame; dsimp only; split <;> simp [DrumState.permissiveCap]

theorem flameStage_le (v : View) (n : Nat) : v.flameStage n ≤ n := by cases v <;> simp [View.flameStage]

/-- A write of stage 0 is always permitted. -/
theorem flameOk_writeFlame_zero (d : Drum) (s : State) : FlameOk (writeFlame d 0 s) d := by
  unfold FlameOk; rw [flameStage_writeFlame]; simp

theorem flameOk_writeResetLockout (d : Drum) (s : State) : FlameOk (writeResetLockout d s) d := by
  simp [FlameOk, writeResetLockout]

theorem flight_writeFlame (d : Drum) (n : Nat) (s : State) : (writeFlame d n s).flight = s.flight := by
  unfold writeFlame; dsimp only; split <;> rfl

/-- The recomputation of R144 leaves the FLAME image stage permitted, whatever it found. -/
theorem flameOk_burnerUpdate (d : Drum) (s : State) : FlameOk (burnerUpdate d s) d := by
  obtain ⟨b, hb⟩ : ∃ b, b = (s.drum d).burnerNow (s.heatLimit d) := ⟨_, rfl⟩
  have hle : b.view.flameStage b.commanded ≤ min (s.drum d).demandNow (s.heatLimit d) :=
    Nat.le_trans (flameStage_le _ _) (by rw [hb]; exact Nat.le_refl _)
  have hcap : ((s.onBurner d fun _ => b).drum d).permissiveCap = (s.drum d).permissiveCap := by
    rw [hb]; simp [DrumState.permissiveCap, DrumState.burnerNow]
  have hg := share_of_besides (besides_writeFlame d (b.view.flameStage b.commanded) (s.onBurner d fun _ => b)) d
  have hdem : (s.drum d).demandNow ≤ (s.drum d).permissiveCap := Nat.min_le_right _ _
  have hlim := limited_le s d (s.share d).granted
  have key : FlameOk (writeFlame d (b.view.flameStage b.commanded) (s.onBurner d fun _ => b)) d := by
    unfold FlameOk
    rw [flameStage_writeFlame, permissiveCap_writeFlame, hcap, hg, flight_writeFlame]
    unfold State.heatLimit at hle
    refine ⟨by omega, by simp only [share_onBurner]; omega, fun p hp he => ?_⟩
    have := limited_le_demand (s := s) (s.share d).granted hp he
    omega
  unfold burnerUpdate; dsimp only; rw [← hb]; split
  · exact key
  · refine flameOk_handDemand key ?_
    rw [flameStage_writeFlame, hb]
    have : ((s.drum d).burnerNow (s.heatLimit d)).demand = (s.drum d).demandNow := rfl
    rw [this, ← hb]; omega

theorem flameOk_writeDrive {s : State} {d : Drum} {v : DriveCmd} (h : FlameOk s d) :
    FlameOk (writeDrive d v s) d := by
  unfold writeDrive; (try dsimp only); (repeat' split) <;>
    (with_reducible repeat first | exact h | apply flameOk_onImage) <;>
    first | rfl | (simp; done) | (split <;> rfl) | (simp; split <;> simp; done)

theorem flameOk_writeFan {s : State} {d : Drum} {on : Bool} (h : FlameOk s d) :
    FlameOk (writeFan d on s) d := by
  unfold writeFan; (try dsimp only); (repeat' split) <;>
    (with_reducible repeat first | exact h | apply flameOk_onImage) <;>
    first | rfl | (simp; done) | (split <;> rfl) | (simp; split <;> simp; done)

theorem flameOk_settleStandby {s : State} {d : Drum} (h : FlameOk s d) : FlameOk (settleStandby d s) d :=
  flameOk_congr (by simp [settleStandby]) (by simp [settleStandby, DrumState.permissiveCap]) (show _ = (s.share d).granted from rfl) rfl h

theorem flameOk_reloadStandby {s : State} {d : Drum} (h : FlameOk s d) : FlameOk (reloadStandby d s) d :=
  flameOk_congr (by simp [reloadStandby]) (by simp [reloadStandby, DrumState.permissiveCap]) (show _ = (s.share d).granted from rfl) rfl h

theorem flameOk_setWanted {s : State} {d : Drum} {w : Nat} (h : FlameOk s d) :
    FlameOk (setWanted d w s) d := by
  unfold setWanted; (try dsimp only); (repeat' split) <;>
    (with_reducible repeat first | exact h | apply flameOk_burnerUpdate | apply flameOk_onBurner) <;>
    first | rfl | (simp; done) | (split <;> rfl) | (simp; split <;> simp; done)

theorem flameOk_setReading {s : State} {d : Drum} {x : Discrete} {v : Bool} (h : FlameOk s d) :
    FlameOk (setReading d x v s) d := by
  unfold setReading; (try dsimp only); (repeat' split) <;>
    (with_reducible repeat first | exact h | apply flameOk_burnerUpdate | apply flameOk_onPort) <;>
    first | rfl | (simp; done) | (split <;> rfl) | (simp; split <;> simp; done)

theorem flameOk_setRest {s : State} {d : Drum} {v : Bool} (h : FlameOk s d) :
    FlameOk (setRest d v s) d := by
  unfold setRest; (try dsimp only); (repeat' split) <;>
    (with_reducible repeat first | exact h | apply flameOk_burnerUpdate | apply flameOk_onBurner) <;>
    first | rfl | (simp; done) | (split <;> rfl) | (simp; split <;> simp; done)

theorem flameOk_burnerNotice {s : State} {d : Drum} (h : FlameOk s d) :
    FlameOk (burnerNotice d s) d := by
  unfold burnerNotice; (try dsimp only); (repeat' split) <;>
    (with_reducible repeat first | exact h | apply flameOk_setRest | apply flameOk_onBurner) <;>
    first | rfl | (simp; done) | (split <;> rfl) | (simp; split <;> simp; done)

theorem flameOk_leaveRun {s : State} {d : Drum} {f : Tumble → Tumble} (h : FlameOk s d) :
    FlameOk (leaveRun d f s) d := by
  unfold leaveRun; (try dsimp only); (repeat' split) <;>
    (with_reducible repeat first | exact h | apply flameOk_burnerUpdate | apply flameOk_onTumble | apply flameOk_onTangle) <;>
    first | rfl | (simp; done) | (split <;> rfl) | (simp; split <;> simp; done)

theorem flameOk_guardTumbleDone {s : State} {d : Drum} (h : FlameOk s d) :
    FlameOk (guardTumbleDone d s) d := by
  unfold guardTumbleDone; (try dsimp only); (repeat' split) <;>
    (with_reducible repeat first | exact h | apply flameOk_writeFan | apply flameOk_onCycle) <;>
    first | rfl | (simp; done) | (split <;> rfl) | (simp; split <;> simp; done)

theorem flameOk_enterStopped {s : State} {d : Drum} (h : FlameOk s d) :
    FlameOk (enterStopped d s) d := by
  unfold enterStopped; (try dsimp only); (repeat' split) <;>
    (with_reducible repeat first | exact h | apply flameOk_leaveRun | apply flameOk_guardTumbleDone) <;>
    first | rfl | (simp; done) | (split <;> rfl) | (simp; split <;> simp; done)

theorem flameOk_enterDecel {s : State} {d : Drum} {target : Target} (h : FlameOk s d) :
    FlameOk (enterDecel d target s) d := by
  unfold enterDecel; (try dsimp only); (repeat' split) <;>
    (with_reducible repeat first | exact h | apply flameOk_writeDrive | apply flameOk_leaveRun) <;>
    first | rfl | (simp; done) | (split <;> rfl) | (simp; split <;> simp; done)

theorem flameOk_beginRun {s : State} {d : Drum} (h : FlameOk s d) :
    FlameOk (beginRun d s) d := by
  unfold beginRun; (try dsimp only); (repeat' split) <;>
    (with_reducible repeat first | exact h | apply flameOk_writeDrive | apply flameOk_burnerUpdate | apply flameOk_onTumble | apply flameOk_onTangle | apply flameOk_onDryness) <;>
    first | rfl | (simp; done) | (split <;> rfl) | (simp; split <;> simp; done)

theorem flameOk_startDwell {s : State} {d : Drum} (h : FlameOk s d) :
    FlameOk (startDwell d s) d := by
  unfold startDwell; (try dsimp only); (repeat' split) <;>
    (with_reducible repeat first | exact h | apply flameOk_leaveRun | apply flameOk_beginRun) <;>
    first | rfl | (simp; done) | (split <;> rfl) | (simp; split <;> simp; done)

theorem flameOk_startFromStopped {s : State} {d : Drum} (h : FlameOk s d) :
    FlameOk (startFromStopped d s) d := by
  unfold startFromStopped; (try dsimp only); (repeat' split) <;>
    (with_reducible repeat first | exact h | apply flameOk_enterDecel | apply flameOk_startDwell) <;>
    first | rfl | (simp; done) | (split <;> rfl) | (simp; split <;> simp; done)

theorem flameOk_setTarget {s : State} {d : Drum} {target : Target} (h : FlameOk s d) :
    FlameOk (setTarget d target s) d := by
  unfold setTarget; (try dsimp only); (repeat' split) <;>
    (with_reducible repeat first | exact h | apply flameOk_onTumble) <;>
    first | rfl | (simp; done) | (split <;> rfl) | (simp; split <;> simp; done)

theorem flameOk_firstStart {s : State} {d : Drum} {n : Nat} (h : FlameOk s d) :
    FlameOk (firstStart d n s) d := by
  unfold firstStart; (try dsimp only); (repeat' split) <;>
    (with_reducible repeat first | exact h | apply flameOk_onTumble) <;>
    first | rfl | (simp; done) | (split <;> rfl) | (simp; split <;> simp; done)

theorem flameOk_tumbleStart {s : State} {d : Drum} {n : Nat} (h : FlameOk s d) :
    FlameOk (tumbleStart d n s) d := by
  unfold tumbleStart; (try dsimp only); (repeat' split) <;>
    (with_reducible repeat first | exact h | apply flameOk_startFromStopped | apply flameOk_setTarget | apply flameOk_onTumble) <;>
    first | rfl | (simp; done) | (split <;> rfl) | (simp; split <;> simp; done)

theorem flameOk_tumbleHold {s : State} {d : Drum} (h : FlameOk s d) :
    FlameOk (tumbleHold d s) d := by
  unfold tumbleHold; (try dsimp only); (repeat' split) <;>
    (with_reducible repeat first | exact h | apply flameOk_enterStopped | apply flameOk_enterDecel | apply flameOk_setTarget) <;>
    first | rfl | (simp; done) | (split <;> rfl) | (simp; split <;> simp; done)

theorem flameOk_clearPersistence {s : State} {d : Drum} (h : FlameOk s d) :
    FlameOk (clearPersistence d s) d := by
  unfold clearPersistence; (try dsimp only); (repeat' split) <;>
    (with_reducible repeat first | exact h | apply flameOk_onTumble | apply flameOk_onTangle) <;>
    first | rfl | (simp; done) | (split <;> rfl) | (simp; split <;> simp; done)

theorem flameOk_tumbleStop {s : State} {d : Drum} (h : FlameOk s d) :
    FlameOk (tumbleStop d s) d := by
  unfold tumbleStop; (try dsimp only); (repeat' split) <;>
    (with_reducible repeat first | exact h | apply flameOk_tumbleHold | apply flameOk_clearPersistence) <;>
    first | rfl | (simp; done) | (split <;> rfl) | (simp; split <;> simp; done)

theorem flameOk_tumbleGuard {s : State} {d : Drum} {n : Nat} (h : FlameOk s d) :
    FlameOk (tumbleGuard d n s) d := by
  unfold tumbleGuard; (try dsimp only); (repeat' split) <;>
    (with_reducible repeat first | exact h | apply flameOk_startFromStopped | apply flameOk_onTumble) <;>
    first | rfl | (simp; done) | (split <;> rfl) | (simp; split <;> simp; done)

theorem flameOk_endNormalRun {s : State} {d : Drum} (h : FlameOk s d) :
    FlameOk (endNormalRun d s) d := by
  unfold endNormalRun; (try dsimp only); (repeat' split) <;>
    (with_reducible repeat first | exact h | apply flameOk_enterDecel | apply flameOk_clearPersistence) <;>
    first | rfl | (simp; done) | (split <;> rfl) | (simp; split <;> simp; done)

theorem flameOk_applyPersistence {s : State} {d : Drum} (h : FlameOk s d) :
    FlameOk (applyPersistence d s) d := by
  unfold applyPersistence; (try dsimp only); (repeat' split) <;>
    (with_reducible repeat first | exact h | apply flameOk_onTumble | apply flameOk_onTangle | apply flameOk_raise) <;>
    first | rfl | (simp; done) | (split <;> rfl) | (simp; split <;> simp; done)

theorem flameOk_endEarlyRun {s : State} {d : Drum} (h : FlameOk s d) :
    FlameOk (endEarlyRun d s) d := by
  unfold endEarlyRun; (try dsimp only); (repeat' split) <;>
    (with_reducible repeat first | exact h | apply flameOk_enterDecel | apply flameOk_applyPersistence | apply flameOk_onTangle | apply flameOk_raise | apply flameOk_handIncrement) <;>
    first | rfl | (simp; done) | (split <;> rfl) | (simp; split <;> simp; done)

theorem flameOk_reachTarget {s : State} {d : Drum} (h : FlameOk s d) :
    FlameOk (reachTarget d s) d := by
  unfold reachTarget; (try dsimp only); (repeat' split) <;>
    (with_reducible repeat first | exact h | apply flameOk_leaveRun | apply flameOk_enterStopped | apply flameOk_startDwell | apply flameOk_onTumble) <;>
    first | rfl | (simp; done) | (split <;> rfl) | (simp; split <;> simp; done)

theorem flameOk_recoverConfirmed {s : State} {d : Drum} (h : FlameOk s d) :
    FlameOk (recoverConfirmed d s) d := by
  unfold recoverConfirmed; (try dsimp only); (repeat' split) <;>
    (with_reducible repeat first | exact h | apply flameOk_enterStopped | apply flameOk_onTumble) <;>
    first | rfl | (simp; done) | (split <;> rfl) | (simp; split <;> simp; done)

theorem flameOk_tumbleNotice {s : State} {d : Drum} (h : FlameOk s d) :
    FlameOk (tumbleNotice d s) d := by
  unfold tumbleNotice; (try dsimp only); (repeat' split) <;>
    (with_reducible repeat first | exact h | apply flameOk_writeDrive | apply flameOk_leaveRun | apply flameOk_onTumble) <;>
    first | rfl | (simp; done) | (split <;> rfl) | (simp; split <;> simp; done)

theorem flameOk_linkLostNotice {s : State} {d : Drum} (h : FlameOk s d) :
    FlameOk (linkLostNotice d s) d := by
  unfold linkLostNotice; (try dsimp only); (repeat' split) <;>
    (with_reducible repeat first | exact h | apply flameOk_burnerNotice | apply flameOk_tumbleNotice) <;>
    first | rfl | (simp; done) | (split <;> rfl) | (simp; split <;> simp; done)

theorem flameOk_tumbleReset {s : State} {d : Drum} (h : FlameOk s d) :
    FlameOk (tumbleReset d s) d := by
  unfold tumbleReset; (try dsimp only); (repeat' split) <;>
    (with_reducible repeat first | exact h | apply flameOk_writeDrive | apply flameOk_leaveRun | apply flameOk_onTangle) <;>
    first | rfl | (simp; done) | (split <;> rfl) | (simp; split <;> simp; done)

theorem flameOk_setCycle {s : State} {d : Drum} {new : CycleState} {f : Cycle → Cycle} (h : FlameOk s d) :
    FlameOk (setCycle d new f s) d := by
  unfold setCycle; (try dsimp only); (repeat' split) <;>
    (with_reducible repeat first | exact h | apply flameOk_writeFan | apply flameOk_settleStandby | apply flameOk_burnerUpdate | apply flameOk_onCycle) <;>
    first | rfl | (simp; done) | (split <;> rfl) | (simp; split <;> simp; done)

theorem flameOk_enterDone {s : State} {d : Drum} (h : FlameOk s d) :
    FlameOk (enterDone d s) d := by
  unfold enterDone; (try dsimp only); (repeat' split) <;>
    (with_reducible repeat first | exact h | apply flameOk_tumbleStop | apply flameOk_setCycle | apply flameOk_raise | apply flameOk_handIncrement) <;>
    first | rfl | (simp; done) | (split <;> rfl) | (simp; split <;> simp; done)

theorem flameOk_cycleHalt {s : State} {d : Drum} {c : HaltCause} (h : FlameOk s d) :
    FlameOk (cycleHalt d c s) d := by
  unfold cycleHalt; (try dsimp only); (repeat' split) <;>
    (with_reducible repeat first | exact h | apply flameOk_tumbleStop | apply flameOk_setCycle | apply flameOk_raise) <;>
    first | rfl | (simp; done) | (split <;> rfl) | (simp; split <;> simp; done)

theorem flameOk_enterVacant {s : State} {d : Drum} (h : FlameOk s d) :
    FlameOk (enterVacant d s) d := by
  unfold enterVacant; (try dsimp only); (repeat' split) <;>
    (with_reducible repeat first | exact h | apply flameOk_setCycle) <;>
    first | rfl | (simp; done) | (split <;> rfl) | (simp; split <;> simp; done)

theorem flameOk_pauseCycle {s : State} {d : Drum} {c : PauseCause} (h : FlameOk s d) :
    FlameOk (pauseCycle d c s) d := by
  unfold pauseCycle; (try dsimp only); (repeat' split) <;>
    (with_reducible repeat first | exact h | apply flameOk_writeFan | apply flameOk_tumbleHold | apply flameOk_setCycle | apply flameOk_raise) <;>
    first | rfl | (simp; done) | (split <;> rfl) | (simp; split <;> simp; done)

theorem flameOk_joinCause {s : State} {d : Drum} {c : PauseCause} (h : FlameOk s d) :
    FlameOk (joinCause d c s) d := by
  unfold joinCause; (try dsimp only); (repeat' split) <;>
    (with_reducible repeat first | exact h | apply flameOk_onCycle) <;>
    first | rfl | (simp; done) | (split <;> rfl) | (simp; split <;> simp; done)

theorem flameOk_pauseOrJoin {s : State} {d : Drum} {c : PauseCause} (h : FlameOk s d) :
    FlameOk (pauseOrJoin d c s) d := by
  unfold pauseOrJoin; (try dsimp only); (repeat' split) <;>
    (with_reducible repeat first | exact h | apply flameOk_pauseCycle | apply flameOk_joinCause) <;>
    first | rfl | (simp; done) | (split <;> rfl) | (simp; split <;> simp; done)

theorem flameOk_enterPurge {s : State} {d : Drum} {target : Option Phase} {f : Cycle → Cycle} (h : FlameOk s d) :
    FlameOk (enterPurge d target f s) d := by
  unfold enterPurge; (try dsimp only); (repeat' split) <;>
    (with_reducible repeat first | exact h | apply flameOk_setCycle) <;>
    first | rfl | (simp; done) | (split <;> rfl) | (simp; split <;> simp; done)

theorem flameOk_startCooling {s : State} {d : Drum} {r : Reason} (h : FlameOk s d) :
    FlameOk (startCooling d r s) d := by
  unfold startCooling; (try dsimp only); (repeat' split) <;>
    (with_reducible repeat first | exact h | apply flameOk_setCycle) <;>
    first | rfl | (simp; done) | (split <;> rfl) | (simp; split <;> simp; done)

theorem flameOk_heatEnd {s : State} {d : Drum} {r : Reason} (h : FlameOk s d) :
    FlameOk (heatEnd d r s) d := by
  unfold heatEnd; (try dsimp only); (repeat' split) <;>
    (with_reducible repeat first | exact h | apply flameOk_startCooling | apply flameOk_onCycle) <;>
    first | rfl | (simp; done) | (split <;> rfl) | (simp; split <;> simp; done)

theorem flameOk_coolingEnds {s : State} {d : Drum} (h : FlameOk s d) :
    FlameOk (coolingEnds d s) d := by
  unfold coolingEnds; (try dsimp only); (repeat' split) <;>
    (with_reducible repeat first | exact h | apply flameOk_tumbleStop | apply flameOk_setCycle | apply flameOk_enterDone) <;>
    first | rfl | (simp; done) | (split <;> rfl) | (simp; split <;> simp; done)

theorem flameOk_coolTest {s : State} {d : Drum} (h : FlameOk s d) :
    FlameOk (coolTest d s) d := by
  unfold coolTest; (try dsimp only); (repeat' split) <;>
    (with_reducible repeat first | exact h | apply flameOk_coolingEnds) <;>
    first | rfl | (simp; done) | (split <;> rfl) | (simp; split <;> simp; done)

theorem flameOk_enterTarget {s : State} {d : Drum} (h : FlameOk s d) :
    FlameOk (enterTarget d s) d := by
  unfold enterTarget; (try dsimp only); (repeat' split) <;>
    (with_reducible repeat first | exact h | apply flameOk_setCycle) <;>
    first | rfl | (simp; done) | (split <;> rfl) | (simp; split <;> simp; done)

theorem flameOk_cycleDoorOpened {s : State} {d : Drum} (h : FlameOk s d) :
    FlameOk (cycleDoorOpened d s) d := by
  unfold cycleDoorOpened; (try dsimp only); (repeat' split) <;>
    (with_reducible repeat first | exact h | apply flameOk_enterDone | apply flameOk_enterVacant | apply flameOk_pauseOrJoin) <;>
    first | rfl | (simp; done) | (split <;> rfl) | (simp; split <;> simp; done)

theorem flameOk_cycleAirflowLost {s : State} {d : Drum} (h : FlameOk s d) :
    FlameOk (cycleAirflowLost d s) d := by
  unfold cycleAirflowLost; (try dsimp only); (repeat' split) <;>
    (with_reducible repeat first | exact h | apply flameOk_pauseCycle | apply flameOk_onCycle) <;>
    first | rfl | (simp; done) | (split <;> rfl) | (simp; split <;> simp; done)

theorem flameOk_cycleAirflowProven {s : State} {d : Drum} (h : FlameOk s d) :
    FlameOk (cycleAirflowProven d s) d := by
  unfold cycleAirflowProven; (try dsimp only); (repeat' split) <;>
    (with_reducible repeat first | exact h | apply flameOk_onCycle) <;>
    first | rfl | (simp; done) | (split <;> rfl) | (simp; split <;> simp; done)

theorem flameOk_cycleNodeLost {s : State} {d : Drum} {n : Nat} (h : FlameOk s d) :
    FlameOk (cycleNodeLost d n s) d := by
  unfold cycleNodeLost; (try dsimp only); (repeat' split) <;>
    (with_reducible repeat first | exact h | apply flameOk_enterDone | apply flameOk_pauseOrJoin) <;>
    first | rfl | (simp; done) | (split <;> rfl) | (simp; split <;> simp; done)

theorem flameOk_cycleGraceExpired {s : State} {d : Drum} (h : FlameOk s d) :
    FlameOk (cycleGraceExpired d s) d := by
  unfold cycleGraceExpired; (try dsimp only); (repeat' split) <;>
    (with_reducible repeat first | exact h | apply flameOk_enterDone | apply flameOk_pauseCycle) <;>
    first | rfl | (simp; done) | (split <;> rfl) | (simp; split <;> simp; done)

theorem flameOk_routedAction {s : State} {d : Drum} {a : RoutedAction} (h : FlameOk s d) :
    FlameOk (routedAction d a s) d := by
  unfold routedAction; (try dsimp only); (repeat' split) <;>
    (with_reducible repeat first | exact h | apply flameOk_cycleHalt | apply flameOk_pauseOrJoin | apply flameOk_heatEnd) <;>
    first | rfl | (simp; done) | (split <;> rfl) | (simp; split <;> simp; done)

theorem flameOk_takeInlet {s : State} {d : Drum} {t : Temperature} (h : FlameOk s d) :
    FlameOk (takeInlet d t s) d := by
  unfold takeInlet; (try dsimp only); (repeat' split) <;>
    (with_reducible repeat first | exact h | apply flameOk_setWanted | apply flameOk_onBurner) <;>
    first | rfl | (simp; done) | (split <;> rfl) | (simp; split <;> simp; done)

theorem flameOk_judgeExhaust {s : State} {d : Drum} {t : Temperature} (h : FlameOk s d) :
    FlameOk (judgeExhaust d t s) d := by
  unfold judgeExhaust; (try dsimp only); (repeat' split) <;>
    (with_reducible repeat first | exact h | apply flameOk_setWanted | apply flameOk_onBurner | apply flameOk_raise) <;>
    first | rfl | (simp; done) | (split <;> rfl) | (simp; split <;> simp; done)

theorem flameOk_takeExhaust {s : State} {d : Drum} {t : Temperature} (h : FlameOk s d) :
    FlameOk (takeExhaust d t s) d := by
  unfold takeExhaust; (try dsimp only); (repeat' split) <;>
    (with_reducible repeat first | exact h | apply flameOk_coolTest | apply flameOk_judgeExhaust | apply flameOk_onBurner) <;>
    first | rfl | (simp; done) | (split <;> rfl) | (simp; split <;> simp; done)

theorem flameOk_enterBurning {s : State} {d : Drum} (h : FlameOk s d) :
    FlameOk (enterBurning d s) d := by
  unfold enterBurning; (try dsimp only); (repeat' split) <;>
    (with_reducible repeat first | exact h | apply flameOk_burnerUpdate | apply flameOk_onBurner) <;>
    first | rfl | (simp; done) | (split <;> rfl) | (simp; split <;> simp; done)

theorem flameOk_retryDelayEnds {s : State} {d : Drum} (h : FlameOk s d) :
    FlameOk (retryDelayEnds d s) d := by
  unfold retryDelayEnds; (try dsimp only); (repeat' split) <;>
    (with_reducible repeat first | exact h | apply flameOk_burnerUpdate | apply flameOk_onBurner) <;>
    first | rfl | (simp; done) | (split <;> rfl) | (simp; split <;> simp; done)

theorem flameOk_burnerReset {s : State} {d : Drum} (h : FlameOk s d) :
    FlameOk (burnerReset d s) d := by
  unfold burnerReset; (try dsimp only); (repeat' split) <;>
    (with_reducible repeat first | exact h | apply flameOk_writeFlame_zero | apply flameOk_onBurner) <;>
    first | rfl | (simp; done) | (split <;> rfl) | (simp; split <;> simp; done)

theorem flameOk_clearLockout {s : State} {d : Drum} (h : FlameOk s d) :
    FlameOk (clearLockout d s) d := by
  unfold clearLockout; (try dsimp only); (repeat' split) <;>
    (with_reducible repeat first | exact h | apply flameOk_writeResetLockout | apply flameOk_setRest | apply flameOk_onBurner) <;>
    first | rfl | (simp; done) | (split <;> rfl) | (simp; split <;> simp; done)

theorem flameOk_takeCurrent {s : State} {d : Drum} {v : Nat} (h : FlameOk s d) :
    FlameOk (takeCurrent d v s) d := by
  unfold takeCurrent; (try dsimp only); (repeat' split) <;>
    (with_reducible repeat first | exact h | apply flameOk_onTangle) <;>
    first | rfl | (simp; done) | (split <;> rfl) | (simp; split <;> simp; done)

theorem flameOk_statusInRun {s : State} {d : Drum} {st : DriveStatus} (h : FlameOk s d) :
    FlameOk (statusInRun d st s) d := by
  unfold statusInRun; (try dsimp only); (repeat' split) <;>
    (with_reducible repeat first | exact h | apply flameOk_endNormalRun | apply flameOk_endEarlyRun | apply flameOk_onTumble | apply flameOk_onTangle) <;>
    first | rfl | (simp; done) | (split <;> rfl) | (simp; split <;> simp; done)

theorem flameOk_stall {s : State} {d : Drum} {st : DriveStatus} (h : FlameOk s d) :
    FlameOk (stall d st s) d := by
  unfold stall; (try dsimp only); (repeat' split) <;>
    (with_reducible repeat first | exact h | apply flameOk_writeDrive | apply flameOk_leaveRun | apply flameOk_cycleHalt | apply flameOk_onTumble | apply flameOk_raise | apply flameOk_handIncrement) <;>
    first | rfl | (simp; done) | (split <;> rfl) | (simp; split <;> simp; done)

theorem flameOk_trip {s : State} {d : Drum} {st : DriveStatus} (h : FlameOk s d) :
    FlameOk (trip d st s) d := by
  unfold trip; (try dsimp only); (repeat' split) <;>
    (with_reducible repeat first | exact h | apply flameOk_writeDrive | apply flameOk_enterStopped | apply flameOk_cycleHalt | apply flameOk_onTumble) <;>
    first | rfl | (simp; done) | (split <;> rfl) | (simp; split <;> simp; done)

theorem flameOk_takeDriveStat {s : State} {d : Drum} {st : DriveStatus} (h : FlameOk s d) :
    FlameOk (takeDriveStat d st s) d := by
  unfold takeDriveStat; (try dsimp only); (repeat' split) <;>
    (with_reducible repeat first | exact h | apply flameOk_reachTarget | apply flameOk_recoverConfirmed | apply flameOk_statusInRun | apply flameOk_stall | apply flameOk_trip | apply flameOk_onTumble) <;>
    first | rfl | (simp; done) | (split <;> rfl) | (simp; split <;> simp; done)

theorem flameOk_minimumRunReached {s : State} {d : Drum} (h : FlameOk s d) :
    FlameOk (minimumRunReached d s) d := by
  unfold minimumRunReached; (try dsimp only); (repeat' split) <;>
    (with_reducible repeat first | exact h | apply flameOk_endNormalRun | apply flameOk_endEarlyRun) <;>
    first | rfl | (simp; done) | (split <;> rfl) | (simp; split <;> simp; done)

theorem flameOk_decelTimeout {s : State} {d : Drum} (h : FlameOk s d) :
    FlameOk (decelTimeout d s) d := by
  unfold decelTimeout; (try dsimp only); (repeat' split) <;>
    (with_reducible repeat first | exact h | apply flameOk_leaveRun | apply flameOk_cycleHalt | apply flameOk_onTumble | apply flameOk_raise | apply flameOk_handIncrement) <;>
    first | rfl | (simp; done) | (split <;> rfl) | (simp; split <;> simp; done)

theorem flameOk_guardIntervalEnds {s : State} {d : Drum} (h : FlameOk s d) :
    FlameOk (guardIntervalEnds d s) d := by
  unfold guardIntervalEnds; (try dsimp only); (repeat' split) <;>
    (with_reducible repeat first | exact h | apply flameOk_writeFan | apply flameOk_tumbleGuard | apply flameOk_onCycle) <;>
    first | rfl | (simp; done) | (split <;> rfl) | (simp; split <;> simp; done)

theorem flameOk_pauseLimitEnds {s : State} {d : Drum} (h : FlameOk s d) :
    FlameOk (pauseLimitEnds d s) d := by
  unfold pauseLimitEnds; (try dsimp only); (repeat' split) <;>
    (with_reducible repeat first | exact h | apply flameOk_enterDone | apply flameOk_onCycle | apply flameOk_raise) <;>
    first | rfl | (simp; done) | (split <;> rfl) | (simp; split <;> simp; done)

theorem flameOk_extraDryEnds {s : State} {d : Drum} (h : FlameOk s d) :
    FlameOk (extraDryEnds d s) d := by
  unfold extraDryEnds; (try dsimp only); (repeat' split) <;>
    (with_reducible repeat first | exact h | apply flameOk_startCooling | apply flameOk_onDryness) <;>
    first | rfl | (simp; done) | (split <;> rfl) | (simp; split <;> simp; done)

theorem flameOk_dryReached {s : State} {d : Drum} {p : DrynessPart} (h : FlameOk s d) :
    FlameOk (dryReached d p s) d := by
  unfold dryReached; (try dsimp only); (repeat' split) <;>
    (with_reducible repeat first | exact h | apply flameOk_extraDryEnds | apply flameOk_onDryness | apply flameOk_raise) <;>
    first | rfl | (simp; done) | (split <;> rfl) | (simp; split <;> simp; done)

theorem flameOk_dryTest {s : State} {d : Drum} {p : DrynessPart} (h : FlameOk s d) :
    FlameOk (dryTest d p s) d := by
  unfold dryTest; (try dsimp only); (repeat' split) <;>
    (with_reducible repeat first | exact h | apply flameOk_dryReached | apply flameOk_onDryness) <;>
    first | rfl | (simp; done) | (split <;> rfl) | (simp; split <;> simp; done)

theorem flameOk_acceptWet {s : State} {d : Drum} {v : Nat} {p : DrynessPart} (h : FlameOk s d) :
    FlameOk (acceptWet d v p s) d := by
  unfold acceptWet; (try dsimp only); (repeat' split) <;>
    (with_reducible repeat first | exact h | apply flameOk_dryTest | apply flameOk_onDryness) <;>
    first | rfl | (simp; done) | (split <;> rfl) | (simp; split <;> simp; done)

theorem flameOk_takeWet {s : State} {d : Drum} {v : Nat} (h : FlameOk s d) :
    FlameOk (takeWet d v s) d := by
  unfold takeWet; (try dsimp only); (repeat' split) <;>
    (with_reducible repeat first | exact h | apply flameOk_acceptWet | apply flameOk_onDryness) <;>
    first | rfl | (simp; done) | (split <;> rfl) | (simp; split <;> simp; done)

theorem flameOk_drynessStart {s : State} {d : Drum} (h : FlameOk s d) :
    FlameOk (drynessStart d s) d := by
  unfold drynessStart; (try dsimp only); (repeat' split) <;>
    (with_reducible repeat first | exact h | apply flameOk_onDryness) <;>
    first | rfl | (simp; done) | (split <;> rfl) | (simp; split <;> simp; done)

theorem flameOk_drynessReset {s : State} {d : Drum} (h : FlameOk s d) :
    FlameOk (drynessReset d s) d := by
  unfold drynessReset; (try dsimp only); (repeat' split) <;>
    (with_reducible repeat first | exact h | apply flameOk_onDryness) <;>
    first | rfl | (simp; done) | (split <;> rfl) | (simp; split <;> simp; done)

theorem flameOk_setPortState {s : State} {d : Drum} {st : PortState} (h : FlameOk s d) :
    FlameOk (setPortState d st s) d := by
  unfold setPortState; (try dsimp only); (repeat' split) <;>
    (with_reducible repeat first | exact h | apply flameOk_settleStandby | apply flameOk_onPort) <;>
    first | rfl | (simp; done) | (split <;> rfl) | (simp; split <;> simp; done)

theorem flameOk_leaveUp {s : State} {d : Drum} {st : PortState} (h : FlameOk s d) :
    FlameOk (leaveUp d st s) d := by
  unfold leaveUp; (try dsimp only); (repeat' split) <;>
    (with_reducible repeat first | exact h | apply flameOk_setPortState | apply flameOk_onPort) <;>
    first | rfl | (simp; done) | (split <;> rfl) | (simp; split <;> simp; done)

theorem flameOk_movePort {s : State} {d : Drum} {st : PortState} (h : FlameOk s d) :
    FlameOk (movePort d st s) d := by
  unfold movePort; (try dsimp only); (repeat' split) <;>
    (with_reducible repeat first | exact h | apply flameOk_linkLostNotice | apply flameOk_setPortState | apply flameOk_leaveUp | apply flameOk_onPort) <;>
    first | rfl | (simp; done) | (split <;> rfl) | (simp; split <;> simp; done)

theorem flameOk_enterUp {s : State} {d : Drum} (h : FlameOk s d) :
    FlameOk (enterUp d s) d := by
  unfold enterUp; (try dsimp only); (repeat' split) <;>
    (with_reducible repeat first | exact h | apply flameOk_settleStandby | apply flameOk_onPort | apply flameOk_raise) <;>
    first | rfl | (simp; done) | (split <;> rfl) | (simp; split <;> simp; done)

theorem flameOk_graceExpires {s : State} {d : Drum} (h : FlameOk s d) :
    FlameOk (graceExpires d s) d := by
  unfold graceExpires; (try dsimp only); (repeat' split) <;>
    (with_reducible repeat first | exact h | apply flameOk_linkLostNotice | apply flameOk_cycleGraceExpired | apply flameOk_onPort) <;>
    first | rfl | (simp; done) | (split <;> rfl) | (simp; split <;> simp; done)

theorem flameOk_mainLaneLost {s : State} {d : Drum} (h : FlameOk s d) :
    FlameOk (mainLaneLost d s) d := by
  unfold mainLaneLost; (try dsimp only); (repeat' split) <;>
    (with_reducible repeat first | exact h | apply flameOk_linkLostNotice | apply flameOk_leaveUp | apply flameOk_graceExpires | apply flameOk_onPort | apply flameOk_raise | apply flameOk_handIncrement) <;>
    first | rfl | (simp; done) | (split <;> rfl) | (simp; split <;> simp; done)

theorem flameOk_cycleOnChange {s : State} {d : Drum} {x : Discrete} {safe : Bool} (h : FlameOk s d) :
    FlameOk (cycleOnChange d x safe s) d := by
  unfold cycleOnChange; (try dsimp only); (repeat' split) <;>
    (with_reducible repeat first | exact h | apply flameOk_heatEnd | apply flameOk_cycleDoorOpened | apply flameOk_cycleAirflowLost | apply flameOk_cycleAirflowProven) <;>
    first | rfl | (simp; done) | (split <;> rfl) | (simp; split <;> simp; done)

theorem flameOk_changeReading {s : State} {d : Drum} {x : Discrete} {safe accepted : Bool} (h : FlameOk s d) :
    FlameOk (changeReading d x safe accepted s) d := by
  unfold changeReading; (try dsimp only); (repeat' split) <;>
    (with_reducible repeat first | exact h | apply flameOk_reloadStandby | apply flameOk_setReading | apply flameOk_setPortState | apply flameOk_cycleOnChange | apply flameOk_raise | apply flameOk_handIncrement) <;>
    first | rfl | (simp; done) | (split <;> rfl) | (simp; split <;> simp; done)

theorem flameOk_forceSafe {s : State} {d : Drum} {x : Discrete} (h : FlameOk s d) :
    FlameOk (forceSafe d x s) d := by
  unfold forceSafe; (try dsimp only); (repeat' split) <;>
    (with_reducible repeat first | exact h | apply flameOk_changeReading) <;>
    first | rfl | (simp; done) | (split <;> rfl) | (simp; split <;> simp; done)

theorem flameOk_takeDiscretes {s : State} {d : Drum} {raw : Readings} (h : FlameOk s d) :
    FlameOk (takeDiscretes d raw s) d := by
  unfold takeDiscretes; (try dsimp only); (repeat' split) <;>
    (with_reducible repeat first | exact h | apply flameOk_onPort) <;>
    first | rfl | (simp; done) | (split <;> rfl) | (simp; split <;> simp; done)

theorem flameOk_debounceExpires {s : State} {d : Drum} {x : Discrete} (h : FlameOk s d) :
    FlameOk (debounceExpires d x s) d := by
  unfold debounceExpires; (try dsimp only); (repeat' split) <;>
    (with_reducible repeat first | exact h | apply flameOk_changeReading | apply flameOk_onPort) <;>
    first | rfl | (simp; done) | (split <;> rfl) | (simp; split <;> simp; done)

theorem flameOk_presenceChange {s : State} {d : Drum} {old new : BitVec 16} (n : Nat) (h : FlameOk s d) :
    FlameOk (presenceChange d old new s n) d := by
  unfold presenceChange; (try dsimp only); (repeat' split) <;>
    (with_reducible repeat first | exact h | apply flameOk_cycleNodeLost | apply flameOk_raise) <;>
    first | rfl | (simp; done) | (split <;> rfl) | (simp; split <;> simp; done)

theorem flameOk_setPresence {s : State} {d : Drum} {report : BitVec 16} (h : FlameOk s d) :
    FlameOk (setPresence d report s) d := by
  unfold setPresence nodeAddresses
  simp only [List.foldl_cons, List.foldl_nil]
  with_reducible (repeat first | exact h | apply flameOk_presenceChange | apply flameOk_onPort)
  all_goals rfl

theorem flameOk_setHold {s : State} {d : Drum} (h : FlameOk s d) :
    FlameOk (setHold d s) d := by
  unfold setHold; (try dsimp only); (repeat' split) <;>
    (with_reducible repeat first | exact h | apply flameOk_setPresence | apply flameOk_onPort) <;>
    first | rfl | (simp; done) | (split <;> rfl) | (simp; split <;> simp; done)

theorem flameOk_clearHold {s : State} {d : Drum} (h : FlameOk s d) :
    FlameOk (clearHold d s) d := by
  unfold clearHold; (try dsimp only); (repeat' split) <;>
    (with_reducible repeat first | exact h | apply flameOk_onPort) <;>
    first | rfl | (simp; done) | (split <;> rfl) | (simp; split <;> simp; done)

theorem flameOk_serviceLaneDown {s : State} {d : Drum} (h : FlameOk s d) :
    FlameOk (serviceLaneDown d s) d := by
  unfold serviceLaneDown; (try dsimp only); (repeat' split) <;>
    (with_reducible repeat first | exact h | apply flameOk_forceSafe | apply flameOk_setPresence | apply flameOk_onPort) <;>
    first | rfl | (simp; done) | (split <;> rfl) | (simp; split <;> simp; done)

theorem flameOk_beginSend {s : State} {d : Drum} (h : FlameOk s d) :
    FlameOk (beginSend d s) d := by
  unfold beginSend; (try dsimp only); (repeat' split) <;>
    (with_reducible repeat first | exact h | apply flameOk_onPort | apply flameOk_onImage) <;>
    first | rfl | (simp; done) | (split <;> rfl) | (simp; split <;> simp; done)

theorem flameOk_refreshExpires {s : State} {d : Drum} (h : FlameOk s d) :
    FlameOk (refreshExpires d s) d := by
  unfold refreshExpires; (try dsimp only); (repeat' split) <;>
    (with_reducible repeat first | exact h | apply flameOk_onPort) <;>
    first | rfl | (simp; done) | (split <;> rfl) | (simp; split <;> simp; done)

theorem flameOk_startTest {s : State} {d : Drum} {dir : TestDirection} {mode : FlagMode} (h : FlameOk s d) :
    FlameOk (startTest d dir mode s) d := by
  unfold startTest; (try dsimp only); (repeat' split) <;>
    (with_reducible repeat first | exact h | apply flameOk_movePort | apply flameOk_onPort) <;>
    first | rfl | (simp; done) | (split <;> rfl) | (simp; split <;> simp; done)

theorem flameOk_leaveTest {s : State} {d : Drum} {o : TestOutcome} (h : FlameOk s d) :
    FlameOk (leaveTest d o s) d := by
  unfold leaveTest; (try dsimp only); (repeat' split) <;>
    (with_reducible repeat first | exact h | apply flameOk_setPortState | apply flameOk_onPort) <;>
    first | rfl | (simp; done) | (split <;> rfl) | (simp; split <;> simp; done)

theorem flameOk_testArmed {s : State} {d : Drum} (h : FlameOk s d) :
    FlameOk (testArmed d s) d := by
  unfold testArmed; (try dsimp only); (repeat' split) <;>
    (with_reducible repeat first | exact h | apply flameOk_onPort) <;>
    first | rfl | (simp; done) | (split <;> rfl) | (simp; split <;> simp; done)

theorem flameOk_closeInterval {s : State} {d : Drum} {n : Nat} (h : FlameOk s d) :
    FlameOk (closeInterval d n s) d := by
  unfold closeInterval; (try dsimp only); (repeat' split) <;>
    (with_reducible repeat first | exact h | apply flameOk_onPort | apply flameOk_raise) <;>
    first | rfl | (simp; done) | (split <;> rfl) | (simp; split <;> simp; done)

theorem flameOk_checkerCloses {s : State} {d : Drum} {n : Nat} (h : FlameOk s d) :
    FlameOk (checkerCloses d n s) d := by
  unfold checkerCloses; (try dsimp only); (repeat' split) <;>
    (with_reducible repeat first | exact h | apply flameOk_closeInterval | apply flameOk_onPort) <;>
    first | rfl | (simp; done) | (split <;> rfl) | (simp; split <;> simp; done)

theorem flameOk_loadCycle {s : State} {d : Drum} {r : CycleRecord} (h : FlameOk s d) :
    FlameOk (loadCycle d r s) d := by
  unfold loadCycle; (try dsimp only); (repeat' split) <;>
    (with_reducible repeat first | exact h | apply flameOk_setCycle) <;>
    first | rfl | (simp; done) | (split <;> rfl) | (simp; split <;> simp; done)

theorem flameOk_startCycle {s : State} {d : Drum} (h : FlameOk s d) :
    FlameOk (startCycle d s) d := by
  unfold startCycle; (try dsimp only); (repeat' split) <;>
    (with_reducible repeat first | exact h | apply flameOk_tumbleStart | apply flameOk_firstStart | apply flameOk_enterPurge | apply flameOk_drynessStart) <;>
    first | rfl | (simp; done) | (split <;> rfl) | (simp; split <;> simp; done)

theorem flameOk_resumeCycle {s : State} {d : Drum} (h : FlameOk s d) :
    FlameOk (resumeCycle d s) d := by
  unfold resumeCycle; (try dsimp only); (repeat' split) <;>
    (with_reducible repeat first | exact h | apply flameOk_tumbleStart | apply flameOk_enterPurge | apply flameOk_onDryness) <;>
    first | rfl | (simp; done) | (split <;> rfl) | (simp; split <;> simp; done)

theorem flameOk_setReason {s : State} {d : Drum} {r : Reason} (h : FlameOk s d) :
    FlameOk (setReason d r s) d := by
  unfold setReason; (try dsimp only); (repeat' split) <;>
    (with_reducible repeat first | exact h | apply flameOk_onCycle) <;>
    first | rfl | (simp; done) | (split <;> rfl) | (simp; split <;> simp; done)

theorem flameOk_abortCycle {s : State} {d : Drum} (h : FlameOk s d) :
    FlameOk (abortCycle d s) d := by
  unfold abortCycle; (try dsimp only); (repeat' split) <;>
    (with_reducible repeat first | exact h | apply flameOk_setCycle | apply flameOk_enterDone | apply flameOk_enterVacant | apply flameOk_startCooling | apply flameOk_setReason) <;>
    first | rfl | (simp; done) | (split <;> rfl) | (simp; split <;> simp; done)

theorem flameOk_powerOff {s : State} {d : Drum} (h : FlameOk s d) :
    FlameOk (powerOff d s) d := by
  unfold powerOff; (try dsimp only); (repeat' split) <;>
    (with_reducible repeat first | exact h | apply flameOk_movePort | apply flameOk_serviceLaneDown) <;>
    first | rfl | (simp; done) | (split <;> rfl) | (simp; split <;> simp; done)

theorem flameOk_serviceOnly {s : State} {d : Drum} (h : FlameOk s d) :
    FlameOk (serviceOnly d s) d := by
  unfold serviceOnly; (try dsimp only); (repeat' split) <;>
    (with_reducible repeat first | exact h | apply flameOk_movePort) <;>
    first | rfl | (simp; done) | (split <;> rfl) | (simp; split <;> simp; done)

theorem flameOk_endTest {s : State} {d : Drum} (h : FlameOk s d) :
    FlameOk (endTest d s) d := by
  unfold endTest; (try dsimp only); (repeat' split) <;>
    (with_reducible repeat first | exact h | apply flameOk_leaveTest) <;>
    first | rfl | (simp; done) | (split <;> rfl) | (simp; split <;> simp; done)

/-! ### All drums -/

theorem flameOk_of_besides {s t : State} {d e : Drum} (hb : t.besides d = s.besides d) (he : e ≠ d)
    (h : FlameOk s e) : FlameOk t e := by
  unfold FlameOk at *
  rw [drum_of_besides hb he, share_of_besides hb]
  exact ⟨h.1, h.2.1, fun p hp hpe => h.2.2 p ((demands_of_besides hb (by rw [hpe]; exact he)).mp hp) hpe⟩

/-- An operation on one drum that leaves that drum's FLAME permitted leaves every drum's. -/
theorem flameSafe_of_besides {s t : State} {d : Drum} (hb : t.besides d = s.besides d) (hd : FlameOk t d)
    (h : FlameSafe s) : FlameSafe t := fun e => by
  by_cases he : e = d
  · rw [he]; exact hd
  · exact flameOk_of_besides hb he (h e)

theorem flameSafe_of_eq {s t : State} (hd : t.drums = s.drums) (hg : ∀ d, (t.share d).granted = (s.share d).granted)
    (hf : ∀ p ∈ t.flight.demands, p ∈ s.flight.demands) (h : FlameSafe s) : FlameSafe t := fun d => by
  have := h d
  unfold FlameOk at *
  rw [hg]
  simp only [State.drum, hd] at *
  exact ⟨this.1, this.2.1, fun p hp hpe => this.2.2 p (hf p hp) hpe⟩

/-! ### The allocator -/

theorem flameSafe_onHeat {s : State} {f : Heat → Heat} (h : FlameSafe s)
    (hg : ∀ d : Drum, ((f s.heat).shares[d]).granted = (s.heat.shares[d]).granted) : FlameSafe (s.onHeat f) :=
  flameSafe_of_eq (s := s) rfl hg (fun _ hp => hp) h

theorem flameSafe_raise {s : State} {src : Block} {k : EventKind} {d : Drum} {x : Option Byte} (h : FlameSafe s) :
    FlameSafe (raise src k d x s) := fun e => flameOk_raise (h e)

theorem flameSafe_handIncrement {s : State} {src : Block} {d : Drum} {a : Fin 8} (h : FlameSafe s) :
    FlameSafe (handIncrement src d a s) := fun e => flameOk_handIncrement (h e)

/-- A change of a drum's granted stage is followed by the burner's recomputation within the same operation (R132). -/
theorem flameSafe_setGranted {s : State} {d : Drum} {g : Nat} (h : FlameSafe s) : FlameSafe (setGranted d g s) := by
  unfold setGranted
  intro e
  by_cases he : e = d
  · rw [he]; exact flameOk_burnerUpdate _ _
  · refine flameOk_of_besides (besides_burnerUpdate d _) he ?_
    have := h e
    have hne := Fin.val_ne_of_ne he
    unfold FlameOk at *
    simpa [State.share, hne.symm] using this

theorem flameSafe_lowerGrant {s : State} {d : Drum} {g : Nat} (h : FlameSafe s) : FlameSafe (lowerGrant d g s) := by
  unfold lowerGrant
  apply flameSafe_setGranted
  split
  · exact flameSafe_onHeat h fun _ => rfl
  · exact h

theorem flameSafe_onShare {s : State} {d : Drum} {f : HeatShare → HeatShare} (h : FlameSafe s)
    (hg : ∀ x, (f x).granted = x.granted) : FlameSafe (s.onShare d f) := by
  unfold State.onShare
  apply flameSafe_onHeat h
  intro e
  by_cases he : e = d
  · rw [he]; simp [hg]
  · have hne := Fin.val_ne_of_ne he
    simp [hne.symm]

theorem flameSafe_dropCopy {s : State} {d : Drum} (h : FlameSafe s) : FlameSafe (dropCopy d s) := by
  unfold dropCopy; split
  · exact flameSafe_onShare h fun _ => rfl
  · exact h

theorem flameSafe_grantEntry {s : State} {e : HeatEntry} (h : FlameSafe s) : FlameSafe (grantEntry e s) :=
  flameSafe_setGranted (flameSafe_onHeat h fun _ => rfl)

theorem flameSafe_grantRound {s t : State} (h : FlameSafe s) (ht : grantRound s = some t) : FlameSafe t := by
  unfold grantRound at ht
  (repeat' split at ht) <;> first | cases ht | skip
  · exact flameSafe_grantEntry h
  · exact flameSafe_grantEntry (flameSafe_onHeat h fun _ => rfl)

theorem flameSafe_grantRounds {s : State} (n : Nat) (h : FlameSafe s) : FlameSafe (grantRounds n s) := by
  induction n generalizing s with
  | zero => exact h
  | succ n ih =>
    unfold grantRounds
    split
    · exact h
    · exact ih (flameSafe_grantRound h ‹_›)

theorem flameSafe_grantAttempt {s : State} (h : FlameSafe s) : FlameSafe (grantAttempt s) :=
  flameSafe_grantRounds _ h

theorem flameSafe_raisedDemand {s : State} {d : Drum} {w : Nat} (h : FlameSafe s) :
    FlameSafe (raisedDemand d w s) := by
  unfold raisedDemand; split
  · exact flameSafe_onHeat (flameSafe_onShare h fun _ => rfl) fun _ => rfl
  · exact flameSafe_onHeat h fun _ => rfl

theorem flameSafe_loweredDemand {s : State} {d : Drum} {w : Nat} (h : FlameSafe s) :
    FlameSafe (loweredDemand d w s) := by
  unfold loweredDemand
  apply flameSafe_dropCopy
  split
  · exact flameSafe_lowerGrant (flameSafe_onHeat h fun _ => rfl)
  · exact flameSafe_onHeat h fun _ => rfl

theorem flameSafe_takeDemand {s : State} {d : Drum} {w : Nat} (h : FlameSafe s) : FlameSafe (takeDemand d w s) := by
  unfold takeDemand
  dsimp only
  generalize (if (s.drum d).burner.lockout = none then w else 0) = v
  apply flameSafe_grantAttempt
  split
  · exact flameSafe_raisedDemand (flameSafe_onShare (f := fun sh => { sh with held := v }) h fun _ => rfl)
  · exact flameSafe_loweredDemand (flameSafe_onShare (f := fun sh => { sh with held := v }) h fun _ => rfl)

theorem flameSafe_releaseDrum {s : State} {d : Drum} (h : FlameSafe s) : FlameSafe (releaseDrum d s) := by
  unfold releaseDrum
  apply flameSafe_grantAttempt
  refine flameSafe_onShare (f := fun sh => { sh with held := 0, costs := none }) ?_ fun _ => rfl
  split
  · exact flameSafe_onHeat h fun _ => rfl
  · exact flameSafe_lowerGrant (flameSafe_onHeat h fun _ => rfl)

theorem flameSafe_revokeStep {s : State} {d : Drum} (h : FlameSafe s) : FlameSafe (revokeStep d s) := by
  unfold revokeStep requeue
  dsimp only
  split <;> exact flameSafe_onHeat (flameSafe_raise (flameSafe_lowerGrant h)) fun _ => rfl

theorem flameSafe_revokeTo {s : State} (b n : Nat) (h : FlameSafe s) : FlameSafe (revokeTo b n s) := by
  induction n generalizing s with
  | zero => exact h
  | succ n ih =>
    unfold revokeTo
    split
    · exact h
    · split
      · exact h
      · exact ih (flameSafe_revokeStep h)

theorem flameSafe_setBudget {s : State} {b : Nat} (h : FlameSafe s) : FlameSafe (setBudget b s) :=
  flameSafe_grantAttempt (flameSafe_onHeat (flameSafe_revokeTo b 8 h) fun _ => rfl)

theorem flameSafe_judgeWait {s : State} {d : Drum} (h : FlameSafe s) : FlameSafe (judgeWait d s) := by
  unfold judgeWait; (repeat' split) <;> first | exact h | exact flameSafe_raise (flameSafe_onHeat h fun _ => rfl)

theorem flameSafe_setLockout {s : State} {d : Drum} {p : LockoutPath} (h : FlameSafe s) :
    FlameSafe (setLockout d p s) :=
  flameSafe_of_besides (by simp [setLockout]) (flameOk_burnerUpdate _ _) h

theorem flameSafe_heatEnd {s : State} {d : Drum} {r : Reason} (h : FlameSafe s) : FlameSafe (heatEnd d r s) :=
  flameSafe_of_besides (by simp) (flameOk_heatEnd (h d)) h

theorem flameSafe_lockOut {s : State} {d : Drum} {p : LockoutPath} (h : FlameSafe s) : FlameSafe (lockOut d p s) := by
  unfold lockOut
  split
  · exact h
  · apply flameSafe_heatEnd
    have h2 := flameSafe_releaseDrum (d := d) (flameSafe_setLockout (d := d) (p := p) h)
    split
    · exact flameSafe_handIncrement (flameSafe_raise h2)
    · exact flameSafe_raise h2

end Sys2Proof.Machine
end

