-- ==== Sys2Proof/WellFormed.lean ====
section
/-! DEFINITION. When a command is one the part's surroundings can give. -/

namespace Sys2Proof

/-- The blocks of Table 11-1: only these hand on attribute increments. -/
def Block.countsAttributes : Block → Bool
  | .port _ | .cycle _ | .tumble _ | .burner _ => true
  | .classifier | .allocator | .dryness _ | .attributes => false

/-- A frame has at least one byte, and an attribute increment comes from a block of Table 11-1. Every other command is
well formed by its type (a drum is 0 to 3, a discrete one of four, a presence report any 16-bit set). -/
def Instr.wellFormed : Instr → Bool
  | .cabinetFrameReceived bytes => !bytes.isEmpty
  | .mainLaneFrameReceived _ bytes => !bytes.isEmpty
  | .attributeIncrement src => src.countsAttributes
  | .powerOnReset | .resetnAssert | .resetnRelease | .cabinetLock | .cabinetLockLost | .badRequest
    | .transmitChoice | .replyTransmitEnd | .alertFrameEnd | .forwardRecordEnd | .configWriteHeatBudget
    | .configWriteBypassLimit | .configWriteHeatWaitLimit | .configWriteBucketSpread
    | .configWriteSignatureSpread | .configWriteMissAction | .drumConfigWrite | .profileWrite | .routeWrite
    | .classAdd | .classRemove | .classQuery | .classRead | .cycleLoad | .cycleUnload | .cycleStart
    | .cyclePause | .cycleResume | .cycleEndHeat | .cycleAbort | .drumReset | .heatLockoutClear | .powerOff
    | .serviceOnly | .bringUp | .holdNodes | .releaseNodes | .testSend | .testReceive | .testEnd | .passThrough
    | .alertAck | .attrLoad | .attrRead | .attrClear | .statusReadPart | .statusReadDrum | .statusReadPort
    | .statusReadHeat | .partReset | .mainLaneLock _ | .mainLaneLockLost _ | .graceExpiry _ | .lookup _
    | .inletTempAbsorbed _ | .exhaustTempAbsorbed _ | .motorCurrentAbsorbed _ | .wetCountAbsorbed _
    | .driveStatAbsorbed _ | .flameStatAbsorbed _ | .serviceLaneLock _ | .serviceLaneLockLost _
    | .discreteReport _ _ | .debounceExpiry _ _ | .presenceReport _ _ | .commandFrameSend _
    | .commandFrameSent _ | .refreshExpiry _ | .standbyExpiry _ | .armReport _ | .armTimeout _ | .testReport _ _
    | .checkerInterval _ _ | .proveTimeout _ | .airTimeEnd _ | .dryingTimeLimit _ | .minimumCoolTimeReached _
    | .maximumCoolTime _ | .guardIntervalExpiry _ | .guardLimit _ | .fanOverrunExpiry _ | .pauseLimitExpiry _
    | .statusWaitExpiry _ | .runLengthEnd _ | .maximumRunSeconds _ | .minimumRunReached _ | .guardTumbleEnd _
    | .decelTimeout _ | .dwellExpiry _ | .recoverDelayExpiry _ | .trialExpiry _ | .retryDelayExpiry _
    | .stableFlameExpiry _ | .inletStarvationExpiry _ | .heatDemand _ | .entryWaitExpiry _ | .extraDryExpiry _
    | .sampleStarvationExpiry _ | .eventTaken _ => true

end Sys2Proof
end

