-- ==== Sys2Proof/Tests/Slice0.lean ====
section
/-! SUPPORT. The model's own tests: well-formedness, the manual's worked numbers, single steps on small states, and for
each statement with hypotheses a state that meets them. -/

set_option maxRecDepth 20000

namespace Sys2Proof.Tests

open Sys2Proof.Machine

/-! ### Well-formedness: each check refuses an ill-formed command -/

theorem test_wellFormed_refuses_empty_cabinet_frame :
    (Instr.cabinetFrameReceived []).wellFormed = false ∧ (Instr.cabinetFrameReceived [0]).wellFormed = true := by
  decide

theorem test_wellFormed_refuses_empty_main_lane_frame :
    (Instr.mainLaneFrameReceived 0 []).wellFormed = false ∧ (Instr.mainLaneFrameReceived 0 [0]).wellFormed = true := by
  decide

theorem test_wellFormed_refuses_increment_of_a_block_outside_table_11_1 :
    (Instr.attributeIncrement .classifier).wellFormed = false ∧
      (Instr.attributeIncrement .attributes).wellFormed = false ∧
      (Instr.attributeIncrement (.dryness 0)).wellFormed = false ∧
      (Instr.attributeIncrement .allocator).wellFormed = false ∧
      (Instr.attributeIncrement (.tumble 3)).wellFormed = true := by
  decide

theorem test_no_word_spells_a_command : decodeTableWord 16 4660 = none ∧ State.reset.withFetchWord 16 4660 = State.reset :=
  ⟨rfl, rfl⟩

/-! ### The manual's worked numbers -/

/-- R8: the check of the nine bytes 31 to 39 is 29B1. -/
theorem test_crc_of_the_nine_digits : crc [0x31, 0x32, 0x33, 0x34, 0x35, 0x36, 0x37, 0x38, 0x39] = 0x29B1 := by
  decide

/-- 2.2: tuple number 9746 folds to bucket 94 under 5A3C96E1 and to signature 50C5 under 13579BDF. -/
theorem test_fold_example : bucketIndex 0x5A3C96E1 9746 = 0x94 ∧ signature 0x13579BDF 9746 = 0x50C5 := by decide

/-- 2.4.1: gain 256 keeps a value; a product is divided by 256 toward zero, and the offset is added after. -/
theorem test_scaling_examples :
    (190 * 256 : Int).tdiv 256 + 0 = 190 ∧ (-8 * 640 : Int).tdiv 256 + 20 = 0 ∧ (300 * 200 : Int).tdiv 256 + 0 = 234 ∧
      clamp 0 65535 ((1000 * 128 : Int).tdiv 256 + -600) = 0 := by
  decide

/-- Table 1-5: the standby codes 1, 7, 8 and 255. -/
theorem test_standby_times :
    standbyTime 1 = 30000 ∧ standbyTime 7 = 30000 ∧ standbyTime 8 = 32000 ∧ standbyTime 255 = 1020000 := by
  decide

/-- Table 8-1 at setpoint 140, high band 20, hysteresis 4. -/
theorem test_regulation_bands (r : CycleRecord) (h : r.setpoint = 140) (hb : r.highBand = 20) (hy : r.hysteresis = 4) :
    regulate r 140 2 = 0 ∧ regulate r 120 0 = 2 ∧ regulate r 121 2 = 1 ∧ regulate r 136 0 = 1 ∧ regulate r 137 0 = 0 ∧
      regulate r 137 1 = 1 := by
  simp [regulate, h, hb, hy]

/-! ### Small states -/

/-- The state after reset with drum 0's blocks replaced. -/
def with0 (D : DrumState) : State := { State.reset with drums := State.reset.drums.set 0 D }

/-- The same with the cabinet link up and one request in the inbox. -/
def asking (D : DrumState) (code : Byte) (args : List Byte) : State :=
  { with0 D with cabinet := { linkUp := true, inbox := [⟨7, code, args⟩] } }

/-- The same with one value handed to a block of drum 0. -/
def handed (D : DrumState) (a : Absorbed) : State := { with0 D with flight := { absorbs := [(0, a)] } }

/-- A configuration with all three nodes bound. -/
def bound : DrumConfig := { motorNode := 1, burnerNode := 2, fanNode := 3 }

/-- A cycle record in ELECTRODE mode with a guard part. -/
def record : CycleRecord :=
  { label := 1, mode := .electrode, maxDrying := 60, setpoint := 140, highBand := 20, hysteresis := 4, maxStage := 2,
    dwellCap := 0, profile := 0, coolTarget := 80, minCool := 1, maxCool := 10,
    dryness := some ⟨160, 1, 2, 0, none, some 10⟩, guardPart := some ⟨300, 20, 60⟩ }

/-- A drum whose cycle stands in a state, with its port in UP, every discrete quiet and every node present. -/
def drumIn (c : CycleState) (t : TumbleState := .stopped) : DrumState :=
  { config := bound
    port := { state := .up, serviceLock := true, readings := ⟨false, false, false, false⟩, presence := 14 }
    cycle := { state := c, record := some record }
    tumble := { state := t, values := { minRun := 5 } } }

/-- A clause about a request is met: some state offers a request of the code and arguments, and P holds of it. -/
def Offered (code : Byte) (args : List Byte) (P : State → Prop) : Prop :=
  ∃ (s : State) (r : Request) (rest : List Request), s.offers r rest ∧ r.code = code ∧ r.args = args ∧ P s

theorem offered (D : DrumState) {code : Byte} {args : List Byte} {P : State → Prop} (h : P (asking D code args)) :
    Offered code args P :=
  ⟨asking D code args, ⟨7, code, args⟩, [], ⟨rfl, rfl, rfl⟩, rfl, rfl, h⟩

/-- A clause about a part out of reset is met: P holds of some such state. -/
def Out (P : State → Prop) : Prop := ∃ s : State, s.resetHeld = false ∧ P s

theorem out {P : State → Prop} (s : State) (h0 : s.resetHeld = false) (h : P s) : Out P := ⟨s, h0, h⟩

/-! ### The hypotheses of the statements are met: the part, reset, the cabinet link -/

theorem hyps_StepRunsTheFrontCommand : ∃ (s : State) (c : Instr) (rest : List Instr), s.pending = c :: rest :=
  ⟨{ State.reset with pending := [.badRequest] }, _, _, rfl⟩

theorem hyps_EmptyQueueStepIsOneMillisecond :
    (∃ s : State, s.pending = [] ∧ s.resetHeld = true) ∧
      Out (fun s => s.pending = [] ∧ (s.drum 0).port.state = .up ∧ (s.drum 0).cycle.state = .drying) ∧
      Out (fun s => s.pending = [] ∧ (s.drum 0).port.state ≠ .up ∧ (s.drum 0).cycle.state ≠ .drying) :=
  ⟨⟨{ State.reset with resetHeld := true }, rfl, rfl⟩, out (with0 (drumIn .drying)) rfl (by decide),
    out State.reset rfl (by decide)⟩

theorem hyps_ResetsSetTheResetValues :
    (∃ (s : State) (c : Instr), s.resetHeld = true ∧ c ∉ resetCommands) ∧ Offered 25 [] (fun _ => True) ∧
      Out (fun s => ∃ tag later m a ma aa bytes,
        s.cabinet.outgoing = some (.reply m a ma aa bytes) ∧ s.cabinet.replies = ⟨tag, 25, .ok, []⟩ :: later) :=
  ⟨⟨{ State.reset with resetHeld := true }, .badRequest, rfl, by decide⟩, offered {} trivial,
    out { State.reset with
          cabinet := { linkUp := true, replies := [⟨7, 25, .ok, []⟩], outgoing := some (.reply false false false false []) } }
      rfl ⟨7, [], false, false, false, false, [], rfl, rfl⟩⟩

theorem hyps_CabinetFramesArriveAndEnd_arrival :
    Out (fun s => s.cabinet.outgoing = some (.alert 4 0 1 [])) ∧
      Out (fun s => ∀ event d count bytes, s.cabinet.outgoing ≠ some (.alert event d count bytes)) ∧
      Out (fun s => s.cabinet.linkUp = false) ∧
      Out (fun s => s.cabinet.linkUp = true ∧ checkPassed [1, 2, 0, 0, 0, 0] = false ∧ s.cabinet.inbox.length < 4) ∧
      natAt (cabinetFrame 1 [0]) 1 < 2 ∧ 64 < natAt (cabinetFrame 1 (List.replicate 65 0)) 1 ∧
      Out (fun s => s.cabinet.linkUp = true ∧ (List.replicate 62 (0 : Byte)).length ≤ 62 ∧ s.cabinet.inbox.length = 3) ∧
      Out (fun s => s.cabinet.linkUp = true ∧ s.cabinet.inbox.length = 4 ∧
        s.cabinet.outgoing = some (.reply true false false false [])) :=
  ⟨out { State.reset with cabinet := { outgoing := some (.alert 4 0 1 []) } } rfl rfl,
    out State.reset rfl (by intros; exact nofun), out State.reset rfl rfl,
    out { State.reset with cabinet := { linkUp := true } } rfl ⟨rfl, by decide, by decide⟩, by decide, by decide,
    out { State.reset with cabinet := { linkUp := true, inbox := List.replicate 3 ⟨0, 0, []⟩ } } rfl (by decide),
    out { State.reset with
          cabinet :=
            { linkUp := true, inbox := List.replicate 4 ⟨0, 0, []⟩, outgoing := some (.reply true false false false []) } }
      rfl (by decide)⟩

theorem hyps_CabinetFramesArriveAndEnd_end :
    Out (fun s => ∃ m a ma aa bytes q rest, s.cabinet.outgoing = some (.reply m a ma aa bytes) ∧
      s.cabinet.replies = q :: rest ∧ q.resetsPart = false) ∧
      Out (fun s => ∃ bytes f rest, s.cabinet.outgoing = some (.forward bytes) ∧ s.cabinet.forwards = f :: rest) ∧
      Out (fun s => s.cabinet.outgoing = some (.alert 4 0 1 [])) ∧ Out (fun s => s.cabinet.outgoing = none) :=
  ⟨out { State.reset with cabinet := { replies := [⟨7, 1, .ok, []⟩], outgoing := some (.reply true false false false []) } }
      rfl ⟨_, _, _, _, _, _, _, rfl, rfl, by decide⟩,
    out { State.reset with
          cabinet := { forwards := [⟨0, none, true, false, 0, []⟩], outgoing := some (.forward []) } }
      rfl ⟨_, _, _, rfl, rfl⟩,
    out { State.reset with cabinet := { outgoing := some (.alert 4 0 1 []) } } rfl rfl, out State.reset rfl rfl⟩

/-- An alert list entry in a send state. -/
def alert (event : Nat) (send : SendState) (count : Nat := 3) : AlertEntry :=
  ⟨event, 0, .fault, true, count, 0, 0, none, send, 0⟩

theorem hyps_TransmitterChoosesByRule :
    Out (fun s => s.cabinet.linkUp = false ∨ s.cabinet.outgoing ≠ none) ∧
      Out (fun s => s.cabinet.linkUp = true ∧ s.cabinet.outgoing = none ∧ s.cabinet.replies = [⟨7, 1, .ok, []⟩]) ∧
      Out (fun s => s.cabinet.linkUp = true ∧ s.cabinet.outgoing = none ∧ s.cabinet.replies = [] ∧
        s.cabinet.forwards = [⟨0, none, true, false, 0, []⟩] ∧ (4 ≤ s.cabinet.alertRun ∨ s.router.nextAlert = none)) ∧
      Out (fun s => s.cabinet.linkUp = true ∧ s.cabinet.outgoing = none ∧ s.cabinet.replies = [] ∧
        (s.router.alerts.map fun e => (e.event, e.drum)).Nodup ∧
        s.router.alerts = [alert 4 .sent] ++ alert 5 .resend :: [] ∧ s.cabinet.alertRun < 4) ∧
      Out (fun s => s.cabinet.linkUp = true ∧ s.cabinet.outgoing = none ∧ s.cabinet.replies = [] ∧
        s.cabinet.forwards = [] ∧ s.router.nextAlert = none) :=
  ⟨out State.reset rfl (by decide),
    out { State.reset with cabinet := { linkUp := true, replies := [⟨7, 1, .ok, []⟩] } } rfl (by decide),
    out { State.reset with
          cabinet := { linkUp := true, forwards := [⟨0, none, true, false, 0, []⟩], alertRun := 4 } } rfl (by decide),
    out { State.reset with
          cabinet := { linkUp := true, alertRun := 3 }
          router := { State.reset.router with alerts := [alert 4 .sent, alert 5 .resend] } } rfl (by decide),
    out { State.reset with cabinet := { linkUp := true } } rfl (by decide)⟩

/-! ### Requests and settings -/

theorem hyps_RequestsAreAnsweredOnce :
    (∃ (c : Instr) (s : State), c ∈ requestCommands ∧ s.resetHeld = false ∧ s.cabinet.takes = false) ∧
      (∃ c : Instr, c ∈ requestCommands ∧ Offered 22 [0] (fun _ => True)) :=
  ⟨⟨.badRequest, { State.reset with cabinet := { replies := List.replicate 4 ⟨0, 1, .ok, []⟩ } }, by decide, rfl, by decide⟩,
    .attrRead, by decide, offered {} trivial⟩

theorem hyps_ArgumentsOutOfTheTablesAreRefused :
    Offered 0 [] (fun _ => (⟨7, 0, []⟩ : Request).valid = false) ∧
      Offered 10 [] (fun _ => (⟨7, 10, []⟩ : Request).valid = false) ∧
      Offered 1 [0, 0, 0, 0, 0] (fun _ => (⟨7, 1, [0, 0, 0, 0, 0]⟩ : Request).valid = true) ∧
      Offered 1 [7, 0, 0, 0, 0] (fun _ => (⟨7, 1, [7, 0, 0, 0, 0]⟩ : Request).valid = true ∧ 6 < natAt [7] 0) ∧
      Offered 18 [0, 8, 0] (fun _ => (⟨7, 18, [0, 8, 0]⟩ : Request).valid = true ∧ 7 < natAt [0, 8, 0] 1) ∧
      (∀ a ∈ [(0 : Byte), 7, 8], Offered 18 [4, a, 0] (fun _ => (⟨7, 18, [4, a, 0]⟩ : Request).valid = true ∧
        3 < natAt [4, a, 0] 0 ∧ (natAt [4, a, 0] 1 = a.toNat ∨ 7 < natAt [4, a, 0] 1))) ∧
      Offered 24 [4, 0] (fun _ => (⟨7, 24, [4, 0]⟩ : Request).valid = true ∧ 3 < natAt [4, 0] 0) ∧
      Offered 10 [4] (fun _ => (⟨7, 10, [4]⟩ : Request).valid = true ∧ 3 < natAt [4] 0) :=
  ⟨offered {} (by decide), offered {} (by decide), offered {} (by decide), offered {} (by decide),
    offered {} (by decide), fun _ _ => offered {} ⟨rfl, Nat.lt_succ_self 3, .inl rfl⟩, offered {} (by decide),
    offered {} (by decide)⟩

/-- An entry that matches drum 0's node 1, kind 1, channel 0. -/
def entry (number : Nat) (role : Role := .inletTemp) (action : EntryAction := .absorb) : ClassEntry :=
  ⟨number, 0, .exact 528, role, action, 0, 256, 0, 4⟩

/-- A state with one entry in use and a request offered. -/
def entryAsking (e : ClassEntry) (D : DrumState) (code : Byte) (args : List Byte) : State :=
  { asking D code args with classifier := { entries := [e] } }

theorem entryOffered (e : ClassEntry) (D : DrumState) {code : Byte} {args : List Byte} {P : State → Prop}
    (h : P (entryAsking e D code args)) : Offered code args P :=
  ⟨entryAsking e D code args, ⟨7, code, args⟩, [], ⟨rfl, rfl, rfl⟩, rfl, rfl, h⟩

theorem hyps_SpreadWordsAreWrittenWhileTheTableIsEmpty :
    Offered 1 [4, 0, 0, 0, 1] (fun s => s.classifier.entries = []) ∧
      Offered 1 [4, 0, 0, 0, 1] (fun s => s.classifier.entries ≠ []) ∧
      Offered 1 [5, 0, 0, 0, 1] (fun s => s.classifier.entries = []) ∧
      Offered 1 [5, 0, 0, 0, 1] (fun s => s.classifier.entries ≠ []) :=
  ⟨offered {} rfl, entryOffered (entry 1) {} (by decide), offered {} rfl, entryOffered (entry 1) {} (by decide)⟩

/-- The bytes of a reversal profile: seconds, 120, 120, 300, dwell 6, 40 and 40 rpm, 30, 10, 5, 2, 4000, 3, 3, 1, 2. -/
def profileBytes : List Byte := [0, 0, 120, 0, 120, 1, 44, 6, 40, 40, 0, 30, 10, 5, 2, 15, 160, 3, 3, 1, 2]

theorem hyps_MissActionsProfilesAndRoutesAreReplaced :
    Offered 1 [6, 0, 0, 3, 0] (fun _ => (3 : Byte) = byte (3 : Drum).val) ∧
      Offered 1 [6, 0, 0, 3, 1] (fun _ => (3 : Byte) = byte (3 : Drum).val) ∧
      Offered 1 [6, 0, 0, 4, 0] (fun _ => 3 < (4 : Byte).toNat) ∧
      Offered 1 [6, 0, 0, 3, 2] (fun _ => 1 < (2 : Byte).toNat) ∧
      Offered 3 (8 :: profileBytes) (fun _ => (8 :: profileBytes).length = 22 ∧ 8 ≤ natAt (8 :: profileBytes) 0) ∧
      Offered 3 (0 :: List.replicate 21 0) (fun _ => profileOf (0 :: List.replicate 21 0) = none) ∧
      Offered 3 (7 :: profileBytes)
        (fun _ => natAt (7 :: profileBytes) 0 = (7 : Fin 8).val ∧ (profileOf (7 :: profileBytes)).isSome = true) ∧
      Offered 4 [30, 0, 0, 0] (fun _ => 29 < (30 : Byte).toNat) ∧ Offered 4 [0, 4, 0, 0] (fun _ => 3 < (4 : Byte).toNat) ∧
      Offered 4 [0, 0, 0, 4] (fun _ => 3 < (4 : Byte).toNat) ∧
      Offered 4 [29, 3, 1, 3] (fun _ => (29 : Fin 32).val ≤ 29 ∧ (29 : Byte) = byte (29 : Fin 32).val) :=
  ⟨offered {} (by decide), offered {} (by decide), offered {} (by decide), offered {} (by decide),
    offered {} (by decide), offered {} (by decide), offered {} (by decide), offered {} (by decide),
    offered {} (by decide), offered {} (by decide), offered {} (by decide)⟩

/-- Drums 0 and 1 hold stage 1 at 40 units each. -/
def heated : Heat :=
  { budget := 100, shares := #v[⟨1, 1, some ⟨40, 100⟩⟩, ⟨1, 1, some ⟨40, 100⟩⟩, {}, {}], grants := [0, 1] }

theorem hyps_HeatSettingsAreWritten :
    Offered 1 [2, 0, 0, 0, 7] (fun s => be32 0 0 0 7 ≤ 7 ∧
      (grantRound { s with heat := { s.heat with bypassLimit := be32 0 0 0 7 } }).isNone = true) ∧
      Offered 1 [2, 0, 0, 0, 8] (fun _ => 7 < be32 0 0 0 8) ∧
      Offered 1 [3, 0, 0, 2, 89] (fun _ => 600 < be32 0 0 2 89) ∧
      Offered 1 [3, 0, 0, 0, 0] (fun s => be32 0 0 0 0 ≤ 600 ∧ be32 0 0 0 0 = s.heat.waitLimit) ∧
      Offered 1 [3, 0, 0, 2, 88] (fun s => be32 0 0 2 88 ≤ 600 ∧ be32 0 0 2 88 ≠ s.heat.waitLimit ∧
        (s.heat.queue.map (·.drum)).Nodup) ∧
      Offered 1 [1, 0, 0, 0, 255] (fun _ => be32 0 0 0 255 ≤ 255) ∧
      Offered 1 [1, 0, 0, 1, 0] (fun _ => 255 < be32 0 0 1 0) :=
  ⟨offered {} (by decide), offered {} (by decide), offered {} (by decide), offered {} (by decide),
    offered {} (by decide), offered {} (by decide), offered {} (by decide)⟩

/-- The allocator's invariant holds with two drums granted, so a budget below the held sum is no empty case. -/
theorem heatSound_heated (s : State) (hd : s.drums = State.reset.drums) (hf : s.flight.demands = []) (hh : s.heat = heated) :
    HeatSound s := by
  have h4 : ∀ x : Drum, x = 0 ∨ x = 1 ∨ x = 2 ∨ x = 3 := by decide
  unfold HeatSound WithinBudget HeatQueueSound LockedOutDrumsHoldNoHeat CostsOrdered GrantsSound EntriesSound StagesBounded
    State.share State.drum
  rw [hd, hf, hh]
  refine ⟨by decide, by decide, by decide, fun d => ⟨by revert d; decide, fun c h => ?_⟩, by decide, by decide, by decide⟩
  rcases h4 d with rfl | rfl | rfl | rfl <;> cases h <;> decide

theorem hyps_HeatSound : HeatSound { State.reset with heat := heated } ∧ heated.heldSum = 80 :=
  ⟨heatSound_heated _ rfl rfl rfl, by decide⟩

/-- A budget of 50 takes one stage back, and one of 80 none. -/
theorem hyps_HeatSettingsAreWritten_budget :
    ∀ b ∈ [(50 : Byte), 80], ∃ (s : State) (r : Request) (rest : List Request), s.offers r rest ∧ r.code = 1 ∧
      r.args = [1, 0, 0, 0, b] ∧ be32 0 0 0 b ≤ 255 ∧ HeatSound s ∧ s.heat.heldSum = 80 :=
  fun b hb =>
    ⟨{ State.reset with cabinet := { linkUp := true, inbox := [⟨7, 1, [1, 0, 0, 0, b]⟩] }, heat := heated },
      ⟨7, 1, [1, 0, 0, 0, b]⟩, [], ⟨rfl, rfl, rfl⟩, rfl, rfl, by revert b hb; decide, heatSound_heated _ rfl rfl rfl,
      hyps_HeatSound.2⟩

/-- Drum 2's entry of 60 units heads the queue and drum 3's of 10 units follows, with 20 units free. -/
def contended (limit bypass : Nat) : State :=
  { State.reset with
    heat := { heated with bypassLimit := limit, queue := [⟨2, 1, 60, bypass, 0, false⟩, ⟨3, 1, 10, 0, 0, false⟩] } }

/-- Drum 2's entry alone, with 20 units free. -/
def queuedOnly (cost : Nat) : State := { State.reset with heat := { heated with queue := [⟨2, 1, cost, 0, 0, false⟩] } }

/-- Each case of a grant round, of a grant and of a revocation step is met by some state. -/
theorem hyps_GrantRoundsByRule :
    (State.reset.heat.queue = []) ∧
      (∃ head rest, (contended 2 0).heat.queue = head :: rest ∧ (contended 2 0).heat.free < head.cost ∧
        head.bypass < (contended 2 0).heat.bypassLimit ∧
        ∃ pre e post, rest = pre ++ e :: post ∧ (∀ x ∈ pre, (contended 2 0).heat.free < x.cost) ∧
          e.cost ≤ (contended 2 0).heat.free) ∧
      (∃ head rest, (contended 2 2).heat.queue = head :: rest ∧ (contended 2 2).heat.free < head.cost ∧
        (contended 2 2).heat.bypassLimit ≤ head.bypass) ∧
      (∃ e : HeatEntry, (queuedOnly 20).heat.queue = e :: [] ∧ e.cost ≤ (queuedOnly 20).heat.free) ∧
      (∃ e : HeatEntry, (queuedOnly 21).heat.queue = e :: [] ∧ (queuedOnly 21).heat.free < e.cost ∧ e.bypass < (queuedOnly 21).heat.bypassLimit) ∧
      (∀ g ∈ [0, 1], ∃ s : State, (s.share 0).granted = g + 1) :=
  ⟨rfl, ⟨_, _, rfl, by decide, by decide, [], _, [], rfl, by decide, by decide⟩, ⟨_, _, rfl, by decide, by decide⟩,
    ⟨_, rfl, by decide⟩, ⟨_, rfl, by decide, by decide⟩,
    fun g _ => ⟨{ State.reset with heat := { heated with shares := heated.shares.set 0 ⟨g + 1, 2, none⟩ } }, rfl⟩⟩

/-- The bytes of the configuration `bound` with a gate mode, at argument offset 1. -/
def configBytes (gate : Byte) : List Byte :=
  [1, 2, 3, gate, 20, 5, 5, 75, 40, 100, 15, 20, 60, 30, 30, 10, 2, 30, 0, 120, 0, 220]

theorem hyps_DrumConfigWriteReplacesTheRecord :
    Offered 2 (0 :: List.replicate 22 0) (fun _ => configOf (0 :: List.replicate 22 0) = none) ∧
      Offered 2 (0 :: configBytes 0) (fun s => configOf (0 :: configBytes 0) = some bound ∧
        (s.drum 0).cycle.state.idle = false) ∧
      Offered 2 (0 :: configBytes 0) (fun s => (configOf (0 :: configBytes 0)) = some bound ∧
        (s.drum 0).cycle.state.idle = true ∧ (s.drum 0).config.gateMode = .service ∧ bound.gateMode = .auto) ∧
      Offered 2 (0 :: configBytes 0) (fun s => (configOf (0 :: configBytes 0)) = some bound ∧
        (s.drum 0).cycle.state.idle = true ∧ (s.drum 0).config.gateMode = .auto ∧
        (s.drum 0).config.motorNode = bound.motorNode ∧ (s.drum 0).port.sends = true ∧ bound.burnerNode ≠ 0 ∧
        (s.drum 0).config.burnerNode ≠ bound.burnerNode) :=
  ⟨offered {} (by decide), offered (drumIn .ready) (by decide),
    offered { drumIn .done with config := { bound with gateMode := .service } } (by decide),
    offered { drumIn .vacant with config := { bound with burnerNode := 5 } } (by decide)⟩

/-! ### Frames and the classifier -/

/-- A frame from node 1, kind 1, channel 0 with payload 00 64, its check passed. -/
def frame : HandedFrame := ⟨0, true, 0, [1, 1, 0, 2, 0, 100]⟩

theorem hyps_MainLaneFramesAreCheckedAndHandedOn :
    Out (fun s => (s.drum 0).port.state ≠ .up) ∧
      Out (fun s => (s.drum 0).port.state = .up ∧ ([1, 1, 0] : List Byte).length < 4) ∧
      Out (fun s => (s.drum 0).port.state = .up ∧ 16 < natAt [1, 1, 0, 17] 3) ∧
      Out (fun s => (s.drum 0).port.state = .up ∧ ([1, 1, 0, 2] : List Byte).length ≠ natAt [1, 1, 0, 2] 3 + 6) ∧
      Out (fun s => (s.drum 0).port.state = .up ∧ 4 ≤ (linkFrame 0 1 1 0 [0, 100]).length ∧
        natAt (linkFrame 0 1 1 0 [0, 100]) 3 ≤ 16 ∧
        (linkFrame 0 1 1 0 [0, 100]).length = natAt (linkFrame 0 1 1 0 [0, 100]) 3 + 6 ∧
        checkPassed (linkFrame 0 1 1 0 [0, 100]) = true) ∧
      Out (fun s => (s.drum 0).port.state = .up ∧ ([0, 1, 0, 0, 0, 0] : List Byte).length = natAt [0, 1, 0, 0] 3 + 6 ∧
        checkPassed [0, 1, 0, 0, 0, 0] = false) :=
  ⟨out State.reset rfl (by decide), out (with0 (drumIn .drying)) rfl (by decide),
    out (with0 (drumIn .drying)) rfl (by decide), out (with0 (drumIn .drying)) rfl (by decide),
    out (with0 (drumIn .drying)) rfl (by decide), out (with0 (drumIn .drying)) rfl (by decide)⟩

theorem hyps_FoldsAreWindowsOfTheSpreadWord :
    (∃ e, classEntryOf [0, 5, 0, 1, 1, 0, 0x20, 0, 1, 0, 0, 0] 0x5A3C96E1 = some e ∧ e.key = .exact 528) ∧
      (∃ c : Classifier, c.bucketSpread = 0 ∧ (c.winner 528).isSome = true) :=
  ⟨⟨_, rfl, rfl⟩, { entries := [entry 1] }, rfl, by decide⟩

/-- The arguments of a CLASS_ADD of entry n: EXACT, port 0, node 1, kind 1, channel 0, INLET_TEMP, ABSORB, gain 256. -/
def addArgs (hi lo : Byte) : List Byte := [hi, lo, 0, 1, 1, 0, 0x20, 0, 1, 0, 0, 0]

theorem hyps_ClassAddChecksThenPlacesAtTheTail :
    Offered 5 (addArgs 2 0) (fun s => (addArgs 2 0).length = 12 ∧ classEntryOf (addArgs 2 0) s.classifier.bucketSpread = none) ∧
      Offered 5 (addArgs 0 1) (fun s => ∃ e, classEntryOf (addArgs 0 1) s.classifier.bucketSpread = some e ∧
        ∃ x ∈ s.classifier.entries, x.number = e.number) ∧
      Offered 5 (addArgs 0 2) (fun s => ∃ e, classEntryOf (addArgs 0 2) s.classifier.bucketSpread = some e ∧
        (∀ x ∈ s.classifier.entries, x.number ≠ e.number) ∧ ∃ x ∈ s.classifier.entries, x.duplicates e = true) ∧
      Offered 5 (addArgs 1 255) (fun s => ∃ e, classEntryOf (addArgs 1 255) s.classifier.bucketSpread = some e ∧
        e.number = 511 ∧ (∀ x ∈ s.classifier.entries, x.number ≠ e.number) ∧
        (∀ x ∈ s.classifier.entries, x.duplicates e = false) ∧ (s.classifier.chain e.bucket).length < 8) :=
  ⟨offered {} (by decide), entryOffered (entry 1) {} ⟨_, rfl, by decide⟩,
    entryOffered (entry 1) {} ⟨_, rfl, by decide, by decide⟩, offered {} ⟨_, rfl, by decide, by decide, by decide, by decide⟩⟩

/-- A full chain: eight SIGNATURE entries on bucket 0. -/
def fullChain : Classifier :=
  { entries := (List.range 8).map fun n => ⟨n, 0, .signature (BitVec.ofNat 16 n), .none, .drop, 0, 1, 0, 0⟩ }

theorem hyps_ClassAdd_of_a_full_chain :
    ∃ (s : State) (r : Request) (rest : List Request) (e : ClassEntry), s.offers r rest ∧ r.code = 5 ∧
      r.args.length = 12 ∧ classEntryOf r.args s.classifier.bucketSpread = some e ∧
      (∀ x ∈ s.classifier.entries, x.number ≠ e.number) ∧ (∀ x ∈ s.classifier.entries, x.duplicates e = false) ∧
      8 ≤ (s.classifier.chain e.bucket).length :=
  ⟨{ asking {} 5 (addArgs 0 9) with classifier := fullChain }, ⟨7, 5, addArgs 0 9⟩, [], _, ⟨rfl, rfl, rfl⟩, rfl, rfl, rfl,
    by decide, by decide, by decide⟩

theorem hyps_ClassRemoveUnlinksTheEntry :
    Offered 6 [2, 0] (fun _ => 511 < be16 2 0) ∧
      Offered 6 [1, 255] (fun s => be16 1 255 ≤ 511 ∧ ∀ e ∈ s.classifier.entries, e.number ≠ be16 1 255) ∧
      Offered 6 [0, 1] (fun s => s.classifier.entries = [] ++ entry 1 .driveStatus :: [] ∧ (entry 1).number = be16 0 1 ∧
        ((entry 1 .driveStatus).role = .driveStatus ∧ (entry 1 .driveStatus).serves 0 = true) ∧
        (s.drum 0).cycle.state ∈ [CycleState.ready, .purge, .drying, .cooling, .guarding, .paused]) ∧
      Offered 6 [0, 1] (fun s => s.classifier.entries = [] ++ entry 1 .flameStatus :: [] ∧
        ∀ d, (entry 1 .flameStatus).serves d = true → (s.drum d).cycle.state ∈ [CycleState.vacant, .done, .halted]) ∧
      Offered 6 [0, 1] (fun s => s.classifier.entries = [] ++ entry 1 .inletTemp :: [] ∧
        (entry 1 .inletTemp).role ≠ .driveStatus ∧ (entry 1 .inletTemp).role ≠ .flameStatus) :=
  ⟨offered {} (by decide), offered {} (by decide), entryOffered (entry 1 .driveStatus) (drumIn .paused) (by decide),
    entryOffered (entry 1 .flameStatus) (drumIn .done) (by decide),
    entryOffered (entry 1 .inletTemp) (drumIn .drying) (by decide)⟩

theorem hyps_TableSound : TableSound { State.reset with classifier := { entries := [entry 1 .driveStatus] } } := by
  refine ⟨by decide, by decide, ?_, ?_, by decide⟩
  · intro e he t ht
    cases List.mem_singleton.mp he
    cases ht
    decide
  · intro b
    exact Nat.le_trans (List.length_filter_le _ _) (by decide)

/-- A state in which drum 0's frame waits at the classifier. -/
def looking (c : Classifier) (f : HandedFrame) (forwards : Nat := 0) : State :=
  { with0 (drumIn .drying) with
    classifier := c
    cabinet := { forwards := List.replicate forwards ⟨0, none, true, false, 0, []⟩ }
    flight := { frames := [f] } }

theorem hyps_LookupsActOnTheFirstMatch :
    Out (fun s => ∀ f ∈ s.flight.frames, f.port ≠ 0) ∧
      Out (fun s => s.flight.frames = [] ++ frame :: [] ∧ s.classifier.winner frame.tuple = some (entry 1) ∧
        frame.passed = true ∧ (measurement (entry 1) frame).isSome = true) ∧
      Out (fun s => s.flight.frames = [] ++ frame :: [] ∧ s.classifier.winner frame.tuple = some (entry 1 .none .forward) ∧
        s.cabinet.forwards.length = 31) ∧
      Out (fun s => s.flight.frames = [] ++ frame :: [] ∧ s.classifier.winner frame.tuple = some (entry 1 .none .forward) ∧
        32 ≤ s.cabinet.forwards.length) ∧
      Out (fun s => s.flight.frames = [] ++ frame :: [] ∧ s.classifier.winner frame.tuple = none ∧
        s.classifier.miss[(0 : Drum)] = .forwardMarked) ∧
      Out (fun s => s.classifier.winner frame.tuple = none ∧ s.classifier.miss[(0 : Drum)] = .drop) :=
  ⟨out State.reset rfl (by decide), out (looking { entries := [entry 1] } frame) rfl (by decide),
    out (looking { entries := [entry 1 .none .forward] } frame 31) rfl (by decide),
    out (looking { entries := [entry 1 .none .forward] } frame 32) rfl (by decide),
    out (looking {} frame) rfl (by decide),
    out (looking { miss := Vector.replicate 4 .drop } frame) rfl (by decide)⟩

/-- A DRIVE_STAT of node 1 and an entry of that role. -/
def statFrame (source : Byte) : HandedFrame := ⟨0, true, 0, [source, 2, 0, 5, 0, 0, 0, 0, 0]⟩

theorem hyps_Lookup_of_a_status_role :
    ∀ p ∈ [((1 : Byte), true), (2, false)],
      ∃ (c : Classifier) (e : ClassEntry) (a : Absorbed), c.winner (statFrame p.1).tuple = some e ∧ e.role = .driveStatus ∧
        (driveStatOf (statFrame p.1)).map Absorbed.driveStat = some a ∧
        decide ((statFrame p.1).source = (with0 (drumIn .drying)).drums[0].config.motorNode) = p.2 := by
  intro p hp
  have h : p = (1, true) ∨ p = (2, false) := by simpa using hp
  rcases h with rfl | rfl
  · exact ⟨{ entries := [⟨1, 0, .exact 544, .driveStatus, .absorb, 0, 1, 0, 0⟩] }, _, _, rfl, rfl, rfl, by decide⟩
  · exact ⟨{ entries := [⟨1, 0, .exact 1056, .driveStatus, .absorb, 0, 1, 0, 0⟩] }, _, _, rfl, rfl, rfl, by decide⟩

/-! ### Reading requests -/

theorem hyps_ReadingRequestsChangeNothing :
    Offered 7 [byte (3 : Drum).val, 15, 31, 15]
        (fun _ => (15 : Byte).toNat ≤ 15 ∧ (31 : Byte).toNat ≤ 31) ∧
      Offered 7 [4, 0, 0, 0] (fun _ => 3 < (4 : Byte).toNat) ∧ Offered 7 [0, 16, 0, 0] (fun _ => 15 < (16 : Byte).toNat) ∧
      Offered 7 [0, 0, 32, 0] (fun _ => 31 < (32 : Byte).toNat) ∧
      Offered 8 [1, 255, 16] (fun _ => be16 1 255 ≤ 511 ∧ (16 : Byte).toNat ≤ 16) ∧
      Offered 8 [2, 0, 17] (fun _ => 511 < be16 2 0 ∧ 16 < (17 : Byte).toNat) ∧
      Offered 22 [byte (3 : Drum).val] (fun _ => True) ∧ Offered 24 [0, 9] (fun _ => True) ∧
      Offered 24 [1, byte (3 : Drum).val] (fun _ => True) ∧ Offered 24 [2, byte (0 : Drum).val] (fun _ => True) ∧
      Offered 24 [3, 9] (fun _ => True) ∧ Offered 24 [1, 4] (fun _ => 3 < (4 : Byte).toNat) ∧
      Offered 24 [2, 4] (fun _ => 3 < (4 : Byte).toNat) :=
  ⟨offered {} (by decide), offered {} (by decide), offered {} (by decide), offered {} (by decide), offered {} (by decide),
    offered {} (by decide), offered {} trivial, offered {} trivial, offered {} trivial, offered {} trivial,
    offered {} trivial, offered {} (by decide), offered {} (by decide)⟩

theorem hyps_ReportsHaveTheirLayout : ∃ s : State, HeatQueueSound s ∧ s.heat.grants.Nodup :=
  ⟨{ State.reset with heat := heated }, hyps_HeatSound.1.2.1, by decide⟩

/-! ### The cycle controller's requests -/

/-- The arguments of a CYCLE_LOAD on drum 0: TIME mode, 60 minutes, no optional part. -/
def loadArgs (minutes : Byte) : List Byte := [0, 0, 1, 1, minutes, 0, 140, 20, 4, 2, 0, 0, 0, 80, 1, 10]

theorem hyps_CycleLoadChecksThenTakesTheRecord :
    (⟨7, 9, loadArgs 60⟩ : Request).valid = true ∧ Offered 9 (loadArgs 0) (fun _ => recordOf (loadArgs 0) = none) ∧
      (recordOf (loadArgs 60)).isSome = true ∧
      Offered 9 (loadArgs 60) (fun s => (s.drum 0).cycle.state ∉ [CycleState.vacant, .ready, .done]) ∧
      Offered 9 (loadArgs 60) (fun s => (s.drum 0).cycle.state ∈ [CycleState.vacant, .ready, .done] ∧
        (s.drum 0).port.state ≠ .up) ∧
      Offered 9 (loadArgs 60) (fun s => (s.drum 0).cycle.state ∈ [CycleState.vacant, .ready, .done] ∧
        (s.drum 0).port.state = .up ∧ (s.drum 0).config.gateMode = .service) ∧
      Offered 9 (loadArgs 60) (fun s => (s.drum 0).cycle.state ∈ [CycleState.vacant, .ready, .done] ∧
        (s.drum 0).port.state = .up ∧ (s.drum 0).config.gateMode = .auto ∧ (s.drum 0).config.motorNode = 0) ∧
      Offered 9 (loadArgs 60) (fun s => (s.drum 0).cycle.state ∈ [CycleState.vacant, .ready, .done] ∧
        (s.drum 0).port.state = .up ∧ (s.drum 0).config.gateMode = .auto ∧ (s.drum 0).config.motorNode ≠ 0 ∧
        (s.drum 0).config.fanNode ≠ 0 ∧ (s.drum 0).config.burnerNode ≠ 0) :=
  ⟨rfl, offered {} (by decide), by decide, offered (drumIn .halted) (by decide), offered {} (by decide),
    offered { drumIn .done with config := { bound with gateMode := .service } } (by decide),
    offered { drumIn .ready with config := {} } (by decide), offered (drumIn .vacant) (by decide)⟩

theorem hyps_CycleUnloadEmptiesAReadyDrum :
    Offered 10 [4] (fun _ => 3 < (4 : Byte).toNat) ∧
      Offered 10 [byte (0 : Drum).val] (fun s => (s.drum 0).cycle.state ≠ .ready) ∧
      Offered 10 [byte (0 : Drum).val] (fun s => (s.drum 0).cycle.state = .ready) :=
  ⟨offered {} (by decide), offered {} (by decide), offered (drumIn .ready) (by decide)⟩

/-- The check a CYCLE_START makes on the port's readings and the presence set. -/
abbrev Quiet (s : State) : Prop :=
  (s.drum 0).port.readings.doorOpen = false ∧ (s.drum 0).port.readings.lintOut = false ∧
    ∀ n ∈ (s.drum 0).boundNodes, (s.drum 0).port.nodePresent n = true

theorem hyps_CycleStartChecksThenPurges :
    Offered 11 [4] (fun _ => 3 < (4 : Byte).toNat) ∧
      Offered 11 [byte (0 : Drum).val] (fun s => (s.drum 0).cycle.state ≠ .ready) ∧
      Offered 11 [byte (0 : Drum).val] (fun s => (s.drum 0).cycle.state = .ready ∧ (s.drum 0).cycle.record = some record ∧
        (s.drum 0).port.state ≠ .up) ∧
      Offered 11 [byte (0 : Drum).val] (fun s => (s.drum 0).cycle.state = .ready ∧ (s.drum 0).cycle.record = some record ∧
        (s.drum 0).port.state = .up ∧ ∃ n ∈ (s.drum 0).boundNodes, (s.drum 0).port.nodePresent n = false) ∧
      Offered 11 [byte (0 : Drum).val] (fun s => (s.drum 0).cycle.state = .ready ∧ (s.drum 0).cycle.record = some record ∧
        (s.drum 0).port.state = .up ∧ Quiet s ∧ 0 < record.maxStage ∧ (s.drum 0).burner.lockout ≠ none) ∧
      Offered 11 [byte (0 : Drum).val] (fun s => (s.drum 0).cycle.state = .ready ∧ (s.drum 0).cycle.record = some record ∧
        (s.drum 0).port.state = .up ∧ Quiet s ∧ (s.drum 0).burner.lockout = none ∧ (∀ a, (s.attr 0 a).noStart = false) ∧
        (s.drum 0).tumble.state = .stopped ∧ (s.drum 0).confirming = false) :=
  ⟨offered {} (by decide), offered {} (by decide),
    offered { drumIn .ready with port := { (drumIn .ready).port with state := .seek } } (by decide),
    offered { drumIn .ready with port := { (drumIn .ready).port with presence := 0 } } (by decide),
    offered { drumIn .ready with burner := { view := .lockedOut, lockout := some .ignition } } (by decide),
    offered (drumIn .ready) (by decide)⟩

/-- A drum with its stop confirmed at clock 1, in a cycle state and a tumble state, under a cycle record's profile. -/
def stood (c : CycleState) (t : TumbleState) (profile : Nat) : DrumState :=
  { drumIn c with
    cycle := { state := c, record := some { record with profile := profile } }
    tumble := { state := t, status := some ⟨.stopped, 0, 1⟩ } }

/-- START finds a drum in every tumble state: at rest without a confirming status, with one younger and one older than 2 s. -/
theorem hyps_Started (c : CycleState) :
    ((with0 (drumIn c)).drum 0).tumble.state = .stopped ∧ ((with0 (drumIn c)).drum 0).confirming = false ∧
      (∀ n ∈ [0, 7, 255], ∀ now ∈ [(2000 : Clock), 2001], ∃ s : State, s.clock = now ∧ s.drum 0 = stood c .stopped n ∧
        (s.drum 0).confirming = true ∧ (now = 2000 → elapsed s.clock 1 < 2000) ∧ (now = 2001 → 2000 ≤ elapsed s.clock 1)) ∧
      ∀ x ∈ [TumbleState.decel, .recover, .dwell, .runFwd, .runRev], ∃ s : State, (s.drum 0).cycle.state = c ∧
        (s.drum 0).tumble.state = x :=
  ⟨rfl, rfl,
    fun n _ now _ =>
      ⟨{ with0 (stood c .stopped n) with clock := now }, rfl, rfl,
        (by decide : (MotorState.stopped == .stopped && laterThan 1 0) = true),
        fun h => by subst h; exact (by decide : elapsed 2000 1 < 2000),
        fun h => by subst h; exact (by decide : 2000 ≤ elapsed 2001 1)⟩,
    fun x _ => ⟨with0 (stood c x 0), rfl, rfl⟩⟩

theorem hyps_PauseHoldsAndEndHeatCools_pause :
    Offered 12 [byte (0 : Drum).val]
        (fun s => (s.drum 0).cycle.state ∈ [CycleState.vacant, .ready, .guarding, .done, .halted]) ∧
      Offered 12 [byte (0 : Drum).val] (fun s => (s.drum 0).cycle.state = .paused) ∧
      Offered 12 [byte (0 : Drum).val] (fun s => (s.drum 0).cycle.state ∈ [CycleState.purge, .drying, .cooling] ∧
        (s.drum 0).tumble.state.running = true) :=
  ⟨offered (drumIn .guarding) (by decide), offered (drumIn .paused) (by decide), offered (drumIn .drying .runFwd) (by decide)⟩

theorem hyps_PauseHoldsAndEndHeatCools_heat :
    Offered 14 [byte (0 : Drum).val]
        (fun s => (s.drum 0).cycle.state ∈ [CycleState.vacant, .ready, .done, .halted]) ∧
      Offered 14 [byte (0 : Drum).val] (fun s => (s.drum 0).cycle.state ∈ [CycleState.cooling, .guarding]) ∧
      Offered 14 [byte (0 : Drum).val] (fun s => (s.drum 0).cycle.state = .purge ∧ (s.drum 0).cycle.purgeTarget ≠ some .drying) ∧
      Offered 14 [byte (0 : Drum).val] (fun s => (s.drum 0).cycle.state = .paused ∧ (s.drum 0).cycle.pausedFrom ≠ some .drying) ∧
      Offered 14 [byte (0 : Drum).val] (fun s => (s.drum 0).cycle.state = .drying) ∧
      Offered 14 [byte (0 : Drum).val] (fun s => (s.drum 0).cycle.state = .purge ∧ (s.drum 0).cycle.purgeTarget = some .drying) ∧
      Offered 14 [byte (0 : Drum).val] (fun s => (s.drum 0).cycle.state = .paused ∧ (s.drum 0).cycle.pausedFrom = some .drying) :=
  ⟨offered (drumIn .done) (by decide), offered (drumIn .guarding) (by decide), offered (drumIn .purge) (by decide),
    offered (drumIn .paused) (by decide), offered (drumIn .drying) (by decide),
    offered { drumIn .purge with cycle := { state := .purge, purgeTarget := some .drying } } (by decide),
    offered { drumIn .paused with cycle := { state := .paused, pausedFrom := some .drying } } (by decide)⟩

theorem hyps_CycleResumePurgesTowardThePhase :
    Offered 13 [4] (fun _ => 3 < (4 : Byte).toNat) ∧
      Offered 13 [byte (0 : Drum).val] (fun s => (s.drum 0).cycle.state ≠ .paused) ∧
      Offered 13 [byte (0 : Drum).val] (fun s => (s.drum 0).cycle.state = .paused ∧ (s.drum 0).port.state ≠ .up) ∧
      Offered 13 [byte (0 : Drum).val] (fun s => (s.drum 0).cycle.state = .paused ∧ (s.drum 0).port.state = .up ∧
        (s.drum 0).cycle.record = some record ∧ Quiet s) :=
  ⟨offered {} (by decide), offered {} (by decide),
    offered { drumIn .paused with port := { (drumIn .paused).port with state := .seek } } (by decide),
    offered (drumIn .paused) (by decide)⟩

theorem hyps_AbortEndsTheCycleByState :
    Offered 15 [4] (fun _ => 3 < (4 : Byte).toNat) ∧
      Offered 15 [byte (0 : Drum).val] (fun s => (s.drum 0).cycle.state ∈ [CycleState.vacant, .done, .halted]) ∧
      Offered 15 [byte (0 : Drum).val] (fun s => (s.drum 0).cycle.state = .drying) ∧
      Offered 15 [byte (0 : Drum).val] (fun s => (s.drum 0).cycle.state = .purge ∧ (s.drum 0).cycle.purgeTarget ≠ some .cooling) ∧
      Offered 15 [byte (0 : Drum).val] (fun s => (s.drum 0).cycle.state = .purge ∧ (s.drum 0).cycle.purgeTarget = some .cooling) ∧
      Offered 15 [byte (0 : Drum).val] (fun s => (s.drum 0).cycle.state ∈ [CycleState.cooling, .guarding, .paused]) ∧
      Offered 15 [byte (0 : Drum).val] (fun s => (s.drum 0).cycle.state = .ready) :=
  ⟨offered {} (by decide), offered {} (by decide), offered (drumIn .drying) (by decide), offered (drumIn .purge) (by decide),
    offered { drumIn .purge with cycle := { state := .purge, purgeTarget := some .cooling } } (by decide),
    offered (drumIn .paused) (by decide), offered (drumIn .ready) (by decide)⟩

theorem hyps_DrumResetClearsTheDrum :
    Offered 16 [byte (0 : Drum).val] (fun s => (s.drum 0).burner.lockout = none) ∧
      Offered 16 [byte (0 : Drum).val] (fun s => (s.drum 0).burner.lockout ≠ none) :=
  ⟨offered (drumIn .drying .runFwd) (by decide), offered { burner := { view := .lockedOut, lockout := some .ignition } } (by decide)⟩

theorem hyps_LockoutClearReturnsTheBurnerToIdle :
    Offered 17 [byte (0 : Drum).val] (fun s => (s.drum 0).burner.lockout = none) ∧
      Offered 17 [byte (0 : Drum).val] (fun s => (s.drum 0).burner.lockout ≠ none ∧ (s.drum 0).port.sends = true ∧
        (s.drum 0).config.burnerNode ≠ 0) :=
  ⟨offered {} (by decide),
    offered { drumIn .halted with burner := { view := .lockedOut, lockout := some .byAttribute } } (by decide)⟩

/-! ### The drum port's requests -/

/-- A drum at rest with its port in a state. -/
def portIn (p : PortState) : DrumState := { drumIn .vacant with port := { (drumIn .vacant).port with state := p } }

/-- A drum at rest whose port is in SEEK within a grace interval. -/
def seeking : DrumState := { drumIn .done with port := { (drumIn .done).port with state := .seek, grace := some 500 } }

theorem hyps_PortControlMovesThePort :
    (∀ a ∈ [(0 : Byte), 1], Offered 18 [byte (0 : Drum).val, a, 0] (fun s =>
      (s.drum 0).cycle.state ∈ [CycleState.vacant, .done, .halted] ∧ (s.drum 0).port.state = .seek ∧
      (s.drum 0).port.grace ≠ none)) ∧
    Offered 18 [byte (0 : Drum).val, 0, 0] (fun s => (s.drum 0).cycle.state ∉ [CycleState.vacant, .done, .halted]) ∧
      Offered 18 [byte (0 : Drum).val, 1, 0] (fun s => (s.drum 0).port.state = .test) ∧
      Offered 18 [byte (0 : Drum).val, 0, 0] (fun s => (s.drum 0).cycle.state ∈ [CycleState.vacant, .done, .halted] ∧
        (s.drum 0).port.state = .off) ∧
      Offered 18 [byte (0 : Drum).val, 0, 0] (fun s => (s.drum 0).cycle.state ∈ [CycleState.vacant, .done, .halted] ∧
        (s.drum 0).port.state ∈ [PortState.service, .seek, .up] ∧ (s.drum 0).port.state = .up) ∧
      Offered 18 [byte (0 : Drum).val, 1, 0] (fun s => (s.drum 0).cycle.state ∈ [CycleState.vacant, .done, .halted] ∧
        (s.drum 0).port.state = .service) ∧
      Offered 18 [byte (0 : Drum).val, 1, 0] (fun s => (s.drum 0).cycle.state ∈ [CycleState.vacant, .done, .halted] ∧
        (s.drum 0).port.state ∈ [PortState.off, .seek, .up]) ∧
      Offered 18 [byte (0 : Drum).val, 2, 0] (fun s => (s.drum 0).port.state ∈ [PortState.seek, .up]) ∧
      Offered 18 [byte (0 : Drum).val, 2, 0] (fun s => (s.drum 0).port.state = .test) ∧
      Offered 18 [byte (0 : Drum).val, 2, 0] (fun s => (s.drum 0).port.state ∈ [PortState.off, .service]) :=
  ⟨fun _ _ => offered seeking ⟨(by decide : CycleState.done ∈ [CycleState.vacant, .done, .halted]), rfl, nofun⟩,
    offered (drumIn .ready) (by decide), offered (portIn .test) (by decide), offered {} (by decide),
    offered (portIn .up) (by decide), offered (portIn .service) (by decide), offered {} (by decide),
    offered (portIn .up) (by decide), offered (portIn .test) (by decide), offered {} (by decide)⟩

/-- The state after reset meets the invariant that the statement on POWER_OFF assumes. -/
theorem hyps_FlameSafe : FlameSafe (with0 (portIn .up)) := by unfold FlameSafe FlameOk; decide

theorem hyps_NodeHoldIsSetAndReleased :
    Offered 18 [byte (0 : Drum).val, 3, 0] (fun s => (s.drum 0).cycle.state ∉ [CycleState.vacant, .ready, .done, .halted]) ∧
      Offered 18 [byte (0 : Drum).val, 3, 0] (fun s => (s.drum 0).cycle.state ∈ [CycleState.vacant, .ready, .done, .halted] ∧
        (s.drum 0).port.state ≠ .test ∧ (s.drum 0).port.hold = true) ∧
      Offered 18 [byte (0 : Drum).val, 3, 0] (fun s => (s.drum 0).cycle.state ∈ [CycleState.vacant, .ready, .done, .halted] ∧
        (s.drum 0).port.state ≠ .test ∧ (s.drum 0).port.hold = false) ∧
      Offered 18 [byte (0 : Drum).val, 4, 0] (fun s => (s.drum 0).port.hold = false) ∧
      Offered 18 [byte (0 : Drum).val, 4, 0] (fun s => (s.drum 0).port.hold = true ∧ (s.drum 0).port.state = .up) ∧
      Offered 18 [byte (0 : Drum).val, 4, 0] (fun s => (s.drum 0).port.hold = true ∧ (s.drum 0).port.state ≠ .up) :=
  ⟨offered (drumIn .purge) (by decide), offered { port := { hold := true } } (by decide), offered (drumIn .ready) (by decide),
    offered {} (by decide), offered { port := { hold := true, state := .up } } (by decide),
    offered { port := { hold := true } } (by decide)⟩

theorem hyps_LineTestsRunFromRequestToEnd_requests :
    Offered 18 [byte (0 : Drum).val, 5, 2] (fun _ => 1 < (2 : Byte).toNat) ∧
      Offered 18 [byte (0 : Drum).val, 6, 1] (fun s => (1 : Byte).toNat ≤ 1 ∧ (s.drum 0).port.state ∉ [PortState.up, .seek]) ∧
      Offered 18 [byte (0 : Drum).val, 5, 0] (fun s => (0 : Byte).toNat ≤ 1 ∧ (s.drum 0).port.state ∈ [PortState.up, .seek] ∧
        (s.drum 0).cycle.state ∈ [CycleState.vacant, .done, .halted] ∧ (s.drum 0).port.hold = false) ∧
      Offered 18 [byte (0 : Drum).val, 6, 1] (fun s => (s.drum 0).port.state = .seek ∧ (s.drum 0).port.grace ≠ none ∧
        (s.drum 0).cycle.state ∈ [CycleState.vacant, .done, .halted] ∧ (s.drum 0).port.hold = false) ∧
      Offered 18 [byte (0 : Drum).val, 7, 0] (fun s => (s.drum 0).port.state ≠ .test) ∧
      Offered 18 [byte (0 : Drum).val, 7, 0] (fun s => (s.drum 0).port.state = .test) :=
  ⟨offered {} (by decide), offered {} (by decide), offered (portIn .up) (by decide), offered seeking (by decide),
    offered {} (by decide), offered (portIn .test) (by decide)⟩

/-- A line test in a direction and with an outcome, its timers run out. -/
def testing (dir : TestDirection) (o : TestOutcome) : DrumState :=
  { port := { state := .test, serviceLock := true, lineTest := ⟨dir, .latched, o, 0, false⟩, arm := some 0, checker := some 0 } }

theorem hyps_LineTestsRunFromRequestToEnd_steps :
    Out (fun s => (s.drum 0).port.state ≠ .test) ∧
      Out (fun s => (s.drum 0).port.state = .test ∧ (s.drum 0).port.lineTest.outcome = .arming ∧
        (s.drum 0).port.serviceLock = true ∧ (s.drum 0).port.arm = some 0) ∧
      Out (fun s => (s.drum 0).port.state = .test ∧ (s.drum 0).port.lineTest.outcome = .running ∧
        (s.drum 0).port.lineTest.direction = .send ∧ (s.drum 0).port.serviceLock = true) ∧
      Out (fun s => (s.drum 0).port.state = .test ∧ (s.drum 0).port.lineTest.outcome = .running ∧
        (s.drum 0).port.lineTest.direction = .receive ∧ (s.drum 0).port.checker = some 0 ∧
        (s.drum 0).port.lineTest.errors = 0 ∧ 0 < 1) ∧
      (∀ m ∈ [FlagMode.latched, .live], Out (fun s => (s.drum 0).port.state = .test ∧
        (s.drum 0).port.lineTest.outcome = .running ∧ (s.drum 0).port.lineTest.direction = .receive ∧
        (s.drum 0).port.checker = some 0 ∧ (s.drum 0).port.lineTest.errors = 0 ∧ (s.drum 0).port.lockGap = true ∧
        (s.drum 0).port.lineTest.mode = m)) :=
  ⟨out State.reset rfl (by decide), out (with0 (testing .send .arming)) rfl (by decide),
    out (with0 (testing .send .running)) rfl (by decide), out (with0 (testing .receive .running)) rfl (by decide),
    fun m _ => out (with0
      { port := { state := .test, lineTest := ⟨.receive, m, .running, 0, false⟩, checker := some 0, lockGap := true } })
      rfl ⟨rfl, rfl, rfl, rfl, rfl, rfl, rfl⟩⟩

theorem hyps_LineTests_arm_report : ∀ dir : TestDirection,
    Out (fun s => (s.drum 0).port.state = .test ∧ (s.drum 0).port.lineTest.outcome = .arming ∧
      (s.drum 0).port.serviceLock = true ∧ (s.drum 0).port.lineTest.direction = dir) :=
  fun dir => out (with0 (testing dir .arming)) rfl ⟨rfl, rfl, rfl, rfl⟩

/-- A stopped drum in SERVICE gate mode whose stop has been confirmed for 2 s at clock 5000. -/
def serviced : DrumState :=
  { drumIn .vacant with
    config := { bound with gateMode := .service }
    tumble := { status := some ⟨.stopped, 0, 3000⟩ } }

theorem hyps_CommandGateAdmitsByRule :
    (⟨7, 19, [0, 1, 20, 0]⟩ : Request).valid = true ∧ (⟨7, 19, [0, 15, 31, 15] ++ List.replicate 16 0⟩ : Request).valid = true ∧
      Offered 19 [byte (0 : Drum).val, 0, 20, 0] (fun _ => True) ∧
      Offered 19 [byte (0 : Drum).val, 16, 32, 16] (fun _ => 15 < (16 : Byte).toNat ∧ 31 < (32 : Byte).toNat) ∧
      Offered 19 [byte (0 : Drum).val, 15, 31, 15] (fun s => (15 : Byte).toNat ≤ 15 ∧ (31 : Byte).toNat ≤ 31 ∧
        (s.drum 0).port.state ≠ .up) ∧
      Offered 19 [byte (0 : Drum).val, 1, 20, 0] (fun s => (s.drum 0).port.state = .up ∧ (s.drum 0).port.slot = none) ∧
      Offered 19 [byte (0 : Drum).val, 1, 20, 0] (fun s => (s.drum 0).port.state = .up ∧ (s.drum 0).port.slot ≠ none) ∧
      Offered 19 [byte (0 : Drum).val, 1, 16, 0] (fun s => (s.drum 0).port.state = .up ∧ (s.drum 0).config.gateMode = .auto) ∧
      Offered 19 [byte (0 : Drum).val, 2, 17, 0] (fun s => (s.drum 0).port.state = .up ∧ (s.drum 0).config.gateMode = .service) ∧
      Offered 19 [byte (0 : Drum).val, 1, 16, 0, 2] (fun s => (s.drum 0).config.gateMode = .service ∧ driveCmdOf [2] = none) ∧
      Offered 19 [byte (0 : Drum).val, 1, 16, 0, 1, 0, 20] (fun s => (s.drum 0).config.gateMode = .service ∧
        driveCmdOf [1, 0, 20] = some (.run .fwd 20) ∧ driveGated (s.drum 0) s.clock (.run .fwd 20) = true) ∧
      Offered 19 [byte (0 : Drum).val, 1, 16, 0, 0, 0, 0] (fun s => (s.drum 0).port.state = .up ∧
        (s.drum 0).config.gateMode = .service ∧ driveCmdOf [0, 0, 0] = some .stop ∧
        driveGated (s.drum 0) s.clock .stop = false ∧ (1 : Byte).toNat = (s.drum 0).config.motorNode) ∧
      Offered 19 [byte (0 : Drum).val, 3, 18, 0, 1] (fun s => (s.drum 0).port.state = .up ∧
        (s.drum 0).config.gateMode = .service ∧ fanCmdOf [1] = some true ∧ (3 : Byte).toNat = (s.drum 0).config.fanNode) ∧
      Offered 19 [byte (0 : Drum).val, 4, 18, 0, 1] (fun s => (s.drum 0).config.gateMode = .service ∧
        (4 : Byte).toNat ≠ (s.drum 0).config.fanNode) ∧
      driveGated serviced 5000 (.run .fwd 20) = false :=
  ⟨rfl, rfl, offered {} trivial, offered {} (by decide), offered {} (by decide), offered (drumIn .drying) (by decide),
    offered { drumIn .drying with port := { state := .up, slot := some ⟨1, 20, 0, []⟩ } } (by decide),
    offered (drumIn .drying) (by decide), offered serviced (by decide), offered serviced (by decide),
    offered { serviced with tumble := {} } (by decide), offered serviced (by decide), offered serviced (by decide),
    offered serviced (by decide), by decide⟩

/-! ### Alerts and attributes -/

/-- A state with alerts and a request offered. -/
def alertAsking (l : List AlertEntry) (args : List Byte) : State :=
  { asking {} 20 args with router := { State.reset.router with alerts := l } }

theorem hyps_AlertAckRemovesOrReducesTheEntry :
    Offered 20 [30, 0, 1] (fun _ => 29 < (30 : Byte).toNat) ∧ Offered 20 [0, 4, 1] (fun _ => 3 < (4 : Byte).toNat) ∧
      Offered 20 [29, byte (0 : Drum).val, 1] (fun s => (29 : Byte).toNat ≤ 29 ∧
        ∀ e ∈ s.router.alerts, ¬(e.event = (29 : Byte).toNat ∧ e.drum = 0)) ∧
      (∃ s r rest, State.offers s r rest ∧ r.code = 20 ∧ r.args = [4, byte (0 : Drum).val, 3] ∧
        (s.router.alerts.map fun e => (e.event, e.drum)).Nodup ∧ s.router.alerts = [] ++ alert 4 .sent :: [] ∧
        (alert 4 .sent).count ≤ (3 : Byte).toNat) ∧
      (∃ s r rest, State.offers s r rest ∧ r.code = 20 ∧ r.args = [4, byte (0 : Drum).val, 2] ∧
        (s.router.alerts.map fun e => (e.event, e.drum)).Nodup ∧ s.router.alerts = [] ++ alert 4 .sent :: [] ∧
        (2 : Byte).toNat < (alert 4 .sent).count) :=
  ⟨offered {} (by decide), offered {} (by decide), offered {} (by decide),
    ⟨alertAsking [alert 4 .sent] [4, 0, 3], ⟨7, 20, [4, 0, 3]⟩, [], ⟨rfl, rfl, rfl⟩, rfl, rfl, by decide, rfl, by decide⟩,
    ⟨alertAsking [alert 4 .sent] [4, 0, 2], ⟨7, 20, [4, 0, 2]⟩, [], ⟨rfl, rfl, rfl⟩, rfl, rfl, by decide, rfl, by decide⟩⟩

/-- A threshold image: a revision, eight limits of 1 with consequence NONE, zeros, and a sum byte. -/
def image (revision sum : Byte) : List Byte :=
  [revision, 8] ++ (List.replicate 8 ([0, 0, 0, 1, 0] : List Byte)).flatten ++ [0, 0, 0, 0, 0, sum]

theorem hyps_AttrLoadEvaluatesEveryRecord :
    Offered 21 (image 2 0) (fun _ => (image 2 0).length = 48 ∧ (image 2 0).sum ≠ 0) ∧
      Offered 21 (image 3 237) (fun _ => (image 3 237).sum = 0 ∧ natAt (image 3 237) 0 ≠ 2) ∧
      Offered 21 ([2] ++ List.replicate 46 0 ++ [254]) (fun _ => ([2] ++ List.replicate 46 0 ++ [254] : List Byte).sum = 0 ∧
        tableOf ([2] ++ List.replicate 46 0 ++ [254]) = none) ∧
      Offered 21 (image 2 238) (fun _ => (image 2 238).sum = 0 ∧ natAt (image 2 238) 0 = 2 ∧
        (tableOf (image 2 238)).isSome = true) :=
  ⟨offered {} (by decide), offered {} (by decide), offered {} (by decide), offered {} (by decide)⟩

/-- A threshold image with limits of 1 and one consequence for all. -/
def imageOf (c sum : Byte) : List Byte :=
  [2, 8] ++ (List.replicate 8 ([0, 0, 0, 1, c] : List Byte)).flatten ++ [0, 0, 0, 0, 0, sum]

/-- A state whose records stand at 1, with an image offered. -/
def loading (D : DrumState) (c sum : Byte) : State :=
  { asking D 21 (imageOf c sum) with
    attributes :=
      { State.reset.attributes with records := Vector.replicate 4 (Vector.replicate 8 { raw := 1 }) } }

/-- An image whose limits every record has reached: its consequence is a heat lockout or the NO_START bit. -/
theorem hyps_AttrLoadEvaluatesEveryRecord_crossings :
    ∀ p ∈ [((1 : Byte), (230 : Byte), Consequence.heatLockout), (2, 222, .noStart)],
      ∃ (s : State) (r : Request) (rest : List Request) (v : Vector Threshold 8), s.offers r rest ∧ r.code = 21 ∧
        r.args.length = 48 ∧ r.args.sum = 0 ∧ natAt r.args 0 = 2 ∧ tableOf r.args = some v ∧
        v[(0 : Fin 8)] = ⟨1, p.2.2⟩ ∧ (s.attr 0 0).crossed = false ∧ (s.attr 0 0).raw = 1 ∧
        (s.drum 0).burner.lockout = none ∧ (s.drum 0).cycle.state = .drying := by
  intro p hp
  have h : p = (1, 230, .heatLockout) ∨ p = (2, 222, .noStart) := by simpa using hp
  rcases h with rfl | rfl
  · exact ⟨loading (drumIn .drying) 1 230, ⟨7, 21, imageOf 1 230⟩, [], _, ⟨rfl, rfl, rfl⟩, rfl, by decide, by decide, by decide,
      rfl, by decide, by decide, by decide, by decide, by decide⟩
  · exact ⟨loading (drumIn .drying) 2 222, ⟨7, 21, imageOf 2 222⟩, [], _, ⟨rfl, rfl, rfl⟩, rfl, by decide, by decide, by decide,
      rfl, by decide, by decide, by decide, by decide, by decide⟩

theorem hyps_AttrClearZeroesTheRecords :
    Offered 23 [4, 0] (fun _ => 3 < (4 : Byte).toNat) ∧
      Offered 23 [byte (0 : Drum).val, 8] (fun _ => 7 < (8 : Byte).toNat ∧ (8 : Byte) ≠ 255) ∧
      Offered 23 [byte (0 : Drum).val, 254] (fun _ => 7 < (254 : Byte).toNat ∧ (254 : Byte) ≠ 255) ∧
      Offered 23 [byte (0 : Drum).val, 7] (fun _ => (7 : Byte) = byte (7 : Fin 8).val) ∧
      Offered 23 [byte (0 : Drum).val, 255] (fun _ => True) :=
  ⟨offered {} (by decide), offered {} (by decide), offered {} (by decide), offered {} (by decide), offered {} trivial⟩

/-- A state in which an event of drum 0 waits, with a route for it and an alert list. -/
def raised (k : EventKind) (rt : Route) (l : List AlertEntry) (D : DrumState) : State :=
  { with0 D with
    flight := { events := [⟨.port 0, k, 0, 0, none⟩] }
    router := { routes := State.reset.router.routes.set k.code rt, alerts := l } }

/-- ATTR_CROSSED of drum 0, and the HEAT_LOCKOUT by attribute that it causes. -/
def crossing : Event := ⟨.attributes, .attrCrossed, 0, 0, some 2⟩

def lockout : Event := ⟨.burner 0, .heatLockout, 0, 0, some 2⟩

theorem hyps_EventsAreRoutedAndEntered :
    Out (fun s => ∀ e ∈ s.flight.events, e.src ≠ .port 0) ∧
      Out (fun s => s.flight.events = [] ++ ⟨.port 0, .doorOpened, 0, 0, none⟩ :: [] ∧
        s.router.routes[EventKind.doorOpened.code].cls = .none ∧ s.router.routes[EventKind.doorOpened.code].action = .none) ∧
      Out (fun s => s.flight.events = [crossing] ++ lockout :: [] ∧ (∀ x ∈ [crossing], x.src ≠ lockout.src) ∧
        WaitsForCrossing [crossing] lockout) ∧
      Out (fun s => s.flight.events = [⟨.attributes, .attrCrossed, 1, 0, some 2⟩] ++ lockout :: [] ∧
        ¬WaitsForCrossing [⟨.attributes, .attrCrossed, 1, 0, some 2⟩] lockout) ∧
      Out (fun s => s.router.routes[EventKind.highLimit.code].cls ≠ .none ∧
        (s.router.alerts.map fun e => (e.event, e.drum)).Nodup ∧ s.router.alerts = [] ++ alert 4 .sent :: [] ∧
        (alert 4 .sent).event = EventKind.highLimit.code.val) ∧
      Out (fun s => s.router.routes[EventKind.highLimit.code].cls ≠ .none ∧ s.router.alerts.length < 32 ∧
        ∀ e ∈ s.router.alerts, ¬(e.event = EventKind.highLimit.code.val ∧ e.drum = 0)) ∧
      Out (fun s => s.router.routes[EventKind.highLimit.code].cls ≠ .none ∧ 32 ≤ s.router.alerts.length ∧
        ∀ e ∈ s.router.alerts, ¬(e.event = EventKind.highLimit.code.val ∧ e.drum = 0)) ∧
      Out (fun s => s.router.routes[EventKind.doorOpened.code].action = .pause ∧
        (s.drum 0).cycle.state ∈ [CycleState.purge, .drying, .cooling]) ∧
      Out (fun s => s.router.routes[EventKind.doorOpened.code].action = .endHeat ∧ (s.drum 0).cycle.state = .drying) ∧
      Out (fun s => s.router.routes[EventKind.doorOpened.code].action = .halt ∧
        (s.drum 0).cycle.state ∈ [CycleState.purge, .drying, .cooling, .guarding, .paused]) ∧
      Out (fun s => s.router.routes[EventKind.doorOpened.code].action = .halt ∧
        (s.drum 0).cycle.state ∈ [CycleState.vacant, .ready, .done, .halted]) :=
  ⟨out State.reset rfl (by decide), out (raised .doorOpened {} [] {}) rfl (by decide),
    out { State.reset with flight := { events := [crossing, lockout] } } rfl
      ⟨rfl, by decide, rfl, rfl, by simp [crossing, lockout]⟩,
    out { State.reset with flight := { events := [⟨.attributes, .attrCrossed, 1, 0, some 2⟩, lockout] } } rfl
      ⟨rfl, by simp [WaitsForCrossing, lockout]⟩,
    out (raised .highLimit ⟨.fault, true, .none⟩ [alert 4 .sent] {}) rfl (by decide),
    out (raised .highLimit ⟨.fault, true, .none⟩ (List.replicate 31 (alert 5 .sent)) {}) rfl (by decide),
    out (raised .highLimit ⟨.fault, true, .none⟩ (List.replicate 32 (alert 5 .sent)) {}) rfl (by decide),
    out (raised .doorOpened ⟨.none, false, .pause⟩ [] (drumIn .cooling)) rfl (by decide),
    out (raised .doorOpened ⟨.none, false, .endHeat⟩ [] (drumIn .drying)) rfl (by decide),
    out (raised .doorOpened ⟨.none, false, .halt⟩ [] (drumIn .paused)) rfl (by decide),
    out (raised .doorOpened ⟨.none, false, .halt⟩ [] (drumIn .done)) rfl (by decide)⟩

/-- A state in which an increment of drum 0's attribute 6 waits, with a limit and consequence for it. -/
def counted (limit : Nat) (c : Consequence) (crossed : Bool) (D : DrumState) : State :=
  { with0 D with
    flight := { increments := [⟨.port 0, 0, 6⟩] }
    attributes :=
      { State.reset.attributes with
        valid := true
        table := State.reset.attributes.table.set 6 ⟨limit, c⟩
        records := State.reset.attributes.records.set 0 ((Vector.replicate 8 {}).set 6 ⟨4, crossed, false⟩) } }

theorem hyps_IncrementsCountAndCross :
    Out (fun s => ∀ i ∈ s.flight.increments, i.src ≠ .port 0) ∧
      Out (fun s => s.flight.increments = [] ++ ⟨.port 0, 0, 6⟩ :: [] ∧ (s.attr 0 6).crossed = true) ∧
      Out (fun s => s.flight.increments = [] ++ ⟨.port 0, 0, 6⟩ :: [] ∧ (s.attr 0 6).raw + 1 < s.attributes.table[(6 : Fin 8)].limit) ∧
      (∀ c ∈ [Consequence.none, .noStart, .heatLockout], Out (fun s => s.attributes.valid = true ∧
        0 < s.attributes.table[(6 : Fin 8)].limit ∧ (s.attr 0 6).crossed = false ∧
        s.attributes.table[(6 : Fin 8)].limit = (s.attr 0 6).raw + 1 ∧ s.attributes.table[(6 : Fin 8)].consequence = c)) ∧
      Out (fun s => s.attributes.table[(6 : Fin 8)].consequence = .heatLockout ∧ (s.drum 0).burner.lockout ≠ none) :=
  ⟨out State.reset rfl (by decide), out (counted 5 .none true {}) rfl (by decide), out (counted 6 .none false {}) rfl (by decide),
    fun c _ => out (counted 5 c false {}) rfl ⟨rfl, (by decide : 0 < 5), rfl, rfl, rfl⟩,
    out (counted 5 .heatLockout false { burner := { lockout := some .ignition } }) rfl (by decide)⟩

/-! ### The drum link -/

theorem hyps_LinkLossAndStandbyGiveTheNotice :
    Out (fun s => (s.drum 0).port.state ∈ [PortState.off, .service, .up]) ∧
      Out (fun s => (s.drum 0).port.state = .test) ∧
      Out (fun s => (s.drum 0).port.state = .seek ∧ (s.drum 0).port.hold = false ∧ (s.drum 0).config.motorNode ≠ 0) ∧
      Out (fun s => (s.drum 0).port.state = .seek ∧ (s.drum 0).port.hold = true) ∧
      Out (fun s => (s.drum 0).port.state = .up ∧ (s.drum 0).cycle.state.active = true ∧ (s.drum 0).config.graceSteps ≠ 0) ∧
      Out (fun s => (s.drum 0).port.state = .up ∧ (s.drum 0).cycle.state.active = true ∧ (s.drum 0).config.graceSteps = 0) ∧
      Out (fun s => (s.drum 0).port.state = .up ∧ (s.drum 0).cycle.state.active = false) ∧
      (∀ c ∈ [CycleState.drying, .guarding, .paused], Out (fun s => (s.drum 0).port.state = .seek ∧
        (s.drum 0).port.grace = some 0 ∧ (s.drum 0).cycle.state = c)) ∧
      Out (fun s => (s.drum 0).port.state = .seek ∧ (s.drum 0).port.grace ≠ some 0) ∧
      Out (fun s => (s.drum 0).port.state = .up ∧ (s.drum 0).port.standby = some 0) ∧
      Out (fun s => (s.drum 0).port.state ≠ .up) :=
  ⟨out State.reset rfl (by decide), out (with0 (portIn .test)) rfl (by decide), out (with0 (portIn .seek)) rfl (by decide),
    out (with0 { port := { state := .seek, hold := true } }) rfl (by decide), out (with0 (drumIn .drying)) rfl (by decide),
    out (with0 { drumIn .drying with config := { bound with graceSteps := 0 } }) rfl (by decide),
    out (with0 (drumIn .paused)) rfl (by decide),
    fun c _ => out (with0 { port := { state := .seek, grace := some 0 }, cycle := { state := c } }) rfl ⟨rfl, rfl, rfl⟩,
    out (with0 (portIn .seek)) rfl (by decide),
    out (with0 { port := { state := .up, standby := some 0 } }) rfl (by decide), out State.reset rfl (by decide)⟩

/-- A grace of 0, or above 0, at a loss of lock in each active state; a drum whose standby timer starts at the lock, at the
codes where Table 1-5 changes. -/
theorem hyps_LinkLoss_of_a_grace_and_standby :
    (∀ c ∈ [CycleState.purge, .drying, .cooling, .guarding], ∀ n ∈ [0, 1], Out (fun s => (s.drum 0).port.state = .up ∧
      (s.drum 0).cycle.state = c ∧ (s.drum 0).config.graceSteps = n)) ∧
      ∀ p ∈ [(1, 30000), (7, 30000), (8, 32000), (255, 1020000)], ∃ s t : State, s.resetHeld = false ∧
        (s.drum 0).port.state = .seek ∧ exec (.mainLaneLock 0) s = .next t ∧ (t.drum 0).standbyRuns = true ∧
        (s.drum 0).port.standby = none ∧ (s.drum 0).fullStandby = p.2 ∧ (t.drum 0).port.standby = some p.2 := by
  refine ⟨fun c _ n _ => out (with0 { port := { state := .up }, cycle := { state := c }, config := { graceSteps := n } }) rfl
    ⟨rfl, rfl, rfl⟩, fun p hp => ⟨with0 { portIn .seek with config := { bound with standbyCode := p.1 } }, _, rfl, rfl, rfl, ?_⟩⟩
  simp only [List.mem_cons, List.not_mem_nil, or_false] at hp
  rcases hp with rfl | rfl | rfl | rfl <;> decide

/-- A drum takes the link-lost notice in every tumble state and every view. -/
theorem hyps_NoticeTaken (x : TumbleState) (v : View) :
    Out (fun s => (s.drum 0).port.state = .up ∧ (s.drum 0).port.standby = some 0 ∧ (s.drum 0).tumble.state = x ∧
      (s.drum 0).burner.view = v ∧ (s.drum 0).cycle.state ≠ .guarding) :=
  out (with0 { port := { state := .up, standby := some 0 }, tumble := { state := x }, burner := { view := v } }) rfl
    ⟨rfl, rfl, rfl, rfl, nofun⟩

theorem hyps_ServiceLaneReportsReadingsAndPresence :
    Out (fun s => (s.drum 0).port.state = .off ∧ (s.drum 0).port.serviceLock = false) ∧
      Out (fun s => (s.drum 0).port.state ≠ .off ∧ (s.drum 0).port.serviceLock = true ∧
        (s.drum 0).port.readings.doorOpen = false ∧ (s.drum 0).cycle.state ∈ [CycleState.purge, .drying, .cooling] ∧
        (s.drum 0).port.nodePresent 1 = true ∧ (0 : BitVec 16).getLsbD 1 = false ∧ 1 ∈ (s.drum 0).boundNodes ∧
        (s.drum 0).port.hold = false) ∧
      Out (fun s => (s.drum 0).port.serviceLock = true ∧ (s.drum 0).cycle.state = .guarding ∧
        (s.drum 0).port.nodePresent 1 = true ∧ 1 ∈ (s.drum 0).boundNodes) ∧
      Out (fun s => ∀ n ∈ (s.drum 0).boundNodes, (s.drum 0).port.nodePresent n = true → (14 : BitVec 16).getLsbD n = true) ∧
      Out (fun s => (s.drum 0).port.nodePresent 14 = false ∧ (0x4000 : BitVec 16).getLsbD 14 = true) :=
  ⟨out State.reset rfl (by decide), out (with0 (drumIn .cooling)) rfl (by decide), out (with0 (drumIn .guarding)) rfl (by decide),
    out (with0 (drumIn .drying)) rfl (by decide), out State.reset rfl (by decide)⟩

/-- A drum in a cycle state with one debounce timer run out. -/
def debounced (c : CycleState) (x : Discrete) (r : Readings) : DrumState :=
  { drumIn c with port := { (drumIn c).port with readings := r, debounce := ({} : Debounce).set x (some 0) } }

theorem hyps_DiscretesAreDebouncedAndActedOn :
    Out (fun s => (s.drum 0).port.serviceLock = false) ∧
      Out (fun s => (s.drum 0).port.serviceLock = true ∧ (s.drum 0).port.debounce.get .door = none ∧
        (⟨true, false, false, false⟩ : Readings).get .door ≠ (s.drum 0).port.readings.get .door ∧
        (⟨true, false, false, false⟩ : Readings).get .lint = (s.drum 0).port.readings.get .lint) ∧
      Out (fun s => (s.drum 0).port.debounce.get .door ≠ some 0) ∧
      (∀ c ∈ [CycleState.drying, .cooling, .guarding, .done, .purge], ∀ x ∈ [Discrete.door, .lint, .airflow, .highlimit],
        Out (fun s => (s.drum 0).port.debounce.get x = some 0 ∧ (s.drum 0).port.readings.get x = false ∧
          (s.drum 0).cycle.state = c)) ∧
      Out (fun s => (s.drum 0).port.debounce.get .airflow = some 0 ∧ (s.drum 0).port.readings.get .airflow = true ∧
        (s.drum 0).cycle.state = .purge) ∧
      Out (fun s => (s.drum 0).port.debounce.get .door = some 0 ∧ (s.drum 0).port.readings.get .door = true ∧
        (s.drum 0).port.state = .service) :=
  ⟨out State.reset rfl (by decide), out (with0 (drumIn .drying)) rfl (by decide), out State.reset rfl (by decide),
    fun c _ x _ => out (with0 (debounced c x ⟨false, false, false, false⟩)) rfl (by cases x <;> exact ⟨rfl, rfl, rfl⟩),
    out (with0 (debounced .purge .airflow ⟨false, false, true, false⟩)) rfl (by decide),
    out (with0 { port := { state := .service, debounce := ({} : Debounce).set .door (some 0) } }) rfl (by decide)⟩

theorem hyps_Discretes_airflow_lost_in_purge_and_standby :
    Out (fun s => (s.drum 0).port.debounce.get .airflow = some 0 ∧ (s.drum 0).port.readings.get .airflow = false ∧
      (s.drum 0).cycle.state = .purge ∧ (s.drum 0).cycle.air ≠ none) ∧
      ∃ s t : State, s.resetHeld = false ∧ (s.drum 0).port.debounce.get .lint = some 0 ∧
        exec (.debounceExpiry 0 .lint) s = .next t ∧ (s.drum 0).port.standby ≠ none ∧ (t.drum 0).standbyRuns = true :=
  ⟨out (with0 { debounced .purge .airflow ⟨false, false, false, false⟩ with cycle := { state := .purge, air := some 500 } }) rfl
      (by decide),
    with0
      { debounced .vacant .lint ⟨false, false, false, false⟩ with
        port := { state := .up, standby := some 5, debounce := ({} : Debounce).set .lint (some 0) } },
    _, rfl, rfl, rfl, by decide, by decide⟩

theorem hyps_CommandFramesLeaveInOrder :
    Out (fun s => (s.drum 0).port.state ≠ .up ∧ (s.drum 0).port.sending = none) ∧
      Out (fun s => (s.drum 0).port.state = .up ∧ (s.drum 0).port.hold = false ∧ (s.drum 0).port.sending = none) ∧
      Out (fun s => (s.drum 0).port.sending = some ⟨.flame, true, []⟩) :=
  ⟨out State.reset rfl (by decide), out (with0 (drumIn .drying)) rfl (by decide),
    out (with0 { port := { state := .up, sending := some ⟨.flame, true, []⟩ } }) rfl (by decide)⟩

theorem hyps_RefreshTimerMarksTheBoundEntries :
    Out (fun s => (s.drum 0).port.state ≠ .up) ∧
      Out (fun s => (s.drum 0).port.state = .up ∧ (s.drum 0).port.refresh = some 0 ∧ (s.drum 0).port.hold = true) ∧
      Out (fun s => (s.drum 0).port.state = .up ∧ (s.drum 0).port.refresh = some 0 ∧ (s.drum 0).port.hold = false) ∧
      Out (fun s => (s.drum 0).port.state = .seek) :=
  ⟨out State.reset rfl (by decide), out (with0 { port := { state := .up, hold := true, refresh := some 0 } }) rfl (by decide),
    out (with0 { config := bound, port := { state := .up, refresh := some 0 } }) rfl (by decide),
    out (with0 (portIn .seek)) rfl (by decide)⟩

/-! ### The cycle controller's times -/

theorem hyps_PurgeAndDryingEndByTheirTimes :
    Out (fun s => (s.drum 0).cycle.state = .purge ∧ (s.drum 0).cycle.prove = some 0 ∧
      (s.drum 0).tumble.state.running = true) ∧
      (∀ ph, Out (fun s => (s.drum 0).cycle.state = .purge ∧ (s.drum 0).cycle.air = some 0 ∧
        (s.drum 0).cycle.purgeTarget = some ph)) ∧
      Out (fun s => (s.drum 0).cycle.state = .drying ∧ (s.drum 0).cycle.record = some record ∧
        record.maxDrying * 60000 = (s.drum 0).cycle.drying) ∧
      Out (fun s => (s.drum 0).cycle.state ≠ .purge ∧ (s.drum 0).cycle.state ≠ .drying) :=
  ⟨out (with0 { drumIn .purge .runFwd with cycle := { state := .purge, prove := some 0 } }) rfl (by decide),
    fun ph => out (with0 { cycle := { state := .purge, air := some 0, purgeTarget := some ph } }) rfl ⟨rfl, rfl, rfl⟩,
    out (with0 { cycle := { state := .drying, record := some record, drying := 3600000 } }) rfl (by decide),
    out State.reset rfl (by decide)⟩

/-- A drum in COOLING for a time, with or without a guard part. -/
def cooled (ms : Nat) (g : Option GuardPart) (v : Option Temperature) : DrumState :=
  { cycle := { state := .cooling, record := some { record with guardPart := g }, cooling := ms }
    burner := { exhaust := v } }

theorem hyps_CoolingGuardAndPauseEndByTheirTimes :
    (∀ g, Out (fun s => (s.drum 0).cycle.state = .cooling ∧ (s.drum 0).cycle.record = some { record with guardPart := g } ∧
      1 * 60000 = (s.drum 0).cycle.cooling ∧ (s.drum 0).cycle.minCoolPassed = false ∧
      (s.drum 0).burner.exhaust = some ⟨80, 0⟩ ∧ (80 : Int) ≤ record.coolTarget)) ∧
      (∀ g, Out (fun s => (s.drum 0).cycle.record = some { record with guardPart := g } ∧ 60000 = (s.drum 0).cycle.cooling ∧
        (s.drum 0).burner.exhaust = none)) ∧
      (∀ g, Out (fun s => (s.drum 0).cycle.state = .cooling ∧ (s.drum 0).cycle.record = some { record with guardPart := g } ∧
        10 * 60000 = (s.drum 0).cycle.cooling)) ∧
      (∀ t, Out (fun s => (s.drum 0).cycle.state = .guarding ∧ (s.drum 0).cycle.record = some record ∧
        record.guardPart = some ⟨300, 20, 60⟩ ∧ (s.drum 0).cycle.guardInterval = some 0 ∧
        (s.drum 0).cycle.guardElapsed = some 3600000 ∧ 60 * 60000 = 3600000 ∧ (s.drum 0).tumble.state = t)) ∧
      Out (fun s => (s.drum 0).cycle.state = .paused ∧ (s.drum 0).cycle.fanOverrun = some 0 ∧
        (s.drum 0).cycle.pauseLimit = some 0) ∧
      Out (fun s => (s.drum 0).cycle.state ≠ .guarding ∧ (s.drum 0).cycle.state ≠ .paused) :=
  ⟨fun g => out (with0 (cooled 60000 g (some ⟨80, 0⟩))) rfl ⟨rfl, rfl, rfl, rfl, rfl, by decide⟩,
    fun g => out (with0 (cooled 60000 g none)) rfl ⟨rfl, rfl, rfl⟩, fun g => out (with0 (cooled 600000 g none)) rfl ⟨rfl, rfl, rfl⟩,
    fun t => out (with0
      { cycle := { state := .guarding, record := some record, guardInterval := some 0, guardElapsed := some 3600000 }
        tumble := { state := t } }) rfl ⟨rfl, rfl, rfl, rfl, rfl, rfl, rfl⟩,
    out (with0 { cycle := { state := .paused, fanOverrun := some 0, pauseLimit := some 0 } }) rfl (by decide),
    out State.reset rfl (by decide)⟩

theorem hyps_Guard_limit_in_a_recover_delay :
    Out (fun s => (s.drum 0).cycle.state = .guarding ∧ (s.drum 0).cycle.record = some record ∧
      (s.drum 0).cycle.guardElapsed = some 3600000 ∧ (s.drum 0).tumble.recoverDelay ≠ none ∧
      (s.drum 0).tumble.state = .recover) :=
  out (with0
    { cycle := { state := .guarding, record := some record, guardElapsed := some 3600000 }
      tumble := { state := .recover, recoverDelay := some 9 } }) rfl ⟨rfl, rfl, rfl, nofun, rfl⟩

/-! ### The tumble controller and the tangle monitor -/

/-- A drum in a forward run. -/
def inRun (t : Tumble) (count early : Nat := 0) : DrumState :=
  { drumIn .drying with tumble := { t with state := .runFwd, runTiming := true }, tangle := { count := count, earlyRuns := early } }

theorem hyps_RunsEndByLengthOrEarly_length :
    Out (fun s => (s.drum 0).tumble.state.running = true ∧ (s.drum 0).tumble.statusWait = some 0 ∧ (s.drum 0).port.state = .up) ∧
      Out (fun s => (s.drum 0).tumble.values.timebase = .seconds ∧ (s.drum 0).tumble.state.running = true ∧
        (s.drum 0).tumble.noReversal = false ∧ (s.drum 0).tumble.guardLength = none ∧ (s.drum 0).tumble.runTiming = true ∧
        (s.drum 0).tumble.runLength * 1000 = (s.drum 0).tumble.runTimer) ∧
      Out (fun s => (s.drum 0).tumble.values.timebase = .revolutions ∧ (s.drum 0).tumble.state.running = true ∧
        (s.drum 0).tumble.noReversal = false ∧ (s.drum 0).tumble.guardLength = none ∧ (s.drum 0).tumble.runTiming = true ∧
        (s.drum 0).tumble.values.maxRun * 1000 = (s.drum 0).tumble.runTimer) ∧
      Out (fun s => (s.drum 0).tumble.guardLength = some 20 ∧ (s.drum 0).tumble.state.running = true ∧
        (s.drum 0).tumble.runTiming = true ∧ 20 * 1000 = (s.drum 0).tumble.runTimer) ∧
      Out (fun s => (s.drum 0).tumble.state.running = false) :=
  ⟨out (with0 (inRun { statusWait := some 0 })) rfl (by decide), out (with0 (inRun { runTimer := 120000 })) rfl (by decide),
    out (with0 (inRun { runTimer := 300000, values := { timebase := .revolutions } })) rfl (by decide),
    out (with0 (inRun { runTimer := 20000, guardLength := some 20 })) rfl (by decide), out State.reset rfl (by decide)⟩

theorem hyps_RunsEndByLengthOrEarly_early :
    Out (fun s => (s.drum 0).tumble.reverses = true ∧ (s.drum 0).tumble.runTiming = true ∧
      (s.drum 0).tumble.values.minRun * 1000 ≤ (s.drum 0).tumble.runTimer ∧ (s.drum 0).tumble.timeUp = true) ∧
      Out (fun s => (s.drum 0).tumble.reverses = true ∧ (s.drum 0).tumble.values.minRun * 1000 = (s.drum 0).tumble.runTimer ∧
        (s.drum 0).tumble.timeUp = false ∧ (s.drum 0).tangle.count < (s.drum 0).tumble.values.trigger) ∧
      Out (fun s => (s.drum 0).tumble.reverses = true ∧ (s.drum 0).tumble.values.minRun * 1000 = (s.drum 0).tumble.runTimer ∧
        (s.drum 0).tumble.timeUp = false ∧ (s.drum 0).tumble.values.trigger = (s.drum 0).tangle.count ∧
        (s.drum 0).tangle.earlyRuns + 1 < (s.drum 0).tumble.values.persistCount) ∧
      Out (fun s => (s.drum 0).tumble.reverses = true ∧ (s.drum 0).tumble.values.minRun * 1000 = (s.drum 0).tumble.runTimer ∧
        (s.drum 0).tumble.timeUp = false ∧ (s.drum 0).tumble.values.trigger = (s.drum 0).tangle.count ∧
        (s.drum 0).tumble.values.persistCount = (s.drum 0).tangle.earlyRuns + 1) :=
  ⟨out (with0 (inRun { runTimer := 120000 })) rfl (by decide), out (with0 (inRun { runTimer := 30000 } 2)) rfl (by decide),
    out (with0 (inRun { runTimer := 30000 } 3 0)) rfl (by decide), out (with0 (inRun { runTimer := 30000 } 3 2)) rfl (by decide)⟩

theorem hyps_RunsBeginAfterDwellAndRecovery :
    (∀ p ∈ [some 0, some 255], ∀ g ∈ [(none : Option Nat), some 20], ∀ b ∈ [false, true], Out (fun s =>
      (s.drum 0).tumble.state = .dwell ∧ (s.drum 0).tumble.dwell = some 0 ∧ (s.drum 0).tumble.inForce = p ∧
      (s.drum 0).tumble.guardLength = g ∧ (s.drum 0).tumble.first255 = b ∧
      (s.drum 0).cycle.record = some record ∧ record.dryness.isSome = true)) ∧
      Out (fun s => (s.drum 0).tumble.state = .recover ∧ (s.drum 0).tumble.target = some .run ∧
        (s.drum 0).tumble.recoverDelay = some 0) ∧
      (∀ c ∈ [CycleState.done, .halted], Out (fun s => (s.drum 0).tumble.state = .decel ∧ (s.drum 0).tumble.decel = some 0 ∧
        (s.drum 0).port.state = .up ∧ (s.drum 0).cycle.state = c)) ∧
      Out (fun s => (s.drum 0).port.state ≠ .up ∧ (s.drum 0).tumble.state ≠ .dwell) :=
  ⟨fun p _ g _ b _ => out (with0
      { cycle := { record := some record }
        tumble := { state := .dwell, dwell := some 0, inForce := p, guardLength := g, first255 := b } })
      rfl ⟨rfl, rfl, rfl, rfl, rfl, rfl, rfl⟩,
    out (with0 { tumble := { state := .recover, target := some .run, recoverDelay := some 0 } }) rfl (by decide),
    fun c _ => out (with0 { port := { state := .up }, cycle := { state := c }, tumble := { state := .decel, decel := some 0 } })
      rfl ⟨rfl, rfl, rfl, rfl⟩,
    out State.reset rfl (by decide)⟩

theorem profiles_reset : ∀ n : Fin 8, 2 ≤ State.reset.profiles[n].dwell ∧ 2 ≤ State.reset.profiles[n].recoverDelay := by
  decide

/-- A part whose DRIVE entries follow: one drum out of a run, with STOP in its entry. -/
theorem drivesFollow_with0 (D : DrumState) (hg : D.config.gateMode = .auto)
    (hc : D.cycle.state ∉ [CycleState.vacant, .ready, .done, .halted]) (hr : D.tumble.state.running = false)
    (hd : D.port.image.drive = .stop) (hv : D.tumble.recoverDelay ≠ none → D.tumble.state = .recover)
    (hw : 2 ≤ D.tumble.values.dwell ∧ 2 ≤ D.tumble.values.recoverDelay ∧ 1 ≤ D.tumble.multiplier) :
    DrivesFollow (with0 D) := by
  refine ⟨fun d => ?_, profiles_reset⟩
  by_cases h : d = 0
  · subst h
    refine ⟨fun h => ?_, fun h => absurd h hc, fun _ => ⟨fun h => ?_, fun h => ?_, fun _ => hd⟩, hv, hw⟩
    · exact absurd (h.symm.trans hg) nofun
    · exact absurd hr (by rw [show D.tumble.state = .runFwd from h]; decide)
    · exact absurd hr (by rw [show D.tumble.state = .runRev from h]; decide)
  · have h3 : (with0 D).drum d = {} := by
      have h4 : State.reset.drum d = {} := by revert d; decide
      exact (drum_onDrum_ne State.reset (fun _ => D) h).trans h4
    unfold DriveFollows
    rw [h3]
    exact ⟨nofun, fun _ => .inl rfl, fun _ => ⟨nofun, nofun, fun _ => rfl⟩, fun h => absurd rfl h, by decide⟩

/-- RUN is written at the end of a dwell, at the end of a recover delay, and at a confirming status 2 s old; dwell and recover
delay begin at a confirming status. -/
theorem hyps_RunsBeginAfterDwellAndRecovery_stop :
    (∃ s t : State, DrivesFollow s ∧ exec (.dwellExpiry 0) s = .next t ∧ (t.drum 0).port.image.drive = .run .fwd 40 ∧
      (s.drum 0).port.image.drive = .stop) ∧
      (∃ s t : State, DrivesFollow s ∧ exec (.recoverDelayExpiry 0) s = .next t ∧
        (t.drum 0).port.image.drive = .run .fwd 40 ∧ (s.drum 0).port.image.drive = .stop) ∧
      (∀ x ∈ [Target.run, .dwell], ∃ s t : State, DrivesFollow s ∧ exec (.driveStatAbsorbed 0) s = .next t ∧
        (s.drum 0).port.image.drive = .stop ∧ (s.drum 0).tumble.state = .decel ∧
        (x = .run → (t.drum 0).port.image.drive = .run .fwd 40) ∧ (x = .dwell → (t.drum 0).tumble.state = .dwell)) ∧
      ∃ s t : State, DrivesFollow s ∧ exec (.driveStatAbsorbed 0) s = .next t ∧ (s.drum 0).tumble.recoverDelay = none ∧
        (t.drum 0).tumble.recoverDelay = some 5000 := by
  have hs : ∀ (c : Clock) (f : Flight) (D : DrumState), DrivesFollow (with0 D) →
      DrivesFollow { with0 D with clock := c, flight := f } := fun _ _ _ h => h
  refine ⟨⟨with0 { drumIn .drying with tumble := { state := .dwell, dwell := some 0 } }, _,
      drivesFollow_with0 _ rfl (by decide) rfl rfl (by decide) (by decide), rfl, by decide, by decide⟩,
    ⟨with0 { drumIn .drying with tumble := { state := .recover, target := some .run, recoverDelay := some 0 } }, _,
      drivesFollow_with0 _ rfl (by decide) rfl rfl (by decide) (by decide), rfl, by decide, by decide⟩,
    fun x hx => ⟨{ with0 { drumIn .drying with tumble := { state := .decel, target := some x } } with
        clock := 2001, flight := { absorbs := [(0, .driveStat ⟨.stopped, 0, 1⟩)] } }, _,
      hs _ _ _ (drivesFollow_with0 _ rfl (by decide +revert) rfl rfl (by simp) (by decide +revert)), rfl, by simp [drumIn, with0, State.drum], rfl, ?_⟩,
    ⟨{ with0 { drumIn .drying with tumble := { state := .recover, target := some .run } } with
        clock := 2001, flight := { absorbs := [(0, .driveStat ⟨.stopped, 0, 1⟩)] } }, _,
      hs _ _ _ (drivesFollow_with0 _ rfl (by decide) rfl rfl (by decide) (by decide)), rfl, by decide, by decide⟩⟩
  have h : x = .run ∨ x = .dwell := by simpa using hx
  rcases h with rfl | rfl <;> decide

/-- A drive status that arrived at clock 1. -/
def status (m : MotorState) (n : BitVec 16 := 0) : DriveStatus := ⟨m, n, 1⟩

theorem hyps_DriveStatusActsByTumbleState_current :
    Out (fun s => s.flight.nextAbsorbed 0 .tumble = some (0, .motorCurrent 300 5) ∧ (s.drum 0).tumble.state.running = true ∧
      (s.drum 0).tangle.windowOpen = true) ∧
      Out (fun s => s.flight.nextAbsorbed 0 .tumble = some (0, .motorCurrent 300 5) ∧ (s.drum 0).tangle.windowOpen = false) :=
  ⟨out (handed { drumIn .drying .runFwd with tangle := { windowOpen := true } } (.motorCurrent 300 5)) rfl (by decide),
    out (handed {} (.motorCurrent 300 5)) rfl (by decide)⟩

theorem hyps_DriveStatusActsByTumbleState_stop :
    Out (fun s => s.flight.nextAbsorbed 0 .tumble = some (0, .driveStat (status .running)) ∧ (s.drum 0).tumble.state = .stopped) ∧
      Out (fun s => s.flight.nextAbsorbed 0 .tumble = some (0, .driveStat (status .tripped)) ∧
        (s.drum 0).tumble.state ≠ .stopped ∧ (s.drum 0).cycle.state = .drying) ∧
      (∀ x ∈ [Target.dwell, .stopped, .run], Out (fun s =>
        s.flight.nextAbsorbed 0 .tumble = some (0, .driveStat (status .stopped)) ∧ (s.drum 0).tumble.state = .decel ∧
        laterThan (status .stopped).arrival (s.drum 0).port.image.stopTime = true ∧ (s.drum 0).tumble.target = some x)) ∧
      (∀ x ∈ [Target.stopped, .run], Out (fun s =>
        s.flight.nextAbsorbed 0 .tumble = some (0, .driveStat (status .stopped)) ∧ (s.drum 0).tumble.state = .recover ∧
        (s.drum 0).tumble.recoverDelay = none ∧ (s.drum 0).tumble.target = some x)) ∧
      2000 ≤ elapsed 2001 (status .stopped).arrival ∧ elapsed 2000 (status .stopped).arrival < 2000 :=
  ⟨out (handed {} (.driveStat (status .running))) rfl (by decide),
    out (handed (drumIn .drying .runRev) (.driveStat (status .tripped))) rfl (by decide),
    fun x _ => out (handed { tumble := { state := .decel, target := some x } } (.driveStat (status .stopped))) rfl
      ⟨rfl, rfl, (by decide : laterThan 1 0 = true), rfl⟩,
    fun x _ => out (handed { tumble := { state := .recover, target := some x } } (.driveStat (status .stopped))) rfl
      ⟨rfl, rfl, rfl, rfl⟩,
    by decide, by decide⟩

theorem hyps_DriveStatusActsByTumbleState_run :
    (∀ n ∈ [1, 2], Out (fun s => s.flight.nextAbsorbed 0 .tumble = some (0, .driveStat (status .stalled)) ∧
      (s.drum 0).tumble.state.running = true ∧ (s.drum 0).tumble.stalls = n ∧ (s.drum 0).tumble.values.retryLimit = 2 ∧
      (s.drum 0).cycle.state = .drying)) ∧
      Out (fun s => s.flight.nextAbsorbed 0 .tumble = some (0, .driveStat (status .running 10)) ∧
        (s.drum 0).tumble.state.running = true ∧ (s.drum 0).tumble.baseTaken = false) ∧
      Out (fun s => (s.drum 0).tumble.baseTaken = true ∧ 10 - (s.drum 0).tumble.revBase = (s.drum 0).tumble.revCount) ∧
      Out (fun s => (s.drum 0).tumble.baseTaken = true ∧ (s.drum 0).tumble.values.timebase = .revolutions ∧
        (s.drum 0).tumble.guardLength = none ∧ (10 : BitVec 16) - (s.drum 0).tumble.revBase ≠ (s.drum 0).tumble.revCount ∧
        (s.drum 0).tumble.runLength = ((10 : BitVec 16) - (s.drum 0).tumble.revBase).toNat) ∧
      (∀ w ∈ [false, true], ∀ n ∈ [1, 2], Out (fun s => (s.drum 0).tumble.baseTaken = true ∧
        (s.drum 0).tumble.values.timebase = .seconds ∧ (s.drum 0).tumble.guardLength = none ∧
        (10 : BitVec 16) - (s.drum 0).tumble.revBase ≠ (s.drum 0).tumble.revCount ∧ (s.drum 0).tangle.windowOpen = w ∧
        (s.drum 0).tangle.samples = n)) :=
  ⟨fun n _ => out (handed { drumIn .drying with tumble := { state := .runFwd, stalls := n } } (.driveStat (status .stalled))) rfl
      ⟨rfl, rfl, rfl, rfl, rfl⟩,
    out (handed (drumIn .drying .runFwd) (.driveStat (status .running 10))) rfl (by decide),
    out (with0 (inRun { baseTaken := true, revBase := 10 })) rfl (by decide),
    out (with0 (inRun { baseTaken := true, revBase := 0, values := { timebase := .revolutions, fwdRun := 10 } })) rfl (by decide),
    fun w _ n _ => out (with0 { inRun { baseTaken := true } with tangle := { windowOpen := w, samples := n } }) rfl
      ⟨rfl, rfl, rfl, (by decide : (10 : BitVec 16) - 0 ≠ 0), rfl, rfl⟩⟩

/-- A guard tumble that comes to rest from DECEL and from RECOVER, one that stalls, and one that moves its count. -/
theorem hyps_DriveStatus_in_a_guard_tumble :
    (∀ x ∈ [TumbleState.decel, .recover], Out (fun s =>
      s.flight.nextAbsorbed 0 .tumble = some (0, .driveStat (status .stopped)) ∧ (s.drum 0).tumble.state = x ∧
      (s.drum 0).tumble.recoverDelay = none ∧ (s.drum 0).tumble.target = some .stopped ∧
      laterThan (status .stopped).arrival (s.drum 0).port.image.stopTime = true ∧ (s.drum 0).tumble.guardLength ≠ none ∧
      (s.drum 0).cycle.state = .guarding ∧ (s.drum 0).cycle.record = some record ∧
      record.guardPart = some ⟨300, 20, 60⟩)) ∧
      (∀ st ∈ [status .stalled, status .running 10], Out (fun s =>
        s.flight.nextAbsorbed 0 .tumble = some (0, .driveStat st) ∧
        (s.drum 0).tumble.state.running = true ∧ (s.drum 0).tumble.guardLength ≠ none ∧ (s.drum 0).tumble.baseTaken = true ∧
        (s.drum 0).tangle.windowOpen = false ∧ (10 : BitVec 16) - (s.drum 0).tumble.revBase ≠ (s.drum 0).tumble.revCount)) :=
  ⟨fun x _ => out (handed
      { drumIn .guarding with tumble := { state := x, target := some .stopped, guardLength := some 20 } }
      (.driveStat (status .stopped))) rfl
      ⟨rfl, rfl, rfl, rfl, (by decide : laterThan 1 0 = true), nofun, rfl, rfl, rfl⟩,
    fun st _ => out (handed
      { drumIn .guarding with tumble := { state := .runFwd, baseTaken := true, guardLength := some 20 } } (.driveStat st)) rfl
      ⟨rfl, rfl, nofun, rfl, rfl, (by decide : (10 : BitVec 16) - 0 ≠ 0)⟩⟩

/-- A judged revolution at the bounds of the early-reversal test: count at and below the trigger, run timer at and below the
minimum run, under both timebases and under profile 255. -/
theorem hyps_DriveStatus_early_test :
    (∀ nr ∈ [false, true], ∀ b ∈ [Timebase.seconds, .revolutions], ∀ p ∈ [(29999, 2), (30000, 1), (30000, 2)], Out (fun s =>
      (s.drum 0).tumble.state.running = true ∧ (s.drum 0).tumble.baseTaken = true ∧
        (s.drum 0).tumble.guardLength = none ∧ (s.drum 0).tumble.noReversal = nr ∧
        (s.drum 0).tumble.values.timebase = b ∧ (s.drum 0).tumble.runTiming = true ∧
        ((10 : BitVec 16) - (s.drum 0).tumble.revBase).toNat < (s.drum 0).tumble.runLength ∧
        (10 : BitVec 16) - (s.drum 0).tumble.revBase ≠ (s.drum 0).tumble.revCount ∧
        (s.drum 0).tangle.windowOpen = true ∧ 2 ≤ (s.drum 0).tangle.samples ∧ (s.drum 0).tumble.runTimer = p.1 ∧
        (s.drum 0).tumble.values.minRun * 1000 = 30000 ∧
        (s.drum 0).tangle.judgedCount (s.drum 0).tumble.values.swingThreshold = p.2 + 1 ∧
        (s.drum 0).tumble.values.trigger = 3)) :=
  fun nr _ b _ p _ => out (with0
    { inRun { baseTaken := true, noReversal := nr, runTimer := p.1, values := { timebase := b, swingThreshold := 9 } } p.2 with
      tangle := { windowOpen := true, greatest := 9, samples := 2, count := p.2 } }) rfl
    ⟨rfl, rfl, rfl, rfl, rfl, rfl, (by decide : ((10 : BitVec 16) - 0).toNat < 120), (by decide : (10 : BitVec 16) - 0 ≠ 0), rfl, Nat.le_refl 2, rfl, rfl,
      by
        simp only [List.mem_cons, List.not_mem_nil, or_false] at *
        rename_i hp
        rcases hp with rfl | rfl | rfl <;> rfl,
      rfl⟩

/-! ### The burner supervisor and the allocator -/

/-- A drum in DRYING and in a run whose burner stands in a view state. -/
def burning (b : Burner) : DrumState := { drumIn .drying .runFwd with burner := { b with rest := true } }

theorem hyps_BurnerTimersRetryOrLockOut :
    (∀ n ∈ [1, 2], Out (fun s => (s.drum 0).burner.view = .lighting ∧ (s.drum 0).burner.trial = some 0 ∧
      (s.drum 0).port.state = .up ∧ (s.drum 0).burner.retries = n ∧ (s.drum 0).config.retryLimit = 2 ∧
      (s.drum 0).burner.lockout = none ∧ (s.drum 0).cycle.state = .drying)) ∧
      Out (fun s => (s.drum 0).burner.view = .retryWait ∧ (s.drum 0).burner.retryDelay = some 0 ∧
        min (s.drum 0).demandNow (s.heatLimit 0) = 0) ∧
      Out (fun s => (s.drum 0).burner.view = .retryWait ∧ (s.drum 0).burner.retryDelay = some 0 ∧
        0 < min (s.drum 0).demandNow (s.heatLimit 0)) ∧
      Out (fun s => (s.drum 0).burner.view = .burning ∧ (s.drum 0).burner.stable = some 0 ∧ (s.drum 0).port.state = .up) ∧
      Out (fun s => (s.drum 0).cycle.state = .drying ∧ (s.drum 0).burner.starvation = some 0) ∧
      Out (fun s => (s.drum 0).burner.view ≠ .lighting ∧ (s.drum 0).burner.view ≠ .burning ∧ (s.drum 0).cycle.state ≠ .drying) :=
  ⟨fun n _ => out (with0 (burning { view := .lighting, trial := some 0, retries := n })) rfl ⟨rfl, rfl, rfl, rfl, rfl, rfl, rfl⟩,
    out (with0 (burning { view := .retryWait, retryDelay := some 0, wanted := 2 })) rfl (by decide),
    out { with0 (burning { view := .retryWait, retryDelay := some 0, wanted := 2 }) with heat := heated } rfl (by decide),
    out (with0 (burning { view := .burning, stable := some 0 })) rfl (by decide),
    out (with0 (burning { starvation := some 0 })) rfl (by decide), out State.reset rfl (by decide)⟩

theorem hyps_TemperaturesRegulateHeat_inlet :
    Out (fun s => s.flight.nextAbsorbed 0 .burner = some (0, .inletTemp ⟨140, 0⟩) ∧ (s.drum 0).cycle.state ≠ .drying) ∧
      (∀ h ∈ [false, true], ∀ w ∈ [0, 1], ∀ v ∈ [(140 : Int), 139, 137, 136, 120], Out (fun s =>
        s.flight.nextAbsorbed 0 .burner = some (0, .inletTemp ⟨v, 0⟩) ∧ (s.drum 0).cycle.state = .drying ∧
        (s.drum 0).cycle.record = some record ∧ (s.drum 0).burner.exhaustHigh = h ∧ (s.drum 0).burner.wanted = w)) ∧
      record.setpoint ≤ 140 ∧ 120 ≤ record.setpoint - record.highBand ∧ 136 ≤ record.setpoint - record.hysteresis ∧
      record.setpoint - record.hysteresis < 137 ∧ 139 < record.setpoint :=
  ⟨out (handed {} (.inletTemp ⟨140, 0⟩)) rfl (by decide),
    fun h _ w _ v _ => out (handed (burning { exhaustHigh := h, wanted := w }) (.inletTemp ⟨v, 0⟩)) rfl
      ⟨by unfold Flight.nextAbsorbed; rfl, rfl, rfl, rfl, rfl⟩,
    by decide⟩

theorem hyps_TemperaturesRegulateHeat_exhaust :
    (∀ h ∈ [false, true], Out (fun s => s.flight.nextAbsorbed 0 .burner = some (0, .exhaustTemp ⟨221, 0⟩) ∧
      (s.drum 0).config.exhaustCap < 221 ∧ (s.drum 0).burner.exhaustHigh = h)) ∧
      Out (fun s => s.flight.nextAbsorbed 0 .burner = some (0, .exhaustTemp ⟨220, 0⟩) ∧ 220 ≤ (s.drum 0).config.exhaustCap ∧
        (s.drum 0).cycle.state ≠ .cooling) ∧
      (∀ g, Out (fun s => s.flight.nextAbsorbed 0 .burner = some (0, .exhaustTemp ⟨80, 0⟩) ∧ (s.drum 0).cycle.state = .cooling ∧
        (s.drum 0).cycle.record = some { record with guardPart := g } ∧ (80 : Int) ≤ record.coolTarget ∧
        record.minCool * 60000 = (s.drum 0).cycle.cooling)) ∧
      Out (fun s => s.flight.nextAbsorbed 0 .burner = some (0, .exhaustTemp ⟨81, 0⟩) ∧ (s.drum 0).cycle.state = .cooling ∧
        record.coolTarget < 81) ∧
      Out (fun s => s.flight.nextAbsorbed 0 .burner = none) :=
  ⟨fun h _ => out (handed { burner := { exhaustHigh := h } } (.exhaustTemp ⟨221, 0⟩)) rfl ⟨rfl, (by decide : (220 : Int) < 221), rfl⟩,
    out (handed {} (.exhaustTemp ⟨220, 0⟩)) rfl (by decide),
    fun g => out (handed (cooled 60000 g none) (.exhaustTemp ⟨80, 0⟩)) rfl ⟨rfl, rfl, rfl, by decide, rfl⟩,
    out (handed (cooled 60000 none none) (.exhaustTemp ⟨81, 0⟩)) rfl (by decide), out State.reset rfl (by decide)⟩

theorem hyps_FlameStatusActsByView :
    (∀ v ∈ [View.idle, .retryWait, .lockedOut], Out (fun s =>
      s.flight.nextAbsorbed 0 .burner = some (0, .flameStat ⟨.trial, 0, 0⟩) ∧ (s.drum 0).burner.view = v)) ∧
      Out (fun s => s.flight.nextAbsorbed 0 .burner = some (0, .flameStat ⟨.proven, 1, 0⟩) ∧
        (s.drum 0).burner.view = .lighting ∧ 0 < min (s.drum 0).demandNow (s.heatLimit 0)) ∧
      (∀ n ∈ [1, 2], Out (fun s => s.flight.nextAbsorbed 0 .burner = some (0, .flameStat ⟨.failed, 0, 0⟩) ∧
        (s.drum 0).burner.view = .lighting ∧ (s.drum 0).burner.retries = n ∧ (s.drum 0).config.retryLimit = 2 ∧
        (s.drum 0).burner.lockout = none)) ∧
      (∀ n ∈ [1, 2], Out (fun s => s.flight.nextAbsorbed 0 .burner = some (0, .flameStat ⟨.off, 0, 0⟩) ∧
        (s.drum 0).burner.view = .burning ∧ 0 < (s.drum 0).burner.commanded ∧ (s.drum 0).burner.retries = n ∧
        (s.drum 0).burner.lockout = none)) :=
  ⟨fun v _ => out (handed { burner := { view := v } } (.flameStat ⟨.trial, 0, 0⟩)) rfl ⟨rfl, rfl⟩,
    out { handed (burning { view := .lighting, wanted := 1 }) (.flameStat ⟨.proven, 1, 0⟩) with heat := heated } rfl (by decide),
    fun n _ => out (handed (burning { view := .lighting, retries := n }) (.flameStat ⟨.failed, 0, 0⟩)) rfl ⟨rfl, rfl, rfl, rfl, rfl⟩,
    fun n _ => out (handed (burning { view := .burning, commanded := 1, retries := n }) (.flameStat ⟨.off, 0, 0⟩)) rfl
      ⟨rfl, rfl, Nat.zero_lt_one, rfl, rfl⟩⟩

/-- A state in which drum 0's demand waits at the allocator. -/
def demanding (w : Nat) (D : DrumState) (h : Heat) : State :=
  { with0 D with flight := { demands := [(0, w)] }, heat := h }

/-- Drum 2's entry, 1 s old at clock 1000 under a wait limit of 1 s. -/
def queued (reported : Bool) : State :=
  { State.reset with clock := 1000, heat := { heated with waitLimit := 1, queue := [⟨2, 1, 40, 0, 0, reported⟩] } }

theorem hyps_DemandsAreGrantedQueuedOrLowered :
    Out (fun s => ∀ p ∈ s.flight.demands, p.1 ≠ 0) ∧
      Out (fun s => s.flight.demands = [] ++ (0, 2) :: [] ∧ (s.drum 0).burner.lockout ≠ none) ∧
      (∀ w ∈ [0, 1], Out (fun s => s.flight.demands = [] ++ (0, w) :: [] ∧ (s.drum 0).burner.lockout = none ∧
        (s.share 0).granted = 1)) ∧
      Out (fun s => s.flight.demands = [] ++ (0, 2) :: [] ∧ (s.drum 0).burner.lockout = none ∧ (s.share 0).granted < 2 ∧
        (s.share 0).costs = some ⟨40, 100⟩) ∧
      Out (fun s => s.flight.demands = [] ++ (0, 2) :: [] ∧ (s.share 0).granted < 2 ∧ (s.share 0).costs = none ∧
        ∀ e ∈ s.heat.queue, e.drum ≠ 0) ∧
      Out (fun s => s.flight.demands = [] ++ (0, 2) :: [] ∧ (s.share 0).granted < 2 ∧ ∃ e ∈ s.heat.queue, e.drum = 0) ∧
      Out (fun s => s.flight.demands = [] ++ (0, 1) :: [] ∧ 1 < (s.share 0).granted) ∧
      Out (fun s => ∀ e ∈ s.heat.queue, e.drum ≠ 2) ∧
      (∀ b ∈ [false, true], Out (fun s => ∃ e, s.heat.queue = [] ++ e :: [] ∧ e.drum = 2 ∧ HeatQueueSound s ∧
        e.waited s.heat.waitLimit s.clock = !b)) :=
  ⟨out State.reset rfl (by decide), out (demanding 2 { burner := { lockout := some .ignition } } {}) rfl (by decide),
    fun w _ => out (demanding w {} heated) rfl ⟨rfl, rfl, rfl⟩, out (demanding 2 {} heated) rfl (by decide),
    out (demanding 2 {} {}) rfl (by decide),
    out (demanding 2 {} { heated with queue := [⟨0, 2, 60, 0, 0, false⟩] }) rfl (by decide),
    out (demanding 1 {} { heated with shares := heated.shares.set 0 ⟨2, 2, some ⟨40, 100⟩⟩ }) rfl (by decide),
    out State.reset rfl (by decide),
    fun b _ => out (queued b) rfl ⟨⟨2, 1, 40, 0, 0, b⟩, rfl, rfl, by unfold HeatQueueSound; cases b <;> decide, by cases b <;> decide⟩⟩

/-! ### The dryness monitor -/

/-- A drum drying in a run with n values of 10 in its window. -/
def drying (n confirm minutes : Nat) (reached : Bool := false) (extra : Option Nat := some 10) : DrumState :=
  { drumIn .drying .runFwd with
    cycle :=
      { state := .drying, drying := 60000,
        record := some { record with dryness := some ⟨160, 2, 2, minutes, none, extra⟩ } }
    dryness := { window := List.replicate n 10, confirm := confirm, dryReached := reached } }

theorem hyps_WetCountsAndTimersDecideDryness_counts :
    Out (fun s => s.flight.nextAbsorbed 0 .dryness = some (0, .wetCount 10 5) ∧ (s.drum 0).tumble.state.running = false) ∧
      Out (fun s => s.flight.nextAbsorbed 0 .dryness = some (0, .wetCount 10 5) ∧ (s.drum 0).tumble.state.running = true ∧
        0 < (s.drum 0).dryness.settle) ∧
      Out (fun s => (s.drum 0).tumble.state.running = true ∧ (s.drum 0).dryness.settle = 0 ∧
        (s.drum 0).cycle.dryingElectrode = false) ∧
      (∀ c ∈ [0, 1], ∀ m ∈ [1, 2], ∀ b ∈ [false, true], ∀ x ∈ [none, some 10], Out (fun s =>
        s.flight.nextAbsorbed 0 .dryness = some (0, .wetCount 10 5) ∧ (s.drum 0).tumble.state.running = true ∧
        (s.drum 0).dryness.settle = 0 ∧ (s.drum 0).cycle.state = .drying ∧
        (s.drum 0).cycle.record = some { record with dryness := some ⟨160, 2, 2, m, none, x⟩ } ∧
        (s.drum 0).dryness.window = List.replicate 15 10 ∧ (s.drum 0).dryness.confirm = c ∧ (s.drum 0).dryness.dryReached = b ∧
        (s.drum 0).cycle.drying = 60000)) ∧
      (List.replicate 15 10 ++ [10]).length = 16 ∧ (List.replicate 15 10 ++ [10]).sum = 160 ∧
      160 < (List.replicate 15 10 ++ [11]).sum ∧ 60000 < 2 * 60000 :=
  ⟨out (handed {} (.wetCount 10 5)) rfl (by decide),
    out (handed { drumIn .drying .runFwd with dryness := { settle := 1 } } (.wetCount 10 5)) rfl (by decide),
    out (handed (drumIn .cooling .runFwd) (.wetCount 10 5)) rfl (by decide),
    fun c _ m _ b _ x _ => out (handed (drying 15 c m b x) (.wetCount 10 5)) rfl ⟨rfl, rfl, rfl, rfl, rfl, rfl, rfl, rfl, rfl⟩,
    by decide⟩

theorem hyps_WetCountsAndTimersDecideDryness_timers :
    Out (fun s => (s.drum 0).cycle.state = .drying ∧ (s.drum 0).dryness.extraDry = some 0) ∧
      Out (fun s => (s.drum 0).cycle.dryingElectrode = true ∧ (s.drum 0).tumble.state.running = true ∧
        (s.drum 0).dryness.starvation = some 0) ∧
      Out (fun s => (s.drum 0).cycle.state ≠ .drying ∧ (s.drum 0).tumble.state.running = false) :=
  ⟨out (with0 { drumIn .drying with dryness := { extraDry := some 0 } }) rfl (by decide),
    out (with0 { drumIn .drying .runRev with dryness := { starvation := some 0 } }) rfl (by decide),
    out State.reset rfl (by decide)⟩

/-! ### Frames and invariants -/

theorem hyps_DrumCommandsTouchOneDrum :
    ∃ t : State, exec (.mainLaneLock 0) (with0 (portIn .seek)) = .next t ∧ (t.drum 0).port.state = .up :=
  ⟨_, rfl, by decide⟩

theorem hyps_SettingsChangeOnlyByTheirRequest :
    (Instr.dwellExpiry 0 ∉ resetCommands ∧ Instr.dwellExpiry 0 ≠ .replyTransmitEnd) ∧
      ∃ t : State, exec (.dwellExpiry 0) (with0 { tumble := { state := .dwell, dwell := some 0 } }) = .next t :=
  ⟨by decide, _, rfl⟩

/-- Each invariant holds in a state that is not the reset state, from which a step is taken. -/
theorem hyps_invariants :
    (FlameSafe { with0 (burning { view := .burning }) with heat := heated, flight := { demands := [(0, 0), (1, 1)] } } ∧ HeatSound { State.reset with heat := heated }) ∧
      (QueuesBounded (alertAsking [alert 4 .sent] [4, 0, 3]) ∧ AlertsDistinct (alertAsking [alert 4 .sent] [4, 0, 3]) ∧
        WindowsBounded (with0 (drying 16 0 1))) ∧
      TableSound { State.reset with classifier := { entries := [entry 1 .driveStatus] } } ∧
      (ActiveCyclesHaveLinks (with0 (drumIn .drying)) ∧ StandbyTimersFollow (with0 (drumIn .drying))) :=
  ⟨⟨by unfold FlameSafe FlameOk; decide, hyps_HeatSound.1⟩,
    ⟨by unfold QueuesBounded; decide, by unfold AlertsDistinct; decide, by unfold WindowsBounded; decide⟩, hyps_TableSound,
    by unfold ActiveCyclesHaveLinks; decide, by unfold StandbyTimersFollow; decide⟩

/-- A drum at rest whose standby timer runs. -/
def resting : DrumState :=
  { port := { state := .up, serviceLock := true, standby := some 5, readings := ⟨false, false, false, false⟩ } }

/-- Steps at which a standby timer is loaded, reloaded at a change of a discrete, and runs. -/
theorem hyps_standby_steps :
    (∃ t : State, step { with0 (portIn .seek) with pending := [.mainLaneLock 0] } = .next t ∧
      ((with0 (portIn .seek)).drum 0).standbyRuns = false ∧ (t.drum 0).standbyRuns = true) ∧
      (∃ t : State, step { with0 resting with pending := [.serviceLaneLockLost 0] } = .next t ∧
        StandbyTimersFollow (with0 resting) ∧ ActiveCyclesHaveLinks (with0 resting) ∧ (t.drum 0).standbyRuns = true ∧
        (t.drum 0).port.readings ≠ ((with0 resting).drum 0).port.readings) ∧
      ∃ t : State, step (with0 resting) = .next t ∧ (t.drum 0).port.standby = some 4 :=
  ⟨⟨_, rfl, by decide, by decide⟩,
    ⟨_, rfl, by unfold StandbyTimersFollow; decide, by unfold ActiveCyclesHaveLinks; decide, by decide, by decide⟩,
    _, rfl, by decide⟩

/-! ### Single steps -/

/-- The state after a command. -/
def after (c : Instr) (s : State) : State :=
  match exec c s with
  | .next t => t
  | _ => s

/-- A CYCLE_UNLOAD arrives as a whole frame, is served, and its reply is sent with its flags clear. -/
theorem test_request_to_reply :
    ((after (.cabinetFrameReceived (cabinetFrame 1 [7, 10, 0])) { State.reset with cabinet := { linkUp := true } }).cabinet.inbox =
      [⟨7, 10, [0]⟩]) ∧
      (after .cycleUnload (asking (drumIn .ready) 10 [0])).cabinet.replies = [⟨7, 10, .ok, []⟩] ∧
      (after .transmitChoice { State.reset with cabinet := { linkUp := true, replies := [⟨7, 10, .ok, []⟩] } }).cabinet.outgoing =
        some (.reply false false false false (cabinetFrame 2 [7, 10, 0, 0])) := by
  decide

/-- CYCLE_START with AIRFLOW proven: PURGE toward DRYING with the air timer, FAN ON, DECEL with target RUN. -/
theorem test_cycle_start :
    let t := after .cycleStart (asking (drumIn .ready) 11 [0])
    (t.drum 0).cycle.state = .purge ∧ (t.drum 0).cycle.purgeTarget = some .drying ∧ (t.drum 0).cycle.air = some 20000 ∧
      (t.drum 0).port.image.fan = true ∧ (t.drum 0).tumble.state = .decel ∧ (t.drum 0).tumble.target = some .run ∧
      (t.drum 0).tumble.decel = some 10000 := by
  decide

/-- A drum in DRYING and in a run that wants and has demanded stage 2. -/
def waiting : DrumState :=
  { drumIn .drying .runFwd with burner := { wanted := 2, demand := 2, rest := true } }

/-- 13.1 at 0 s: drum 0's demand of 0 frees 100 units, and the attempt grants drum 1, whose burner enters LIGHTING. -/
theorem test_two_drums_trade_heat :
    let s : State :=
      { State.reset with
        drums := State.reset.drums.set 1 waiting
        heat :=
          { budget := 120, shares := #v[⟨2, 2, some ⟨40, 100⟩⟩, ⟨0, 2, some ⟨40, 100⟩⟩, {}, {}], grants := [0],
            queue := [⟨1, 2, 100, 0, 0, false⟩] }
        flight := { demands := [(0, 0)] } }
    let t := after (.heatDemand 0) s
    (t.share 0).granted = 0 ∧ (t.share 1).granted = 2 ∧ t.heat.free = 20 ∧ t.heat.queue = [] ∧ t.heat.grants = [1] ∧
      (t.drum 1).burner.view = .lighting ∧ (t.drum 1).port.image.flameStage = 2 := by
  decide

/-- R185: the HEAT_LOCKOUT waits until the ATTR_CROSSED that caused it has been taken. -/
theorem test_lockout_follows_its_crossing :
    let s : State := { State.reset with flight := { events := [crossing, lockout] } }
    after (.eventTaken (.burner 0)) s = s ∧ (after (.eventTaken .attributes) s).flight.events = [lockout] ∧
      (after (.eventTaken (.burner 0)) (after (.eventTaken .attributes) s)).flight.events = [] := by
  decide

/-- R122, R144: at granted stage 2 a demand of 2 raised behind an untaken demand of 1 lifts the FLAME stage only when the
allocator has taken both. -/
theorem test_raised_demand_waits_behind_a_lowered_one :
    let D := burning { view := .burning, wanted := 1, demand := 1, commanded := 1 }
    let s : State :=
      { handed { D with port := { D.port with image := { D.port.image with flameStage := 1 } } } (.inletTemp ⟨120, 0⟩) with
        heat := { budget := 120, shares := #v[⟨2, 2, some ⟨40, 100⟩⟩, {}, {}, {}], grants := [0] }
        flight := { absorbs := [(0, .inletTemp ⟨120, 0⟩)], demands := [(0, 1)] } }
    let t := after (.inletTempAbsorbed 0) s
    let u := after (.heatDemand 0) t
    let v := after (.heatDemand 0) u
    (t.drum 0).port.image.flameStage = 1 ∧ t.flight.demands = [(0, 1), (0, 2)] ∧
      (u.share 0).granted = 1 ∧ (u.drum 0).port.image.flameStage = 1 ∧
      (v.share 0).granted = 2 ∧ (v.drum 0).port.image.flameStage = 2 := by
  decide

/-- 13.2 at 33.0 s: the third swing above the threshold ends the run early. -/
theorem test_tangle_reversal :
    let D : DrumState :=
      { drumIn .drying .runFwd with
        tumble := { state := .runFwd, runTiming := true, runTimer := 33000, baseTaken := true, revCount := 1 }
        tangle := { windowOpen := true, greatest := 5000, least := 500, samples := 2, count := 2 } }
    let t := after (.driveStatAbsorbed 0) (handed D (.driveStat ⟨.running, 2, 0⟩))
    (t.drum 0).tumble.state = .decel ∧ (t.drum 0).tumble.target = some .dwell ∧ (t.drum 0).tangle.count = 3 ∧
      (t.drum 0).tangle.earlyRuns = 1 ∧ t.flight.events = [⟨.tumble 0, .tangleReversal, 0, 0, some 3⟩] := by
  decide

/-- R77: at the confirming status a guard tumble is reported done; FAN OFF is written and the guard interval starts again. -/
theorem test_guard_tumble_done :
    let D : DrumState :=
      { drumIn .guarding with tumble := { state := .decel, target := some .stopped, guardLength := some 20 } }
    let t := after (.driveStatAbsorbed 0) (handed D (.driveStat (status .stopped)))
    (t.drum 0).tumble.state = .stopped ∧ (t.drum 0).tumble.guardLength = none ∧ (t.drum 0).port.image.fan = false ∧
      (t.drum 0).cycle.guardInterval = some 300000 := by
  decide

/-- 13.3 at 0 s and at 100.5 s: a loss of lock in DRYING starts the grace interval; its expiry pauses with cause LINK. -/
theorem test_link_loss_and_grace :
    let t := after (.mainLaneLockLost 0) (with0 (drumIn .drying .runFwd))
    let u := after (.graceExpiry 0) (with0 { drumIn .drying .runFwd with port := { state := .seek, grace := some 0 } })
    (t.drum 0).port.state = .seek ∧ (t.drum 0).port.grace = some 500 ∧ (t.drum 0).cycle.state = .drying ∧
      (u.drum 0).cycle.state = .paused ∧ (u.drum 0).cycle.causes = [.link] ∧ (u.drum 0).tumble.state = .decel ∧
      u.flight.events = [⟨.cycle 0, .cyclePaused, 0, 0, some 3⟩] := by
  decide

/-- 13.4 at 1 300 030: an acknowledgement of 1 while the count-2 record is in flight leaves the entry with count 1. -/
theorem test_alert_acknowledged_by_count :
    let s : State :=
      { asking {} 20 [15, 0, 1] with
        router := { State.reset.router with alerts := [⟨15, 0, .warning, false, 2, 0, 0, none, .sending, 1⟩] } }
    let t := after .alertAck s
    t.router.alerts = [⟨15, 0, .warning, false, 1, 0, 0, none, .resend, 1⟩] ∧
      t.cabinet.replies = [⟨7, 20, .ok, [1]⟩] := by
  decide

/-- 2.4.1: the values handed on for an INLET_TEMP of -8 at gain 640 and offset 20, and a WET_COUNT of 300 at gain 200, each
with the frame's arrival time. -/
theorem test_measurements_handed_on :
    measurement ⟨1, 0, .exact 0, .inletTemp, .absorb, 0, 640, 20, 0⟩ ⟨0, true, 9, [3, 1, 0, 2, 0xFF, 0xF8]⟩ =
        some (.inletTemp ⟨0, 9⟩) ∧
      measurement ⟨1, 0, .exact 0, .wetCount, .absorb, 0, 200, 0, 0⟩ ⟨0, true, 9, [3, 1, 0, 2, 1, 44]⟩ =
        some (.wetCount 234 9) ∧
      measurement ⟨1, 0, .exact 0, .motorCurrent, .absorb, 1, 128, -600, 0⟩ ⟨0, true, 0, [3, 1, 0, 2, 3, 232]⟩ = none := by
  decide

/-- R95: a cycle started under profile 255 begins its first run FWD, also where the drum's last run was FWD; a later run
under that profile goes on by turns. -/
theorem test_first_run_under_profile_255 :
    let D : DrumState :=
      { stood .ready .stopped 255 with tumble := { state := .stopped, status := some ⟨.stopped, 0, 1⟩, lastDir := some .fwd } }
    let t := after .cycleStart { asking D 11 [0] with clock := 2001 }
    let u := after .cycleStart { asking { D with cycle := { state := .ready, record := some record } } 11 [0] with clock := 2001 }
    (t.drum 0).tumble.state = .runFwd ∧ (t.drum 0).tumble.noReversal = true ∧ (t.drum 0).tumble.first255 = false ∧
      (u.drum 0).tumble.state = .runRev := by
  decide

/-- R125, R126: with 20 units free the entry of 10 passes the head of 60, whose bypass count rises; at the bypass limit nothing
is granted. -/
theorem test_grant_passes_the_head :
    (∃ t, grantRound (contended 2 0) = some t ∧ (t.share 3).granted = 1 ∧ t.heat.grants = [0, 1, 3] ∧
      t.heat.queue = [⟨2, 1, 60, 1, 0, false⟩]) ∧ grantRound (contended 2 2) = none :=
  ⟨⟨_, rfl, by decide⟩, rfl⟩

/-- R130, R131: a revocation step lowers the tail of the grant list, reports its new stage and queues its demand. -/
theorem test_revocation_step :
    let t := revokeStep 1 { State.reset with heat := heated }
    (t.share 1).granted = 0 ∧ t.heat.grants = [0] ∧ t.heat.queue = [⟨1, 1, 40, 0, 0, false⟩] ∧
      t.flight.events = [⟨.allocator, .heatRevoked, 1, 0, some 0⟩] := by
  decide

/-- Table 12-11: with an empty window the dryness part of a DRUM report gives sum, length and newest as 0. -/
theorem test_dryness_report_of_an_empty_window : (drynessReport {}).take 4 = [0, 0, 0, 0] := by decide

/-- The clock runs and a timer counts down on an empty queue, and both stand still while RESETn is held. -/
theorem test_tick :
    let D : DrumState := { port := { state := .up, grace := some 1, refresh := some 0 } }
    step (with0 D) = .next (tick (with0 D)) ∧ ((tick (with0 D)).drum 0).port.grace = some 0 ∧
      ((tick (with0 D)).drum 0).port.refresh = some 0 ∧ (tick (with0 D)).clock = 1 ∧
      tick { with0 D with resetHeld := true } = { with0 D with resetHeld := true } :=
  ⟨rfl, by decide, by decide, by decide, by decide⟩


end Sys2Proof.Tests
end

section
/-! What the operations on a drum leave of its configuration, cycle state and port: the part of a drum that the rules of the
drum link read. -/

namespace Sys2Proof.Machine

/-! ### The part of a drum that its link rules read -/

/-- The configuration, the cycle state and the port without its command image: what the standby timer, the grace interval, the
discretes and the line test of a drum stand in. The burner supervisor, tumble controller and dryness monitor write none of
it. -/
def State.links (s : State) (d : Drum) : DrumConfig × CycleState × Port :=
  ((s.drum d).config, (s.drum d).cycle.state, { (s.drum d).port with image := {} })

theorem config_of_links {s t : State} {d : Drum} (h : t.links d = s.links d) : (t.drum d).config = (s.drum d).config :=
  congrArg Prod.fst h

theorem cycleState_of_links {s t : State} {d : Drum} (h : t.links d = s.links d) :
    (t.drum d).cycle.state = (s.drum d).cycle.state :=
  congrArg (fun x => x.2.1) h

section
variable {s t : State} {d : Drum} (h : t.links d = s.links d)
include h

theorem portState_of_links : (t.drum d).port.state = (s.drum d).port.state := congrArg (fun x => x.2.2.state) h

theorem grace_of_links : (t.drum d).port.grace = (s.drum d).port.grace := congrArg (fun x => x.2.2.grace) h

theorem readings_of_links : (t.drum d).port.readings = (s.drum d).port.readings := congrArg (fun x => x.2.2.readings) h

theorem standby_of_links : (t.drum d).port.standby = (s.drum d).port.standby := congrArg (fun x => x.2.2.standby) h

end

/-- The ports agree but for their images. -/
theorem port_of_links {s t : State} {d : Drum} (h : t.links d = s.links d) :
    (t.drum d).port = { (s.drum d).port with image := (t.drum d).port.image } := by
  have hp : { (t.drum d).port with image := {} } = { (s.drum d).port with image := {} } := congrArg (fun x => x.2.2) h
  exact congrArg (fun p : Port => { p with image := (t.drum d).port.image }) hp

@[simp] theorem links_onImage (d : Drum) (f : Image → Image) (s : State) : (s.onImage d f).links d = s.links d := by
  simp [State.links]

@[simp] theorem links_onTumble (d : Drum) (f : Tumble → Tumble) (s : State) :
    (s.onTumble d f).links d = s.links d := by
  simp [State.links]

@[simp] theorem links_onTangle (d : Drum) (f : Tangle → Tangle) (s : State) :
    (s.onTangle d f).links d = s.links d := by
  simp [State.links]

@[simp] theorem links_onBurner (d : Drum) (f : Burner → Burner) (s : State) :
    (s.onBurner d f).links d = s.links d := by
  simp [State.links]

@[simp] theorem links_onDryness (d : Drum) (f : Dryness → Dryness) (s : State) :
    (s.onDryness d f).links d = s.links d := by
  simp [State.links]

theorem links_onCycle {d : Drum} {f : Cycle → Cycle} {s : State} (h : (f (s.drum d).cycle).state = (s.drum d).cycle.state) :
    (s.onCycle d f).links d = s.links d := by
  simp [State.links, h]

@[simp] theorem links_raise (src : Block) (k : EventKind) (d e : Drum) (x : Option Byte) (s : State) :
    (raise src k e x s).links d = s.links d := rfl

@[simp] theorem links_handIncrement (src : Block) (d e : Drum) (a : Fin 8) (s : State) :
    (handIncrement src e a s).links d = s.links d := rfl

@[simp] theorem links_handDemand (d e : Drum) (w : Nat) (s : State) :
    (handDemand e w s).links d = s.links d := rfl

@[simp] theorem links_writeDrive (d : Drum) (v : DriveCmd) (s : State) :
    (writeDrive d v s).links d = s.links d := by
  unfold writeDrive; dsimp only; split <;> simp

@[simp] theorem links_writeFan (d : Drum) (on : Bool) (s : State) :
    (writeFan d on s).links d = s.links d := by
  unfold writeFan; dsimp only; split <;> simp

@[simp] theorem links_writeFlame (d : Drum) (n : Nat) (s : State) :
    (writeFlame d n s).links d = s.links d := by
  unfold writeFlame; dsimp only; split <;> simp

@[simp] theorem links_writeResetLockout (d : Drum) (s : State) :
    (writeResetLockout d s).links d = s.links d := by
  simp [writeResetLockout]

@[simp] theorem links_burnerUpdate (d e : Drum) (s : State) : (burnerUpdate e s).links d = s.links d := by
  by_cases h : d = e
  · subst h
    obtain ⟨m, hm⟩ := drum_burnerUpdate d s
    unfold State.links; rw [hm]
  · unfold State.links; rw [drum_burnerUpdate_ne h]

/-! ### The burner supervisor's operations -/

@[simp] theorem links_setWanted (d : Drum) (w : Nat) (s : State) : (setWanted d w s).links d = s.links d := by
  simp [setWanted]

@[simp] theorem links_setRest (d : Drum) (v : Bool) (s : State) : (setRest d v s).links d = s.links d := by
  simp [setRest]

@[simp] theorem links_burnerNotice (d : Drum) (s : State) : (burnerNotice d s).links d = s.links d := by
  simp [burnerNotice]

@[simp] theorem links_takeInlet (d : Drum) (t : Temperature) (s : State) :
    (takeInlet d t s).links d = s.links d := by
  unfold takeInlet; dsimp only; split <;> simp

@[simp] theorem links_judgeExhaust (d : Drum) (t : Temperature) (s : State) :
    (judgeExhaust d t s).links d = s.links d := by
  unfold judgeExhaust; dsimp only; (repeat' split) <;> simp

@[simp] theorem links_enterBurning (d : Drum) (s : State) : (enterBurning d s).links d = s.links d := by
  simp [enterBurning]

@[simp] theorem links_retryDelayEnds (d : Drum) (s : State) : (retryDelayEnds d s).links d = s.links d := by
  simp [retryDelayEnds]

@[simp] theorem links_burnerReset (d : Drum) (s : State) : (burnerReset d s).links d = s.links d := by
  simp [burnerReset]

@[simp] theorem links_clearLockout (d : Drum) (s : State) : (clearLockout d s).links d = s.links d := by
  simp [clearLockout]

@[simp] theorem links_setLockout (d : Drum) (p : LockoutPath) (s : State) :
    (setLockout d p s).links d = s.links d := by
  simp [setLockout]

/-! ### The tumble controller's operations -/

@[simp] theorem links_leaveRun (d : Drum) (f : Tumble → Tumble) (s : State) :
    (leaveRun d f s).links d = s.links d := by
  simp [leaveRun]

@[simp] theorem links_guardTumbleDone (d : Drum) (s : State) : (guardTumbleDone d s).links d = s.links d := by
  unfold guardTumbleDone; split <;> simp [links_onCycle]

@[simp] theorem links_enterStopped (d : Drum) (s : State) : (enterStopped d s).links d = s.links d := by
  unfold enterStopped; dsimp only; split <;> simp

@[simp] theorem links_enterDecel (d : Drum) (target : Target) (s : State) :
    (enterDecel d target s).links d = s.links d := by
  simp [enterDecel]

@[simp] theorem links_beginRun (d : Drum) (s : State) : (beginRun d s).links d = s.links d := by
  simp [beginRun]

@[simp] theorem links_startDwell (d : Drum) (s : State) : (startDwell d s).links d = s.links d := by
  unfold startDwell; (repeat' split) <;> simp

@[simp] theorem links_startFromStopped (d : Drum) (s : State) :
    (startFromStopped d s).links d = s.links d := by
  unfold startFromStopped; split <;> simp

@[simp] theorem links_setTarget (d : Drum) (target : Target) (s : State) :
    (setTarget d target s).links d = s.links d := by
  simp [setTarget]

@[simp] theorem links_firstStart (d : Drum) (n : Nat) (s : State) : (firstStart d n s).links d = s.links d := by
  simp [firstStart]

@[simp] theorem links_tumbleStart (d : Drum) (n : Nat) (s : State) :
    (tumbleStart d n s).links d = s.links d := by
  unfold tumbleStart; dsimp only; split <;> simp

@[simp] theorem links_tumbleHold (d : Drum) (s : State) : (tumbleHold d s).links d = s.links d := by
  unfold tumbleHold; dsimp only; (repeat' split) <;> simp

@[simp] theorem links_clearPersistence (d : Drum) (s : State) :
    (clearPersistence d s).links d = s.links d := by
  simp [clearPersistence]

@[simp] theorem links_tumbleStop (d : Drum) (s : State) : (tumbleStop d s).links d = s.links d := by
  simp [tumbleStop]

@[simp] theorem links_tumbleGuard (d : Drum) (n : Nat) (s : State) :
    (tumbleGuard d n s).links d = s.links d := by
  unfold tumbleGuard; split <;> simp

@[simp] theorem links_endNormalRun (d : Drum) (s : State) : (endNormalRun d s).links d = s.links d := by
  simp [endNormalRun]

@[simp] theorem links_applyPersistence (d : Drum) (s : State) :
    (applyPersistence d s).links d = s.links d := by
  unfold applyPersistence; dsimp only; split <;> simp

@[simp] theorem links_endEarlyRun (d : Drum) (s : State) : (endEarlyRun d s).links d = s.links d := by
  simp [endEarlyRun]

@[simp] theorem links_reachTarget (d : Drum) (s : State) : (reachTarget d s).links d = s.links d := by
  unfold reachTarget; split <;> simp

@[simp] theorem links_recoverConfirmed (d : Drum) (s : State) :
    (recoverConfirmed d s).links d = s.links d := by
  unfold recoverConfirmed; dsimp only; (repeat' split) <;> simp

@[simp] theorem links_tumbleNotice (d : Drum) (s : State) : (tumbleNotice d s).links d = s.links d := by
  unfold tumbleNotice; dsimp only; split <;> simp

@[simp] theorem links_linkLostNotice (d : Drum) (s : State) : (linkLostNotice d s).links d = s.links d := by
  simp [linkLostNotice]

@[simp] theorem links_tumbleReset (d : Drum) (s : State) : (tumbleReset d s).links d = s.links d := by
  simp [tumbleReset]

@[simp] theorem links_takeCurrent (d : Drum) (v : Nat) (s : State) : (takeCurrent d v s).links d = s.links d := by
  unfold takeCurrent; dsimp only; split <;> simp

@[simp] theorem links_statusInRun (d : Drum) (st : DriveStatus) (s : State) :
    (statusInRun d st s).links d = s.links d := by
  unfold statusInRun; dsimp only; (repeat' split) <;> simp

@[simp] theorem links_minimumRunReached (d : Drum) (s : State) :
    (minimumRunReached d s).links d = s.links d := by
  unfold minimumRunReached; (repeat' split) <;> simp

/-! ### The cycle controller's operations that keep the cycle state -/

@[simp] theorem links_joinCause (d : Drum) (c : PauseCause) (s : State) :
    (joinCause d c s).links d = s.links d :=
  links_onCycle (by split <;> rfl)

@[simp] theorem links_setReason (d : Drum) (r : Reason) (s : State) : (setReason d r s).links d = s.links d :=
  links_onCycle rfl

@[simp] theorem links_cycleAirflowProven (d : Drum) (s : State) :
    (cycleAirflowProven d s).links d = s.links d := by
  unfold cycleAirflowProven; dsimp only; split <;> first | rfl | exact links_onCycle rfl

@[simp] theorem links_guardIntervalEnds (d : Drum) (s : State) :
    (guardIntervalEnds d s).links d = s.links d := by
  unfold guardIntervalEnds; split
  · rw [links_tumbleGuard, links_writeFan]; exact links_onCycle rfl
  · rfl

/-! ### The allocator's operations, at every drum -/

@[simp] theorem links_onHeat (d : Drum) (f : Heat → Heat) (s : State) : (s.onHeat f).links d = s.links d := rfl

@[simp] theorem links_onShare (d e : Drum) (f : HeatShare → HeatShare) (s : State) :
    (s.onShare e f).links d = s.links d := rfl

@[simp] theorem links_setGranted (d e : Drum) (g : Nat) (s : State) : (setGranted e g s).links d = s.links d := by
  simp [setGranted]

@[simp] theorem links_dropCopy (d e : Drum) (s : State) : (dropCopy e s).links d = s.links d := by
  unfold dropCopy; split <;> simp

@[simp] theorem links_lowerGrant (d e : Drum) (g : Nat) (s : State) : (lowerGrant e g s).links d = s.links d := by
  unfold lowerGrant; split <;> simp

@[simp] theorem links_grantEntry (d : Drum) (e : HeatEntry) (s : State) :
    (grantEntry e s).links d = s.links d := by
  simp [grantEntry]

theorem links_of_grantRounds {s t : State} (h : GrantRounds s t) (d : Drum) : t.links d = s.links d := by
  induction h with
  | stop _ => rfl
  | round h _ ih =>
    rw [ih]
    unfold grantRound at h
    (repeat' split at h) <;> simp_all <;> subst h <;> simp

@[simp] theorem links_grantAttempt (d : Drum) (s : State) : (grantAttempt s).links d = s.links d :=
  links_of_grantRounds (grantAttempt_spec s) d

@[simp] theorem links_raisedDemand (d e : Drum) (w : Nat) (s : State) :
    (raisedDemand e w s).links d = s.links d := by
  unfold raisedDemand; split <;> rfl

@[simp] theorem links_loweredDemand (d e : Drum) (w : Nat) (s : State) :
    (loweredDemand e w s).links d = s.links d := by
  unfold loweredDemand; dsimp only; split <;> simp

@[simp] theorem links_takeDemand (d e : Drum) (w : Nat) (s : State) : (takeDemand e w s).links d = s.links d := by
  unfold takeDemand; dsimp only; (repeat' split) <;> simp

@[simp] theorem links_releaseDrum (d e : Drum) (s : State) : (releaseDrum e s).links d = s.links d := by
  unfold releaseDrum; dsimp only; split <;> simp

@[simp] theorem links_requeue (d e : Drum) (s : State) : (requeue e s).links d = s.links d := by
  unfold requeue; dsimp only; split <;> simp

@[simp] theorem links_revokeTo (d : Drum) (b n : Nat) (s : State) : (revokeTo b n s).links d = s.links d := by
  induction n generalizing s with
  | zero => rfl
  | succ n ih => unfold revokeTo; (repeat' split) <;> simp [ih, revokeStep]

@[simp] theorem links_setBudget (d : Drum) (b : Nat) (s : State) : (setBudget b s).links d = s.links d := by
  simp [setBudget]

@[simp] theorem links_judgeWait (d e : Drum) (s : State) : (judgeWait e s).links d = s.links d := by
  unfold judgeWait; (repeat' split) <;> simp

@[simp] theorem links_setWaitLimit (d : Drum) (limit : Nat) (s : State) :
    (setWaitLimit limit s).links d = s.links d := by
  have fold : ∀ (l : List Drum) (u : State), (l.foldl (fun s e => judgeWait e s) u).links d = u.links d := by
    intro l
    induction l with
    | nil => exact fun _ => rfl
    | cons e l ih => intro u; rw [List.foldl_cons, ih, links_judgeWait]
  unfold setWaitLimit; dsimp only; split
  · rfl
  · exact fold _ _

end Sys2Proof.Machine
end

section
/-! The standby timer and the links of active cycles (R12, R19, R80): what each operation keeps of them. -/

namespace Sys2Proof.Machine

/-! ### What one step keeps of a drum -/

/-- The drum has its link: UP, or SEEK within a grace interval (R80). -/
def DrumState.linked (D : DrumState) : Prop := D.port.state = .up ∨ (D.port.state = .seek ∧ D.port.grace ≠ none)

/-- Since D₀ the standby timer has been stopped, loaded in full or left alone, and a change of a discrete has left it stopped
or loaded in full (R12, R19). -/
structure DrumState.StandbyReady (D₀ D : DrumState) : Prop where
  stands : D.port.standby = none ∨ D.port.standby = some D.fullStandby ∨ D.port.standby = D₀.port.standby
  reloaded : D.port.readings ≠ D₀.port.readings → D.port.standby = none ∨ D.port.standby = some D.fullStandby

/-- An active cycle has its link and the standby timer is loaded exactly while its conditions hold, with what has been done to
it since D₀ (R12, R19, R80). -/
structure DrumState.LinkKept (D₀ D : DrumState) : Prop extends DrumState.StandbyReady D₀ D where
  link : D.cycle.state.active = true → D.linked
  follows : D.port.standby.isSome = D.standbyRuns

theorem linkKept_refl {D : DrumState} (hl : D.cycle.state.active = true → D.linked)
    (hf : D.port.standby.isSome = D.standbyRuns) : D.LinkKept D :=
  ⟨⟨.inr (.inr rfl), fun h => absurd rfl h⟩, hl, hf⟩

section
variable {D₀ : DrumState} {s t : State} {d : Drum}

theorem linked_of_links (h : t.links d = s.links d) : (t.drum d).linked ↔ (s.drum d).linked := by
  unfold DrumState.linked; rw [portState_of_links h, grace_of_links h]

theorem standbyReady_of_links (h : t.links d = s.links d) (hk : D₀.StandbyReady (s.drum d)) :
    D₀.StandbyReady (t.drum d) := by
  obtain ⟨hs, hr⟩ := hk
  have hfull : (t.drum d).fullStandby = (s.drum d).fullStandby := by
    unfold DrumState.fullStandby; rw [config_of_links h]
  constructor <;> rw [hfull, standby_of_links h]
  · exact hs
  · rw [readings_of_links h]; exact hr

/-- LinkKept reads the part of a drum that its link rules read. -/
theorem linkKept_of_links (h : t.links d = s.links d) (hk : D₀.LinkKept (s.drum d)) : D₀.LinkKept (t.drum d) := by
  obtain ⟨hready, hlink, hfollows⟩ := hk
  refine ⟨standbyReady_of_links h hready, ?_, ?_⟩
  · rw [cycleState_of_links h, linked_of_links h]; exact hlink
  · unfold DrumState.standbyRuns
    rw [standby_of_links h, portState_of_links h, cycleState_of_links h, config_of_links h]; exact hfollows

/-- A change of a port that leaves its state, grace interval, readings and standby timer alone. -/
theorem linkKept_onPort {f : Port → Port} (hk : D₀.LinkKept (s.drum d))
    (hs : (f (s.drum d).port).state = (s.drum d).port.state) (hg : (f (s.drum d).port).grace = (s.drum d).port.grace)
    (hr : (f (s.drum d).port).readings = (s.drum d).port.readings)
    (hb : (f (s.drum d).port).standby = (s.drum d).port.standby) : D₀.LinkKept ((s.onPort d f).drum d) := by
  obtain ⟨⟨hstands, hreloaded⟩, hlink, hfollows⟩ := hk
  rw [drum_onPort_self]
  refine ⟨⟨?_, ?_⟩, ?_, ?_⟩ <;>
    simp only [DrumState.fullStandby, DrumState.linked, DrumState.standbyRuns, hs, hg, hr, hb] <;> assumption

theorem linkKept_onCycle {f : Cycle → Cycle} (hk : D₀.LinkKept (s.drum d))
    (h : (f (s.drum d).cycle).state = (s.drum d).cycle.state) : D₀.LinkKept ((s.onCycle d f).drum d) :=
  linkKept_of_links (links_onCycle h) hk

/-! ### The standby timer -/

/-- Judging the conditions loads the timer in full where they begin to hold and stops it where they cease (R19). -/
theorem linkKept_settleStandby (hk : D₀.StandbyReady (s.drum d))
    (hl : (s.drum d).cycle.state.active = true → (s.drum d).linked) : D₀.LinkKept ((settleStandby d s).drum d) := by
  obtain ⟨hstands, hreloaded⟩ := hk
  have hfull : standbyTime (s.drum d).config.standbyCode = (s.drum d).fullStandby := rfl
  unfold settleStandby
  rw [drum_onDrum_self]
  cases hruns : (s.drum d).standbyRuns
  case false => exact ⟨⟨.inl rfl, fun _ => .inl rfl⟩, hl, hruns.symm⟩
  case true =>
    cases hb : (s.drum d).port.standby with
    | none => exact ⟨⟨.inr (.inl rfl), fun _ => .inr rfl⟩, hl, hruns.symm⟩
    | some ms =>
      rw [hb] at hstands hreloaded
      exact ⟨⟨hstands, hreloaded⟩, hl, hruns.symm⟩

/-- A reload needs the link and the timer as they stand, whatever was done to the timer before (R19). -/
theorem linkKept_reloadStandby_of (hlink : (s.drum d).cycle.state.active = true → (s.drum d).linked)
    (hfollows : (s.drum d).port.standby.isSome = (s.drum d).standbyRuns) :
    D₀.LinkKept ((reloadStandby d s).drum d) := by
  unfold reloadStandby
  rw [drum_onDrum_self]
  cases hb : (s.drum d).port.standby with
  | none =>
    rw [hb] at hfollows
    exact ⟨⟨.inl rfl, fun _ => .inl rfl⟩, hlink, hfollows⟩
  | some ms =>
    rw [hb] at hfollows
    exact ⟨⟨.inr (.inl rfl), fun _ => .inr rfl⟩, hlink, hfollows⟩

theorem linkKept_reloadStandby (hk : D₀.LinkKept (s.drum d)) : D₀.LinkKept ((reloadStandby d s).drum d) :=
  linkKept_reloadStandby_of hk.link hk.follows

/-- A change of a discrete reloads a running standby timer (R12, R19). -/
theorem linkKept_reloadStandby_setReading (hk : D₀.LinkKept (s.drum d)) (x : Discrete) (v : Bool) :
    D₀.LinkKept ((reloadStandby d (setReading d x v s)).drum d) := by
  have hl : (setReading d x v s).links d = (s.onPort d fun p => { p with readings := p.readings.set x v }).links d :=
    links_burnerUpdate d d _
  have hc := config_of_links hl
  have hs := cycleState_of_links hl
  have hp := portState_of_links hl
  have hg := grace_of_links hl
  have hb := standby_of_links hl
  simp only [drum_onPort_self] at hc hs hp hg hb
  refine linkKept_reloadStandby_of ?_ ?_
  · simpa only [DrumState.linked, hs, hp, hg] using hk.link
  · simpa only [DrumState.standbyRuns, hc, hs, hp, hb] using hk.follows

/-! ### The cycle controller -/

/-- A change of cycle state to one that is not active, or of a drum that has its link (R19, R80). -/
theorem linkKept_setCycle {new : CycleState} {f : Cycle → Cycle} (hk : D₀.StandbyReady (s.drum d))
    (hl : new.active = true → (s.drum d).linked) : D₀.LinkKept ((setCycle d new f s).drum d) := by
  have hw := links_writeFan d new.fanOnEntry (s.onCycle d fun c => { f c with state := new })
  have hc := config_of_links hw
  have hp := portState_of_links hw
  have hg := grace_of_links hw
  have hr := readings_of_links hw
  have hb := standby_of_links hw
  simp only [drum_onCycle_self] at hc hp hg hr hb
  obtain ⟨hstands, hreloaded⟩ := hk
  unfold setCycle
  refine linkKept_settleStandby (standbyReady_of_links (links_burnerUpdate d d _) ?_) ?_
  · rw [drum_onDrum_self]
    constructor <;> simp only [DrumState.fullStandby, hc, hr, hb] <;> assumption
  · rw [linked_of_links (links_burnerUpdate d d _), cycleState_of_links (links_burnerUpdate d d _), drum_onDrum_self]
    simpa only [DrumState.linked, hp, hg, cycleState_of_links hw, drum_onCycle_self] using hl

theorem linkKept_enterDone (hk : D₀.StandbyReady (s.drum d)) : D₀.LinkKept ((enterDone d s).drum d) := by
  have hs : D₀.LinkKept ((tumbleStop d (setCycle d .done Cycle.cleared s)).drum d) :=
    linkKept_of_links (links_tumbleStop d _) (linkKept_setCycle hk nofun)
  unfold enterDone
  dsimp only
  split <;> exact linkKept_of_links (by simp) hs

theorem linkKept_enterVacant (hk : D₀.StandbyReady (s.drum d)) : D₀.LinkKept ((enterVacant d s).drum d) :=
  linkKept_setCycle hk nofun

theorem linkKept_cycleHalt {c : HaltCause} (hk : D₀.LinkKept (s.drum d)) : D₀.LinkKept ((cycleHalt d c s).drum d) := by
  unfold cycleHalt
  dsimp only
  split
  · exact linkKept_of_links (links_raise _ _ d d _ _)
      (linkKept_of_links (links_tumbleStop d _) (linkKept_setCycle hk.toStandbyReady nofun))
  · exact hk

theorem linkKept_pauseCycle {c : PauseCause} (hk : D₀.StandbyReady (s.drum d)) :
    D₀.LinkKept ((pauseCycle d c s).drum d) := by
  unfold pauseCycle
  dsimp only
  refine linkKept_of_links (links_raise _ _ d d _ _) ?_
  split
  · exact linkKept_of_links (links_writeFan d _ _)
      (linkKept_of_links (links_tumbleHold d _) (linkKept_setCycle hk nofun))
  · exact linkKept_of_links (links_tumbleHold d _) (linkKept_setCycle hk nofun)

theorem linkKept_pauseOrJoin {c : PauseCause} (hk : D₀.LinkKept (s.drum d)) :
    D₀.LinkKept ((pauseOrJoin d c s).drum d) := by
  unfold pauseOrJoin
  split
  · exact linkKept_pauseCycle hk.toStandbyReady
  · exact linkKept_pauseCycle hk.toStandbyReady
  · exact linkKept_pauseCycle hk.toStandbyReady
  · exact linkKept_of_links (links_joinCause d c s) hk
  all_goals exact hk

/-- A phase that follows an active cycle state: the drum keeps its link. -/
theorem linkKept_setCycle_of_active {new : CycleState} {f : Cycle → Cycle} (hk : D₀.LinkKept (s.drum d))
    (ha : (s.drum d).cycle.state.active = true) : D₀.LinkKept ((setCycle d new f s).drum d) :=
  linkKept_setCycle hk.toStandbyReady fun _ => hk.link ha

theorem linkKept_heatEnd {r : Reason} (hk : D₀.LinkKept (s.drum d)) : D₀.LinkKept ((heatEnd d r s).drum d) := by
  unfold heatEnd
  dsimp only
  cases hs : (s.drum d).cycle.state <;> dsimp only
  case drying => exact linkKept_setCycle_of_active hk (by rw [hs]; rfl)
  case purge => split; exacts [linkKept_onCycle hk rfl, hk]
  case paused => split; exacts [linkKept_onCycle hk rfl, hk]
  all_goals exact hk

theorem linkKept_coolingEnds (hk : D₀.LinkKept (s.drum d)) (ha : (s.drum d).cycle.state.active = true) :
    D₀.LinkKept ((coolingEnds d s).drum d) := by
  unfold coolingEnds
  split
  · exact linkKept_of_links (links_tumbleStop d _) (linkKept_setCycle_of_active hk ha)
  · exact linkKept_enterDone hk.toStandbyReady

theorem linkKept_coolTest (hk : D₀.LinkKept (s.drum d)) : D₀.LinkKept ((coolTest d s).drum d) := by
  unfold coolTest
  split
  next h => exact linkKept_coolingEnds hk (by rw [h.1]; rfl)
  next => exact hk

theorem linkKept_enterTarget (hk : D₀.LinkKept (s.drum d)) (ha : (s.drum d).cycle.state.active = true) :
    D₀.LinkKept ((enterTarget d s).drum d) := by
  unfold enterTarget
  split
  · exact linkKept_setCycle_of_active hk ha
  · exact hk

theorem linkKept_cycleDoorOpened (hk : D₀.LinkKept (s.drum d)) : D₀.LinkKept ((cycleDoorOpened d s).drum d) := by
  unfold cycleDoorOpened
  split
  case h_5 => exact linkKept_enterVacant (linkKept_enterDone hk.toStandbyReady).toStandbyReady
  case h_6 => exact linkKept_enterVacant hk.toStandbyReady
  case h_1 | h_2 | h_3 | h_4 => exact linkKept_pauseOrJoin hk
  all_goals exact hk

theorem linkKept_cycleAirflowLost (hk : D₀.LinkKept (s.drum d)) : D₀.LinkKept ((cycleAirflowLost d s).drum d) := by
  unfold cycleAirflowLost
  dsimp only
  split
  case h_1 | h_2 => exact linkKept_pauseCycle hk.toStandbyReady
  case h_3 => exact linkKept_onCycle hk rfl
  all_goals exact hk

theorem linkKept_cycleOnChange {x : Discrete} {safe : Bool} (hk : D₀.LinkKept (s.drum d)) :
    D₀.LinkKept ((cycleOnChange d x safe s).drum d) := by
  unfold cycleOnChange
  split
  · exact linkKept_cycleDoorOpened hk
  · exact linkKept_cycleAirflowLost hk
  · exact linkKept_of_links (links_cycleAirflowProven d s) hk
  · exact linkKept_heatEnd hk
  all_goals exact hk

theorem linkKept_cycleNodeLost {n : Nat} (hk : D₀.LinkKept (s.drum d)) : D₀.LinkKept ((cycleNodeLost d n s).drum d) := by
  unfold cycleNodeLost
  split
  · split
    case h_5 => exact linkKept_enterDone hk.toStandbyReady
    case h_1 | h_2 | h_3 | h_4 => exact linkKept_pauseOrJoin hk
    all_goals exact hk
  · exact hk

theorem linkKept_routedAction {a : RoutedAction} (hk : D₀.LinkKept (s.drum d)) :
    D₀.LinkKept ((routedAction d a s).drum d) := by
  cases a with
  | none => exact hk
  | pause => exact linkKept_pauseOrJoin hk
  | endHeat => exact linkKept_heatEnd hk
  | halt => unfold routedAction; dsimp only; split; exacts [hk, linkKept_cycleHalt hk]

/-- The end of a grace interval pauses an active cycle or ends its guard, whatever has become of its link (R6, R80). -/
theorem linkKept_cycleGraceExpired (hk : D₀.StandbyReady (s.drum d))
    (hf : (s.drum d).port.standby.isSome = (s.drum d).standbyRuns) :
    D₀.LinkKept ((cycleGraceExpired d s).drum d) := by
  have rest (h : (s.drum d).cycle.state.active = false) : D₀.LinkKept (s.drum d) :=
    ⟨hk, fun ha => absurd ha (by simp [h]), hf⟩
  unfold cycleGraceExpired
  cases hs : (s.drum d).cycle.state <;> dsimp only
  case purge | drying | cooling => exact linkKept_pauseCycle hk
  case guarding => exact linkKept_enterDone hk
  all_goals exact rest (by rw [hs]; rfl)

/-! ### Work taken by the burner supervisor, the tumble controller and the dryness monitor -/

theorem linkKept_takeExhaust {v : Temperature} (hk : D₀.LinkKept (s.drum d)) :
    D₀.LinkKept ((takeExhaust d v s).drum d) :=
  linkKept_coolTest (linkKept_of_links (links_judgeExhaust d v _) (linkKept_of_links (links_onBurner d _ s) hk))

theorem linkKept_stall {st : DriveStatus} (hk : D₀.LinkKept (s.drum d)) : D₀.LinkKept ((stall d st s).drum d) := by
  have h : D₀.LinkKept ((leaveRun d
      (fun t =>
        { t.timersOff with
          state := .recover
          target := some (if t.guardLength.isSome then .stopped else .run)
          decel := seconds t.values.decelTimeout })
      (handIncrement (.tumble d) d 3
        (raise (.tumble d) .driveStall d (some (byte ((s.drum d).tumble.stalls + 1)))
          (writeDrive d .stop
            (s.onTumble d fun t => { t.takeCounter st.counter with stalls := (s.drum d).tumble.stalls + 1 }))))).drum d) :=
    linkKept_of_links (by simp) hk
  unfold stall
  dsimp only
  split
  · exact linkKept_cycleHalt h
  · exact h

theorem linkKept_trip {st : DriveStatus} (hk : D₀.LinkKept (s.drum d)) : D₀.LinkKept ((trip d st s).drum d) := by
  unfold trip
  refine linkKept_cycleHalt ?_
  split <;> first | exact hk | exact linkKept_of_links (by simp) hk

theorem linkKept_takeDriveStat {st : DriveStatus} (hk : D₀.LinkKept (s.drum d)) :
    D₀.LinkKept ((takeDriveStat d st s).drum d) := by
  have h : D₀.LinkKept ((s.onTumble d fun t => { t with status := some st }).drum d) :=
    linkKept_of_links (links_onTumble d _ s) hk
  unfold takeDriveStat
  dsimp only
  split
  · exact linkKept_trip h
  · split
    case h_1 | h_2 => split; exacts [linkKept_stall h, linkKept_of_links (links_statusInRun d st _) h]
    case h_3 => split; exacts [linkKept_of_links (links_reachTarget d _) h, h]
    case h_4 => split; exacts [linkKept_of_links (links_recoverConfirmed d _) h, h]
    all_goals exact h

theorem linkKept_decelTimeout (hk : D₀.LinkKept (s.drum d)) : D₀.LinkKept ((decelTimeout d s).drum d) := by
  unfold decelTimeout
  refine linkKept_cycleHalt ?_
  dsimp only
  split <;> exact linkKept_of_links (by simp) hk

theorem linkKept_startCooling {r : Reason} (hk : D₀.LinkKept (s.drum d)) (ha : (s.drum d).cycle.state.active = true) :
    D₀.LinkKept ((startCooling d r s).drum d) :=
  linkKept_setCycle_of_active hk ha

theorem linkKept_extraDryEnds (hk : D₀.LinkKept (s.drum d)) (ha : (s.drum d).cycle.state.active = true) :
    D₀.LinkKept ((extraDryEnds d s).drum d) :=
  linkKept_startCooling (linkKept_of_links (links_onDryness d _ s) hk) (by simpa using ha)

theorem linkKept_dryReached {p : DrynessPart} (hk : D₀.LinkKept (s.drum d))
    (ha : (s.drum d).cycle.state.active = true) : D₀.LinkKept ((dryReached d p s).drum d) := by
  unfold dryReached
  dsimp only
  split
  · exact linkKept_extraDryEnds (linkKept_of_links (by simp) hk) (by simpa using ha)
  · exact linkKept_of_links (by simp) hk

theorem linkKept_dryTest {p : DrynessPart} (hk : D₀.LinkKept (s.drum d))
    (ha : (s.drum d).cycle.state.active = true) : D₀.LinkKept ((dryTest d p s).drum d) := by
  unfold dryTest
  dsimp only
  split
  · split
    · split
      · exact linkKept_dryReached (linkKept_of_links (by simp) hk) (by simpa using ha)
      · exact linkKept_of_links (by simp) hk
    · exact linkKept_of_links (by simp) hk
  · exact hk

theorem active_of_dryingElectrode {c : Cycle} (h : c.dryingElectrode = true) : c.state.active = true := by
  have : c.state = .drying := by
    simp only [Cycle.dryingElectrode, Bool.and_eq_true, beq_iff_eq] at h; exact h.1
  rw [this]; rfl

theorem linkKept_takeWet {v : Nat} (hk : D₀.LinkKept (s.drum d)) : D₀.LinkKept ((takeWet d v s).drum d) := by
  unfold takeWet
  dsimp only
  split
  · split
    · exact linkKept_of_links (links_onDryness d _ s) hk
    · split
      next he =>
        split
        · exact linkKept_dryTest (linkKept_of_links (by simp) hk) (by simpa using active_of_dryingElectrode he)
        · exact hk
      next => exact hk
  · exact hk

/-! ### The drum port -/

/-- A move of a port judges the standby conditions; it is no move of a drum with an active cycle, but for one that gives the
grace interval. -/
theorem linkKept_setPortState {st : PortState} (hk : D₀.StandbyReady (s.drum d))
    (ha : (s.drum d).cycle.state.active = false) : D₀.LinkKept ((setPortState d st s).drum d) := by
  obtain ⟨hstands, hreloaded⟩ := hk
  refine linkKept_settleStandby ?_ ?_ <;> rw [drum_onPort_self]
  · exact ⟨hstands, hreloaded⟩
  · intro h; rw [ha] at h; exact nomatch h

theorem linkKept_leaveUp {st : PortState} (hk : D₀.StandbyReady (s.drum d))
    (ha : (s.drum d).cycle.state.active = false) : D₀.LinkKept ((leaveUp d st s).drum d) := by
  obtain ⟨hstands, hreloaded⟩ := hk
  exact linkKept_setPortState (by rw [drum_onPort_self]; exact ⟨hstands, hreloaded⟩) (by simpa using ha)

theorem linkKept_movePort {st : PortState} (hk : D₀.StandbyReady (s.drum d))
    (ha : (s.drum d).cycle.state.active = false) : D₀.LinkKept ((movePort d st s).drum d) := by
  obtain ⟨hstands, hreloaded⟩ := hk
  unfold movePort
  dsimp only
  split
  · exact linkKept_of_links (links_linkLostNotice d _) (linkKept_leaveUp ⟨hstands, hreloaded⟩ ha)
  · split
    · refine linkKept_of_links (links_linkLostNotice d _) (linkKept_setPortState ?_ (by simpa using ha))
      rw [drum_onPort_self]; exact ⟨hstands, hreloaded⟩
    · exact linkKept_setPortState ⟨hstands, hreloaded⟩ ha

theorem linkKept_enterUp (hk : D₀.StandbyReady (s.drum d)) : D₀.LinkKept ((enterUp d s).drum d) := by
  obtain ⟨hstands, hreloaded⟩ := hk
  unfold enterUp
  refine linkKept_settleStandby ?_ ?_ <;> simp only [raise, drum_onFlight, drum_onPort_self]
  · exact ⟨hstands, hreloaded⟩
  · exact fun _ => .inl rfl

theorem linkKept_graceExpires (hk : D₀.StandbyReady (s.drum d))
    (hf : (s.drum d).port.standby.isSome = (s.drum d).standbyRuns) : D₀.LinkKept ((graceExpires d s).drum d) := by
  obtain ⟨hstands, hreloaded⟩ := hk
  have hl := links_linkLostNotice d (s.onPort d fun p => { p with grace := none })
  refine linkKept_cycleGraceExpired (standbyReady_of_links hl ?_) ?_
  · rw [drum_onPort_self]; exact ⟨hstands, hreloaded⟩
  · unfold DrumState.standbyRuns
    rw [standby_of_links hl, portState_of_links hl, cycleState_of_links hl, config_of_links hl, drum_onPort_self]
    exact hf

/-- A port that leaves UP for SEEK: its standby timer stops, whatever its cycle (R5, R19). -/
theorem leaveUp_seek_standby (d : Drum) (s : State) :
    ((leaveUp d .seek s).drum d).port.standby = none ∧ ((leaveUp d .seek s).drum d).port.state = .seek ∧
      ((leaveUp d .seek s).drum d).cycle = (s.drum d).cycle := by
  simp [leaveUp, setPortState, settleStandby, DrumState.standbyRuns]

/-- The loss of the main lane: an active cycle has a grace interval, or is paused or ended at once (R5, R80). -/
theorem linkKept_mainLaneLost : D₀.LinkKept ((mainLaneLost d s).drum d) := by
  obtain ⟨hb, hs, hc⟩ := leaveUp_seek_standby d s
  have hready : D₀.StandbyReady ((leaveUp d .seek s).drum d) := ⟨.inl hb, fun _ => .inl hb⟩
  have hfollows : ((leaveUp d .seek s).drum d).port.standby.isSome = ((leaveUp d .seek s).drum d).standbyRuns := by
    simp [hb, DrumState.standbyRuns, hs]
  unfold mainLaneLost
  dsimp only
  split
  · split
    · exact linkKept_graceExpires hready hfollows
    · rw [drum_onPort_self]
      exact ⟨⟨.inl hb, fun _ => .inl hb⟩, fun _ => .inr ⟨hs, nofun⟩, hfollows⟩
  next ha =>
    refine linkKept_of_links (links_linkLostNotice d _) ⟨hready, fun h => absurd ?_ ha, hfollows⟩
    rw [← hc]; exact h

/-- A drum whose port is in none of UP and SEEK has no active cycle (R80). -/
theorem active_of_port (hk : D₀.LinkKept (s.drum d)) (hs : (s.drum d).port.state ≠ .up ∧ (s.drum d).port.state ≠ .seek) :
    (s.drum d).cycle.state.active = false :=
  Bool.eq_false_iff.mpr fun ha => (hk.link ha).elim hs.1 fun h => hs.2 h.1

/-- The accepted change of DOOR wakes a port in SERVICE, where no cycle is active (R20, R80). -/
theorem linkKept_wake {b : Bool} (hk : D₀.LinkKept (s.drum d)) :
    D₀.LinkKept ((if (b && (s.drum d).port.state == .service) = true then setPortState d .seek s else s).drum d) := by
  split
  next hc =>
    simp only [Bool.and_eq_true, beq_iff_eq] at hc
    exact linkKept_setPortState hk.toStandbyReady (active_of_port hk (by rw [hc.2]; exact ⟨nofun, nofun⟩))
  next => exact hk

theorem linkKept_changeReading {x : Discrete} {safe accepted : Bool} (hk : D₀.LinkKept (s.drum d)) :
    D₀.LinkKept ((changeReading d x safe accepted s).drum d) := by
  have hraised : D₀.LinkKept
      ((match changeEvent x safe with | some k => raise (.port d) k d none s | none => s).drum d) := by
    cases changeEvent x safe with
    | none => exact hk
    | some k => exact linkKept_of_links (links_raise (.port d) k d d none s) hk
  have hread := linkKept_reloadStandby_setReading hraised x safe
  unfold changeReading
  dsimp only
  refine linkKept_wake (linkKept_cycleOnChange ?_)
  split
  · exact linkKept_of_links (links_handIncrement (.burner d) d d 2 _) hread
  · exact hread

theorem linkKept_forceSafe {x : Discrete} (hk : D₀.LinkKept (s.drum d)) : D₀.LinkKept ((forceSafe d x s).drum d) := by
  unfold forceSafe
  split
  · exact hk
  · exact linkKept_changeReading hk

theorem linkKept_presenceChange {old new : BitVec 16} (n : Nat) (hk : D₀.LinkKept (s.drum d)) :
    D₀.LinkKept ((presenceChange d old new s n).drum d) := by
  unfold presenceChange
  (repeat' split) <;> first | exact hk | exact linkKept_cycleNodeLost hk

theorem linkKept_setPresence {report : BitVec 16} (hk : D₀.LinkKept (s.drum d)) :
    D₀.LinkKept ((setPresence d report s).drum d) := by
  have h0 : D₀.LinkKept ((s.onPort d fun p => { p with presence := report &&& 0x7FFE#16 }).drum d) :=
    linkKept_onPort hk rfl rfl rfl rfl
  exact List.foldlRecOn (motive := fun u : State => D₀.LinkKept (u.drum d)) nodeAddresses _ h0
    fun _ hu n _ => linkKept_presenceChange n hu

theorem linkKept_serviceLaneDown (hk : D₀.LinkKept (s.drum d)) : D₀.LinkKept ((serviceLaneDown d s).drum d) :=
  linkKept_setPresence <| linkKept_forceSafe <| linkKept_forceSafe <| linkKept_forceSafe <| linkKept_forceSafe <|
    linkKept_onPort hk rfl rfl rfl rfl

theorem linkKept_startTest {dir : TestDirection} {mode : FlagMode} (hk : D₀.LinkKept (s.drum d))
    (ha : (s.drum d).cycle.state.active = false) : D₀.LinkKept ((startTest d dir mode s).drum d) :=
  linkKept_onPort (linkKept_movePort hk.toStandbyReady ha) rfl rfl rfl rfl

theorem linkKept_leaveTest {o : TestOutcome} (hk : D₀.LinkKept (s.drum d)) (hs : (s.drum d).port.state = .test) :
    D₀.LinkKept ((leaveTest d o s).drum d) :=
  linkKept_onPort (linkKept_setPortState hk.toStandbyReady (active_of_port hk (by rw [hs]; exact ⟨nofun, nofun⟩)))
    rfl rfl rfl rfl

theorem linkKept_closeInterval {n : Nat} (hk : D₀.LinkKept (s.drum d)) : D₀.LinkKept ((closeInterval d n s).drum d) := by
  have h : D₀.LinkKept ((s.onPort d fun p => { p with lineTest := p.lineTest.close n }).drum d) :=
    linkKept_onPort hk rfl rfl rfl rfl
  unfold closeInterval
  dsimp only
  split <;> exact h

theorem linkKept_beginSend (hk : D₀.LinkKept (s.drum d)) : D₀.LinkKept ((beginSend d s).drum d) := by
  unfold beginSend
  dsimp only
  split
  · exact linkKept_of_links (links_onImage d _ s) hk
  · exact linkKept_onPort hk rfl rfl rfl rfl

end

end Sys2Proof.Machine
end

section
/-! Every step keeps the links of active cycles and the standby timers (O60): the operations that reach more than one drum, the
requests, and the commands. -/

namespace Sys2Proof.Machine

/-- Every drum's active cycle has its link and its standby timer follows, with what has been done to it since s₀. -/
def LinksKept (s₀ s : State) : Prop := ∀ d, (s₀.drum d).LinkKept (s.drum d)

section
variable {s₀ s t : State} {d : Drum}

theorem linksKept_of_links (h : ∀ d, t.links d = s.links d) (hk : LinksKept s₀ s) : LinksKept s₀ t :=
  fun d => linkKept_of_links (h d) (hk d)

theorem linksKept_of_drums (h : t.drums = s.drums) (hk : LinksKept s₀ s) : LinksKept s₀ t :=
  linksKept_of_links (fun d => by unfold State.links State.drum; rw [h]) hk

/-- An operation on one drum. -/
theorem linksKept_of_besides (hb : t.besides d = s.besides d) (hk : LinksKept s₀ s)
    (hd : (s₀.drum d).LinkKept (t.drum d)) : LinksKept s₀ t := by
  intro e
  by_cases he : e = d
  · rw [he]; exact hd
  · rw [drum_of_besides hb he]; exact hk e

/-- A recomputation or another operation on one drum that its link rules do not read. -/
theorem linksKept_of_besides_links (hb : t.besides d = s.besides d) (hl : t.links d = s.links d) (hk : LinksKept s₀ s) :
    LinksKept s₀ t :=
  linksKept_of_besides hb hk (linkKept_of_links hl (hk d))

theorem linksKept_onFlight {f : Flight → Flight} (hk : LinksKept s₀ s) : LinksKept s₀ (s.onFlight f) :=
  linksKept_of_drums rfl hk

theorem linksKept_onRouter {f : Router → Router} (hk : LinksKept s₀ s) : LinksKept s₀ (s.onRouter f) :=
  linksKept_of_drums rfl hk

theorem linksKept_raise {src : Block} {k : EventKind} {x : Option Byte} (hk : LinksKept s₀ s) :
    LinksKept s₀ (raise src k d x s) :=
  linksKept_of_drums rfl hk

theorem linksKept_handIncrement {src : Block} {a : Fin 8} (hk : LinksKept s₀ s) :
    LinksKept s₀ (handIncrement src d a s) :=
  linksKept_of_drums rfl hk

theorem linksKept_onlyIf {c : Bool} {f : State → State} (hk : LinksKept s₀ s) (h : c = true → LinksKept s₀ (f s)) :
    LinksKept s₀ (onlyIf c f s) := by
  unfold onlyIf
  split
  next hc => exact h hc
  next => exact hk

theorem linksKept_running {f : State → State} (hk : LinksKept s₀ s) (hf : LinksKept s₀ (f s))
    (h : running f s = .next t) : LinksKept s₀ t := by
  unfold running at h
  split at h <;> cases h
  · exact hk
  · exact hf

/-! ### Lockouts and events -/

theorem linksKept_pauseOrJoin {c : PauseCause} (hk : LinksKept s₀ s) : LinksKept s₀ (pauseOrJoin d c s) :=
  linksKept_of_besides (besides_pauseOrJoin d c s) hk (linkKept_pauseOrJoin (hk d))

theorem linksKept_heatEnd {r : Reason} (hk : LinksKept s₀ s) : LinksKept s₀ (heatEnd d r s) :=
  linksKept_of_besides (besides_heatEnd d r s) hk (linkKept_heatEnd (hk d))

theorem linksKept_lockOut {p : LockoutPath} (hk : LinksKept s₀ s) : LinksKept s₀ (lockOut d p s) := by
  have hset : LinksKept s₀ (setLockout d p s) :=
    linksKept_of_besides_links (d := d) (by simp [setLockout]) (links_setLockout d p s) hk
  have hrel : LinksKept s₀ (releaseDrum d (setLockout d p s)) := linksKept_of_links (fun e => links_releaseDrum e d _) hset
  unfold lockOut
  dsimp only
  split
  · exact hk
  · refine linksKept_heatEnd ?_
    split
    · exact linksKept_handIncrement (linksKept_raise hrel)
    · exact linksKept_raise hrel

theorem linksKept_failedAttempt (hk : LinksKept s₀ s) : LinksKept s₀ (failedAttempt d s) := by
  unfold failedAttempt
  dsimp only
  split
  · exact linksKept_of_besides_links (d := d) (by simp) (by simp) hk
  · exact linksKept_lockOut hk

theorem linksKept_flameLost (hk : LinksKept s₀ s) : LinksKept s₀ (flameLost d s) :=
  linksKept_failedAttempt (linksKept_of_besides_links (d := d) (by simp) (by simp) hk)

theorem linksKept_takeFlameStat {st : FlameStatus} (hk : LinksKept s₀ s) : LinksKept s₀ (takeFlameStat d st s) := by
  have hheld : LinksKept s₀ (s.onBurner d fun b => { b with flame := some st }) :=
    linksKept_of_besides_links (d := d) (by simp) (by simp) hk
  have hview : LinksKept s₀ (flameByView d st.flame (s.onBurner d fun b => { b with flame := some st })) := by
    unfold flameByView
    dsimp only
    split
    · exact linksKept_of_besides_links (besides_enterBurning d _) (links_enterBurning d _) hheld
    case h_4 | h_5 | h_6 => split; exacts [linksKept_flameLost hheld, hheld]
    case h_2 | h_3 => exact linksKept_failedAttempt hheld
    · exact hheld
  unfold takeFlameStat
  dsimp only
  split
  · exact linksKept_of_besides_links (besides_setRest d true _) (links_setRest d true _) hview
  · exact hview

theorem linksKept_cross {a : Fin 8} (hk : LinksKept s₀ s) : LinksKept s₀ (cross d a s) := by
  have hraised : LinksKept s₀
      (raise .attributes .attrCrossed d (some (byte a.val)) (s.onAttr d a fun r => { r with crossed := true })) :=
    linksKept_of_drums rfl hk
  unfold cross
  dsimp only
  split
  · exact hraised
  · exact linksKept_lockOut hraised
  · exact linksKept_of_drums rfl hraised

theorem linksKept_takeIncrement {a : Fin 8} (hk : LinksKept s₀ s) : LinksKept s₀ (takeIncrement d a s) := by
  unfold takeIncrement
  dsimp only
  split
  · exact linksKept_cross (linksKept_of_drums rfl hk)
  · exact linksKept_of_drums rfl hk

theorem linksKept_evaluate (order : List (Drum × Fin 8)) (hk : LinksKept s₀ s) : LinksKept s₀ (evaluate order s).1 := by
  unfold evaluate
  exact List.foldlRecOn (motive := fun p : State × Nat => LinksKept s₀ p.1) order _ hk fun p hp r _ => by
    split
    · exact linksKept_cross hp
    · exact hp

theorem linksKept_takeEvent {ev : Event} (hk : LinksKept s₀ s) : LinksKept s₀ (takeEvent ev s) := by
  have hr : LinksKept s₀ (routedAction ev.drum (s.router.routes[ev.kind.code]).action s) :=
    linksKept_of_besides (besides_routedAction ev.drum _ s) hk (linkKept_routedAction (hk ev.drum))
  unfold takeEvent enterAlert
  dsimp only
  (repeat' split) <;> exact linksKept_of_drums rfl hr

/-! ### Lookups -/

theorem drums_absorbPart (e : ClassEntry) (f : HandedFrame) (s : State) : (absorbPart e f s).drums = s.drums := by
  have status (bound : Nat) (a : Option Absorbed) : (handStatus f bound a s).drums = s.drums := by
    unfold handStatus
    (repeat' split) <;> rfl
  unfold absorbPart
  dsimp only
  split
  · rfl
  · exact status _ _
  · exact status _ _
  all_goals split <;> rfl

theorem drums_forwardPart (n : Option Nat) (f : HandedFrame) (s : State) : (forwardPart n f s).drums = s.drums := by
  unfold forwardPart; split <;> rfl

theorem drums_matched (e : ClassEntry) (f : HandedFrame) (s : State) : (matched e f s).drums = s.drums := by
  have absorbed : (if f.passed = true then absorbPart e f s else s).drums = s.drums := by
    split
    · exact drums_absorbPart e f s
    · rfl
  unfold matched
  split
  · exact absorbed
  · exact drums_forwardPart _ f s
  · rw [drums_forwardPart]; exact absorbed
  · rfl

theorem drums_missed (f : HandedFrame) (s : State) : (missed f s).drums = s.drums := by
  unfold missed
  dsimp only
  split
  · rw [drums_forwardPart]; rfl
  · rfl

/-- A lookup hands work on and counts a hit; it changes no drum (R34). -/
theorem drums_lookUp (f : HandedFrame) (s : State) : (lookUp f s).drums = s.drums := by
  unfold lookUp
  split
  · rw [drums_matched]; rfl
  · exact drums_missed f s

/-! ### Requests -/

/-- The engine keeps the links if the owner that serves the request does. -/
theorem linksKept_serve {mine : Request → Bool} {h : Request → State → Answer} (hk : LinksKept s₀ s)
    (hh : ∀ r u, u.drums = s.drums → LinksKept s₀ u → LinksKept s₀ (h r u).state) : LinksKept s₀ (serve mine h s) := by
  unfold serve
  split
  · exact hk
  next r rest _ =>
    split
    · have ha := hh r (s.taken rest) rfl (linksKept_of_drums rfl hk)
      refine linksKept_of_drums (s := (match (if r.valid then r.names else none) with
        | some d => reloadStandby d (h r (s.taken rest)).state
        | none => (h r (s.taken rest)).state)) rfl ?_
      split
      · exact linksKept_of_besides (besides_reloadStandby _ _) ha (linkKept_reloadStandby (ha _))
      · exact ha
    · exact hk

theorem linksKept_ok (hk : LinksKept s₀ s) : LinksKept s₀ (ok s).state := hk

theorem linksKept_refuse {st : Status} (hk : LinksKept s₀ s) : LinksKept s₀ (refuse st s).state := hk

theorem linksKept_serveItem {h : Nat → State → Answer} {r : Request} (hk : LinksKept s₀ s)
    (hh : ∀ v, LinksKept s₀ (h v s).state) : LinksKept s₀ (serveItem h r s).state := by
  unfold serveItem
  split
  · exact hh _
  · exact hk

theorem linksKept_onDrumArg {h : Drum → State → Answer} {r : Request} (hk : LinksKept s₀ s)
    (hh : ∀ d, LinksKept s₀ (h d s).state) : LinksKept s₀ (onDrumArg h r s).state := by
  unfold onDrumArg
  split
  · exact hh _
  · exact hk

theorem linksKept_onPortArg {h : Drum → State → Answer} {r : Request} (hk : LinksKept s₀ s)
    (hh : ∀ d, LinksKept s₀ (h d s).state) : LinksKept s₀ (onPortArg h r s).state := by
  unfold onPortArg
  (repeat' split) <;> first | exact hk | exact hh _

/-- A replaced configuration judges the standby conditions with the new code; a running timer stands (R19, R67). -/
theorem linkKept_replaceConfig {c : DrumConfig} (hk : (s.drum d).LinkKept (s.drum d)) :
    (s.drum d).LinkKept ((replaceConfig d c s).drum d) := by
  have ready (u v : State) (hv : v.links d = u.links d) (hs : (u.drum d).cycle.state = (s.drum d).cycle.state)
      (hp : { (u.drum d).port with image := {} } = { (s.drum d).port with image := {} }) :
      (s.drum d).LinkKept ((settleStandby d v).drum d) := by
    have hport : (u.drum d).port = { (s.drum d).port with image := (u.drum d).port.image } :=
      congrArg (fun p : Port => { p with image := (u.drum d).port.image }) hp
    have hstate : (u.drum d).port.state = (s.drum d).port.state := by rw [hport]
    have hgrace : (u.drum d).port.grace = (s.drum d).port.grace := by rw [hport]
    refine linkKept_settleStandby (standbyReady_of_links hv ⟨.inr (.inr (by rw [hport])), fun h => absurd ?_ h⟩) ?_
    · rw [hport]
    · rw [cycleState_of_links hv, linked_of_links hv, hs]
      unfold DrumState.linked
      rw [hstate, hgrace]
      exact hk.link
  unfold replaceConfig
  dsimp only
  split
  · refine ready _ _ ((links_writeFan d _ _).trans (links_writeDrive d _ _)) ?_ ?_ <;> rw [drum_onDrum_self]
  · refine ready _ _ rfl ?_ ?_ <;> rw [drum_onDrum_self]

/-- The owner of an offered request works on one drum. -/
theorem linksKept_drumRequest {op : State → State} (hk : LinksKept s₀ s) (hb : (op s).besides d = s.besides d)
    (hd : (s₀.drum d).LinkKept (s.drum d) → (s₀.drum d).LinkKept ((op s).drum d)) : LinksKept s₀ (ok (op s)).state :=
  linksKept_of_besides hb hk (hd (hk d))

theorem linkKept_startCycle (hk : (s₀.drum d).LinkKept (s.drum d)) (hu : (s.drum d).port.state = .up) :
    (s₀.drum d).LinkKept ((startCycle d s).drum d) := by
  unfold startCycle
  refine linkKept_of_links ((links_tumbleStart d _ _).trans (links_firstStart d _ _)) ?_
  refine linkKept_setCycle (standbyReady_of_links (links_onDryness d _ s) hk.toStandbyReady) fun _ => ?_
  simp [drynessStart, DrumState.linked, hu]

theorem linkKept_resumeCycle (hk : (s₀.drum d).LinkKept (s.drum d)) (hu : (s.drum d).port.state = .up) :
    (s₀.drum d).LinkKept ((resumeCycle d s).drum d) := by
  unfold resumeCycle
  refine linkKept_of_links (links_tumbleStart d _ _) ?_
  refine linkKept_setCycle (standbyReady_of_links (links_onDryness d _ s) hk.toStandbyReady) fun _ => ?_
  simp [DrumState.linked, hu]

theorem linkKept_abortCycle (hk : (s₀.drum d).LinkKept (s.drum d)) : (s₀.drum d).LinkKept ((abortCycle d s).drum d) := by
  have hdone : (s₀.drum d).LinkKept ((enterDone d (setReason d .aborted s)).drum d) :=
    linkKept_enterDone (standbyReady_of_links (links_setReason d .aborted s) hk.toStandbyReady)
  unfold abortCycle
  dsimp only
  cases hs : (s.drum d).cycle.state <;> dsimp only
  case drying => exact linkKept_startCooling hk (by rw [hs]; rfl)
  case purge =>
    split
    · exact linkKept_setCycle_of_active hk (by rw [hs]; rfl)
    · exact linkKept_startCooling hk (by rw [hs]; rfl)
  case ready => exact linkKept_enterVacant hk.toStandbyReady
  case cooling | guarding | paused => exact hdone
  all_goals exact hk

theorem linksKept_resetDrum (hk : LinksKept s₀ s) : LinksKept s₀ (resetDrum d s) := by
  have hstopped : LinksKept s₀ (tumbleReset d (burnerReset d s)) :=
    linksKept_of_besides_links (d := d) (by simp) (by simp) hk
  unfold resetDrum purgeAlerts
  dsimp only
  refine linksKept_onRouter (linksKept_of_links (fun e => links_releaseDrum e d _) (linksKept_onFlight ?_))
  refine linksKept_of_besides_links (besides_drynessReset d _) (links_onDryness d _ _) ?_
  exact linksKept_of_besides (besides_setCycle d _ _ _) hstopped (linkKept_setCycle (hstopped d).toStandbyReady nofun)

/-- A drum that rests has no active cycle. -/
theorem active_of_idle {c : CycleState} (h : c.idle = true) : c.active = false := by
  cases c <;> first | rfl | exact nomatch h

theorem linkKept_powerOff (hk : (s₀.drum d).LinkKept (s.drum d)) (ha : (s.drum d).cycle.state.active = false) :
    (s₀.drum d).LinkKept ((powerOff d s).drum d) := by
  unfold powerOff
  split
  · exact hk
  · exact linkKept_serviceLaneDown (linkKept_movePort hk.toStandbyReady ha)

theorem linkKept_serviceOnly (hk : (s₀.drum d).LinkKept (s.drum d)) (ha : (s.drum d).cycle.state.active = false) :
    (s₀.drum d).LinkKept ((serviceOnly d s).drum d) := by
  unfold serviceOnly
  split
  · exact hk
  · exact linkKept_movePort hk.toStandbyReady ha

theorem linkKept_endTest (hk : (s₀.drum d).LinkKept (s.drum d)) : (s₀.drum d).LinkKept ((endTest d s).drum d) := by
  unfold endTest
  dsimp only
  split
  next h => exact linkKept_leaveTest hk h
  next => exact hk

theorem linksKept_gate {f : PassFrame} (hk : LinksKept s₀ s) : LinksKept s₀ (gate d f s).state := by
  unfold gate passDrive passFan passSlot
  dsimp only
  (repeat' split) <;> first
    | exact hk
    | exact linksKept_of_besides_links (besides_writeDrive d _ s) (links_writeDrive d _ s) hk
    | exact linksKept_of_besides_links (besides_writeFan d _ s) (links_writeFan d _ s) hk
    | exact linksKept_of_besides (besides_onPort d _ s) hk (linkKept_onPort (hk d) rfl rfl rfl rfl)

theorem linksKept_bringUp (hk : LinksKept s₀ s) : LinksKept s₀ (bringUp d s).state := by
  have move (h : (s.drum d).port.state ≠ .up ∧ (s.drum d).port.state ≠ .seek) : LinksKept s₀ (setPortState d .seek s) :=
    linksKept_of_besides (besides_setPortState d _ s) hk
      (linkKept_setPortState (hk d).toStandbyReady (active_of_port (hk d) h))
  unfold bringUp
  cases hs : (s.drum d).port.state <;> dsimp only
  case off | service => exact move (by rw [hs]; exact ⟨nofun, nofun⟩)
  all_goals exact hk

theorem linkKept_setHold (hk : (s₀.drum d).LinkKept (s.drum d)) : (s₀.drum d).LinkKept ((setHold d s).drum d) :=
  linkKept_setPresence (linkKept_onPort hk rfl rfl rfl rfl)

theorem linksKept_testRequest {dir : TestDirection} {r : Request} (hk : LinksKept s₀ s) :
    LinksKept s₀ (testRequest dir r s).state := by
  unfold testRequest
  refine linksKept_onPortArg hk fun d => ?_
  split
  · exact hk
  · split
    next h =>
      simp only [DrumState.canTest, Bool.and_eq_true] at h
      exact linksKept_of_besides (besides_startTest d _ _ s) hk (linkKept_startTest (hk d) (active_of_idle h.1.2))
    next => exact hk

end

end Sys2Proof.Machine
end

section
/-! Every command and every millisecond keeps the links of active cycles and the standby timers; settles O60. -/

namespace Sys2Proof.Machine

section
variable {s₀ s t : State}

/-! ### The requests, by their owners -/

/-- A check that refuses: nothing changes where it fails (R52). -/
theorem linksKept_check {c : Prop} [Decidable c] {st : Status} {a : Answer} (hk : LinksKept s₀ s)
    (h : ¬c → LinksKept s₀ a.state) : LinksKept s₀ (if c then refuse st s else a).state := by
  split
  · exact hk
  next hc => exact h hc

/-- A check that admits. -/
theorem linksKept_admit {c : Prop} [Decidable c] {st : Status} {a : Answer} (hk : LinksKept s₀ s)
    (h : c → LinksKept s₀ a.state) : LinksKept s₀ (if c then a else refuse st s).state := by
  split
  next hc => exact h hc
  · exact hk

/-- The frame of a replaced configuration: the state outside the drum's blocks and its configuration (R67). -/
theorem replaceConfig_besides (d : Drum) (c : DrumConfig) (s : State) :
    { (replaceConfig d c s).besides d with config := (s.drum d).config } = s.besides d := by
  have hset (f : DrumState → DrumState) :
      { (s.onDrum d f).besides d with config := (s.drum d).config } = s.besides d := by
    simp [State.besides, State.onDrum, State.drum, Vector.set_set]
  unfold replaceConfig
  dsimp only
  split <;> simp only [besides_settleStandby, besides_writeFan, besides_writeDrive, hset]

theorem drum_replaceConfig_ne {d e : Drum} {c : DrumConfig} (h : e ≠ d) : (replaceConfig d c s).drum e = s.drum e := by
  have hb := congrArg (fun b : Besides => b.drums[e]) (replaceConfig_besides d c s)
  have := Fin.val_ne_of_ne h
  simpa [State.besides, State.drum, this.symm] using hb

theorem linksKept_writeDrumConfig {r : Request} (hk : LinksKept s₀ s) (hs : s₀.drums = s.drums) :
    LinksKept s₀ (writeDrumConfig r s).state := by
  have hd (d : Drum) : s₀.drum d = s.drum d := by unfold State.drum; rw [hs]
  unfold writeDrumConfig
  refine linksKept_onDrumArg hk fun d => ?_
  cases configOf r.args with
  | none => exact hk
  | some c =>
    refine linksKept_admit hk fun _ e => ?_
    by_cases he : e = d
    · subst he
      have hself := hk e
      rw [hd] at hself ⊢
      exact linkKept_replaceConfig hself
    · have hother : (replaceConfig d c s).drum e = s.drum e := drum_replaceConfig_ne he
      show (s₀.drum e).LinkKept ((replaceConfig d c s).drum e)
      rw [hother]; exact hk e

theorem linksKept_cycleLoad {r : Request} (hk : LinksKept s₀ s) : LinksKept s₀ (cycleLoad r s).state := by
  unfold cycleLoad
  refine linksKept_onDrumArg hk fun d => ?_
  dsimp only
  cases recordOf r.args with
  | none => exact hk
  | some x =>
    refine linksKept_check hk fun _ => linksKept_check hk fun _ => linksKept_check hk fun _ => linksKept_check hk fun _ => ?_
    refine linksKept_ok ?_
    exact linksKept_of_besides (besides_loadCycle d x s) hk (linkKept_setCycle (hk d).toStandbyReady nofun)

theorem linksKept_cycleUnload {r : Request} (hk : LinksKept s₀ s) : LinksKept s₀ (cycleUnload r s).state :=
  linksKept_onDrumArg hk fun d => linksKept_admit hk fun _ => linksKept_ok
    (linksKept_of_besides (besides_enterVacant d s) hk (linkKept_enterVacant (hk d).toStandbyReady))

theorem linksKept_cycleStart {r : Request} (hk : LinksKept s₀ s) : LinksKept s₀ (cycleStart r s).state := by
  unfold cycleStart
  refine linksKept_onDrumArg hk fun d => ?_
  dsimp only
  refine linksKept_check hk fun _ => linksKept_check hk fun hu => linksKept_check hk fun _ => linksKept_check hk fun _ =>
    linksKept_check hk fun _ => linksKept_check hk fun _ => ?_
  exact linksKept_ok (linksKept_of_besides (besides_startCycle d s) hk (linkKept_startCycle (hk d) (not_not.mp hu)))

theorem linksKept_cyclePause {r : Request} (hk : LinksKept s₀ s) : LinksKept s₀ (cyclePause r s).state := by
  unfold cyclePause
  refine linksKept_onDrumArg hk fun d => ?_
  split
  case h_1 | h_2 | h_3 | h_4 => exact linksKept_ok (linksKept_pauseOrJoin hk)
  all_goals exact linksKept_refuse hk

theorem linksKept_cycleResume {r : Request} (hk : LinksKept s₀ s) : LinksKept s₀ (cycleResume r s).state := by
  unfold cycleResume
  refine linksKept_onDrumArg hk fun d => ?_
  dsimp only
  refine linksKept_check hk fun _ => linksKept_check hk fun h => ?_
  have hu : (s.drum d).port.state = .up := by
    by_contra hu; exact h (by simp [hu])
  exact linksKept_ok (linksKept_of_besides (besides_resumeCycle d s) hk (linkKept_resumeCycle (hk d) hu))

theorem linksKept_cycleEndHeat {r : Request} (hk : LinksKept s₀ s) : LinksKept s₀ (cycleEndHeat r s).state := by
  unfold cycleEndHeat
  refine linksKept_onDrumArg hk fun d => ?_
  split
  case h_1 | h_2 | h_3 | h_4 | h_5 => exact linksKept_ok (linksKept_heatEnd hk)
  all_goals exact linksKept_refuse hk

theorem linksKept_cycleAbort {r : Request} (hk : LinksKept s₀ s) : LinksKept s₀ (cycleAbort r s).state :=
  linksKept_onDrumArg hk fun d => linksKept_check hk fun _ =>
    linksKept_of_besides (besides_abortCycle d s) hk (linkKept_abortCycle (hk d))

theorem linksKept_lockoutClear {r : Request} (hk : LinksKept s₀ s) :
    LinksKept s₀
      (onDrumArg (fun d s => if (s.drum d).burner.lockout.isSome then ok (clearLockout d s) else refuse .state s) r s).state :=
  linksKept_onDrumArg hk fun d => linksKept_admit hk fun _ =>
    linksKept_of_besides_links (besides_clearLockout d s) (links_clearLockout d s) hk

/-- A port with a resting drum moves without a grace interval: POWER_OFF and SERVICE_ONLY. -/
theorem linksKept_canRest {op : Drum → State → State} {r : Request} (hk : LinksKept s₀ s)
    (hb : ∀ d, (op d s).besides d = s.besides d)
    (hd : ∀ d, (s.drum d).cycle.state.active = false → (s₀.drum d).LinkKept ((op d s).drum d)) :
    LinksKept s₀ (onPortArg (fun d s => if (s.drum d).canRest then ok (op d s) else refuse .busy s) r s).state := by
  refine linksKept_onPortArg hk fun d => linksKept_admit hk fun h => ?_
  simp only [DrumState.canRest, Bool.and_eq_true] at h
  exact linksKept_of_besides (hb d) hk (hd d (active_of_idle h.1))

theorem linksKept_holdNodes {r : Request} (hk : LinksKept s₀ s) : LinksKept s₀ (onPortArg holdNodes r s).state := by
  refine linksKept_onPortArg hk fun d => linksKept_admit hk fun _ => ?_
  dsimp only [ok]
  split
  · exact hk
  · exact linksKept_of_besides (besides_setHold d s) hk (linkKept_setHold (hk d))

theorem linksKept_releaseNodes {r : Request} (hk : LinksKept s₀ s) : LinksKept s₀ (onPortArg releaseNodes r s).state := by
  refine linksKept_onPortArg hk fun d => ?_
  dsimp only [releaseNodes, ok]
  split
  · exact linksKept_of_besides (besides_clearHold d s) hk (linkKept_onPort (hk d) rfl rfl rfl rfl)
  · exact hk

theorem linksKept_passThrough {r : Request} (hk : LinksKept s₀ s) : LinksKept s₀ (passThrough r s).state :=
  linksKept_onDrumArg hk fun _ => linksKept_check hk fun _ => linksKept_check hk fun _ => linksKept_gate hk

end

end Sys2Proof.Machine
end

section
namespace Sys2Proof.Machine

section
variable {s₀ s t : State} {d : Drum}

/-! ### The commands -/

/-- A drum at its reset values: no cycle, port OFF, standby timer stopped. -/
theorem linkKept_default {D₀ : DrumState} : D₀.LinkKept {} := ⟨⟨.inl rfl, fun _ => .inl rfl⟩, nofun, rfl⟩

theorem drum_of_reset (h : s.drums = State.reset.drums) (d : Drum) : s.drum d = {} := by
  unfold State.drum
  rw [h]
  simp [State.reset]

theorem linksKept_of_reset (h : s.drums = State.reset.drums) : LinksKept s₀ s := fun d => by
  rw [drum_of_reset h d]; exact linkKept_default

/-- The commands in which the engine takes a request. -/
theorem linksKept_request {mine : Request → Bool} {h : Request → State → Answer} (hk : LinksKept s s)
    (hh : ∀ r u, s.drums = u.drums → LinksKept s u → LinksKept s (h r u).state)
    (ht : running (serve mine h) s = .next t) : LinksKept s t :=
  linksKept_running hk (linksKept_serve hk fun r u hu => hh r u hu.symm) ht

/-- The commands of one drum that act where their trigger holds. -/
theorem linksKept_trigger {c : State → Bool} {f : State → State} (hk : LinksKept s s)
    (hb : (f s).besides d = s.besides d) (hd : c s = true → (s.drum d).LinkKept (s.drum d) →
      (s.drum d).LinkKept ((f s).drum d))
    (ht : running (fun s => onlyIf (c s) f s) s = .next t) : LinksKept s t :=
  linksKept_running hk (linksKept_onlyIf hk fun hc => linksKept_of_besides hb hk (hd hc (hk d))) ht

/-- As linksKept_trigger, for an operation that its drum's link rules do not read. -/
theorem linksKept_trigger_links {c : State → Bool} {f : State → State} (hk : LinksKept s s)
    (hb : (f s).besides d = s.besides d) (hl : (f s).links d = s.links d)
    (ht : running (fun s => onlyIf (c s) f s) s = .next t) : LinksKept s t :=
  linksKept_trigger hk hb (fun _ => linkKept_of_links hl) ht

theorem linksKept_refused {mine : Request → Bool} {h : Request → State → Answer} (hk : LinksKept s s)
    (hh : ∀ r u, (h r u).state.drums = u.drums)
    (ht : running (serve mine h) s = .next t) : LinksKept s t :=
  linksKept_request hk (fun r u _ hu => linksKept_of_drums (hh r u) hu) ht

theorem linksKept_configItem {i : Nat} {w : Nat → State → Answer} (hk : LinksKept s s)
    (hw : ∀ v u d, (w v u).state.links d = u.links d)
    (ht : running (serve (isItem i) (serveItem w)) s = .next t) : LinksKept s t :=
  linksKept_request hk (fun _ _ _ hu => linksKept_serveItem hu fun v => linksKept_of_links (hw v _) hu) ht

theorem drums_cabinetLost (s : State) : (cabinetLost s).drums = s.drums := by
  unfold cabinetLost cutAlert
  split <;> rfl

theorem drums_takeCabinetFrame (bytes : List Byte) (s : State) : (takeCabinetFrame bytes s).drums = s.drums := by
  unfold takeCabinetFrame offerRequest
  (repeat' split) <;> rfl

theorem drums_choose (s : State) : (choose s).drums = s.drums := by
  have head : (beginHead s).drums = s.drums := by unfold beginHead; split <;> rfl
  unfold choose
  split
  · rfl
  · split
    · exact head
    · split
      · rfl
      · exact head

theorem linksKept_attrLoad {r : Request} (hk : LinksKept s₀ s) : LinksKept s₀ (attrLoad r s).state := by
  unfold attrLoad
  refine linksKept_check hk fun _ => linksKept_check hk fun _ => ?_
  split
  · exact linksKept_refuse hk
  next tab _ =>
    have hload : LinksKept s₀ (s.onAttributes fun a => { a with valid := true, revision := 2, table := tab }) :=
      linksKept_of_drums rfl hk
    unfold loadTable
    generalize attrOrder = order
    exact linksKept_evaluate order hload

theorem linksKept_takeFrame {bytes : List Byte} (hk : LinksKept s₀ s) : LinksKept s₀ (takeFrame d bytes s) := by
  have count (f : Port → Port) (hs : ∀ p, (f p).state = p.state) (hg : ∀ p, (f p).grace = p.grace)
      (hr : ∀ p, (f p).readings = p.readings) (hb : ∀ p, (f p).standby = p.standby) : LinksKept s₀ (s.onPort d f) :=
    linksKept_of_besides (besides_onPort d f s) hk (linkKept_onPort (hk d) (hs _) (hg _) (hr _) (hb _))
  unfold takeFrame
  dsimp only
  split
  · exact count _ (fun _ => rfl) (fun _ => rfl) (fun _ => rfl) fun _ => rfl
  · refine linksKept_onFlight ?_
    split
    · exact hk
    · exact count _ (fun _ => rfl) (fun _ => rfl) (fun _ => rfl) fun _ => rfl

theorem linksKept_dropAbsorbed {p : Drum × Absorbed} (hk : LinksKept s₀ s) : LinksKept s₀ (dropAbsorbed p s) :=
  linksKept_onFlight hk

/-- A standby timer that has run out is loaded, so the drum rests (R19). -/
theorem linkKept_standbyExpiry (hc : (s.portUp d && due (s.drum d).port.standby) = true)
    (hk : (s₀.drum d).LinkKept (s.drum d)) : (s₀.drum d).LinkKept ((movePort d .service s).drum d) := by
  simp only [Bool.and_eq_true, due, beq_iff_eq] at hc
  have hruns := hk.follows
  rw [hc.2] at hruns
  simp only [Option.isSome_some, DrumState.standbyRuns, eq_comm (a := true), Bool.and_eq_true, Bool.or_eq_true,
    beq_iff_eq] at hruns
  refine linkKept_movePort hk.toStandbyReady ?_
  obtain ⟨⟨-, hs | hs⟩, -⟩ := hruns <;> rw [hs] <;> rfl

theorem active_of_dryingUp {c : Cycle} (h : c.dryingUp = true) : c.state.active = true := by
  simp only [Cycle.dryingUp, Bool.and_eq_true, beq_iff_eq] at h
  rw [h.1]; rfl

theorem active_of_coolingReached {c : Cycle} {f : CycleRecord → Nat} (h : c.coolingReached f = true) :
    c.state.active = true := by
  simp only [Cycle.coolingReached, Bool.and_eq_true, beq_iff_eq] at h
  rw [h.1]; rfl

theorem linkKept_pauseLimitEnds (hk : (s₀.drum d).LinkKept (s.drum d)) :
    (s₀.drum d).LinkKept ((pauseLimitEnds d s).drum d) := by
  have habandoned : (s₀.drum d).LinkKept ((s.onCycle d fun c => { c with reason := .abandoned }).drum d) :=
    linkKept_onCycle hk rfl
  exact linkKept_enterDone (linkKept_of_links (by rfl) habandoned).toStandbyReady

theorem linksKept_execPowerOnReset (_ : LinksKept s s) (h : execPowerOnReset s = .next t) :
    LinksKept s t := by
  cases h
  exact linksKept_of_reset rfl

theorem linksKept_execResetnAssert (_ : LinksKept s s) (h : execResetnAssert s = .next t) :
    LinksKept s t := by
  cases h
  exact linksKept_of_reset rfl

theorem linksKept_execResetnRelease (hk : LinksKept s s) (h : execResetnRelease s = .next t) :
    LinksKept s t := by
  cases h
  split
  exacts [linksKept_of_drums rfl hk, hk]

theorem linksKept_execCabinetLock (hk : LinksKept s s) (h : execCabinetLock s = .next t) :
    LinksKept s t :=
  linksKept_running hk (linksKept_of_drums rfl hk) h

theorem linksKept_execCabinetLockLost (hk : LinksKept s s) (h : execCabinetLockLost s = .next t) :
    LinksKept s t :=
  linksKept_running hk (linksKept_of_drums (drums_cabinetLost s) hk) h

theorem linksKept_execCabinetFrameReceived {bytes : List Byte} (hk : LinksKept s s)
    (h : execCabinetFrameReceived bytes s = .next t) :
    LinksKept s t :=
  linksKept_running hk (linksKept_onlyIf hk fun _ => linksKept_of_drums (drums_takeCabinetFrame bytes s) hk) h

theorem linksKept_execBadRequest (hk : LinksKept s s) (h : execBadRequest s = .next t) :
    LinksKept s t :=
  linksKept_refused hk (fun _ _ => rfl) h

theorem linksKept_execTransmitChoice (hk : LinksKept s s) (h : execTransmitChoice s = .next t) :
    LinksKept s t :=
  linksKept_running hk (linksKept_onlyIf hk fun _ => linksKept_of_drums (drums_choose s) hk) h

theorem linksKept_execReplyTransmitEnd (hk : LinksKept s s) (h : execReplyTransmitEnd s = .next t) :
    LinksKept s t := by
  refine linksKept_running hk ?_ h
  split
  · split
    exacts [linksKept_of_reset rfl, linksKept_of_drums rfl hk]
  · exact hk

theorem linksKept_execAlertFrameEnd (hk : LinksKept s s) (h : execAlertFrameEnd s = .next t) :
    LinksKept s t := by
  refine linksKept_running hk ?_ h
  split
  exacts [linksKept_of_drums rfl hk, hk]

theorem linksKept_execForwardRecordEnd (hk : LinksKept s s) (h : execForwardRecordEnd s = .next t) :
    LinksKept s t := by
  refine linksKept_running hk ?_ h
  split
  exacts [linksKept_of_drums rfl hk, hk]

theorem linksKept_execConfigWriteHeatBudget (hk : LinksKept s s) (h : execConfigWriteHeatBudget s = .next t) :
    LinksKept s t :=
  linksKept_configItem hk (fun _ u d => by unfold writeBudget; split; exacts [rfl, links_setBudget d _ u]) h

theorem linksKept_execConfigWriteBypassLimit (hk : LinksKept s s) (h : execConfigWriteBypassLimit s = .next t) :
    LinksKept s t :=
  linksKept_configItem hk (fun _ u d => by unfold writeBypass; split; exacts [rfl, links_grantAttempt d _]) h

theorem linksKept_execConfigWriteHeatWaitLimit (hk : LinksKept s s) (h : execConfigWriteHeatWaitLimit s = .next t) :
    LinksKept s t :=
  linksKept_configItem hk (fun _ u d => by unfold writeWaitLimit; split; exacts [rfl, links_setWaitLimit d _ u]) h

theorem linksKept_execConfigWriteBucketSpread (hk : LinksKept s s) (h : execConfigWriteBucketSpread s = .next t) :
    LinksKept s t :=
  linksKept_configItem hk (fun _ _ _ => by unfold writeBucketSpread; split <;> rfl) h

theorem linksKept_execConfigWriteSignatureSpread (hk : LinksKept s s) (h : execConfigWriteSignatureSpread s = .next t) :
    LinksKept s t :=
  linksKept_configItem hk (fun _ _ _ => by unfold writeSignatureSpread; split <;> rfl) h

theorem linksKept_execConfigWriteMissAction (hk : LinksKept s s) (h : execConfigWriteMissAction s = .next t) :
    LinksKept s t :=
  linksKept_refused hk (fun _ _ => by unfold serveItem writeMissAction; (repeat' split) <;> rfl) h

theorem linksKept_execDrumConfigWrite (hk : LinksKept s s) (h : execDrumConfigWrite s = .next t) :
    LinksKept s t :=
  linksKept_request hk (fun _ _ hu hk => linksKept_writeDrumConfig hk hu) h

theorem linksKept_execProfileWrite (hk : LinksKept s s) (h : execProfileWrite s = .next t) :
    LinksKept s t :=
  linksKept_refused hk (fun _ _ => by unfold writeProfile; (repeat' split) <;> rfl) h

theorem linksKept_execRouteWrite (hk : LinksKept s s) (h : execRouteWrite s = .next t) :
    LinksKept s t :=
  linksKept_refused hk (fun _ _ => by unfold writeRoute; (repeat' split) <;> rfl) h

theorem linksKept_execClassAdd (hk : LinksKept s s) (h : execClassAdd s = .next t) :
    LinksKept s t :=
  linksKept_refused hk (fun _ _ => by unfold addEntry; dsimp only; (repeat' split) <;> rfl) h

theorem linksKept_execClassRemove (hk : LinksKept s s) (h : execClassRemove s = .next t) :
    LinksKept s t :=
  linksKept_refused hk (fun _ _ => by unfold removeEntry; dsimp only; (repeat' split) <;> rfl) h

theorem linksKept_execClassQuery (hk : LinksKept s s) (h : execClassQuery s = .next t) :
    LinksKept s t :=
  linksKept_refused hk (fun _ _ => by unfold queryTuple; (repeat' split) <;> rfl) h

theorem linksKept_execClassRead (hk : LinksKept s s) (h : execClassRead s = .next t) :
    LinksKept s t :=
  linksKept_refused hk (fun _ _ => by unfold readEntries; dsimp only; (repeat' split) <;> rfl) h

theorem linksKept_execCycleLoad (hk : LinksKept s s) (h : execCycleLoad s = .next t) :
    LinksKept s t :=
  linksKept_request hk (fun _ _ _ hk => linksKept_cycleLoad hk) h

theorem linksKept_execCycleUnload (hk : LinksKept s s) (h : execCycleUnload s = .next t) :
    LinksKept s t :=
  linksKept_request hk (fun _ _ _ hk => linksKept_cycleUnload hk) h

theorem linksKept_execCycleStart (hk : LinksKept s s) (h : execCycleStart s = .next t) :
    LinksKept s t :=
  linksKept_request hk (fun _ _ _ hk => linksKept_cycleStart hk) h

theorem linksKept_execCyclePause (hk : LinksKept s s) (h : execCyclePause s = .next t) :
    LinksKept s t :=
  linksKept_request hk (fun _ _ _ hk => linksKept_cyclePause hk) h

theorem linksKept_execCycleResume (hk : LinksKept s s) (h : execCycleResume s = .next t) :
    LinksKept s t :=
  linksKept_request hk (fun _ _ _ hk => linksKept_cycleResume hk) h

theorem linksKept_execCycleEndHeat (hk : LinksKept s s) (h : execCycleEndHeat s = .next t) :
    LinksKept s t :=
  linksKept_request hk (fun _ _ _ hk => linksKept_cycleEndHeat hk) h

theorem linksKept_execCycleAbort (hk : LinksKept s s) (h : execCycleAbort s = .next t) :
    LinksKept s t :=
  linksKept_request hk (fun _ _ _ hk => linksKept_cycleAbort hk) h

theorem linksKept_execDrumReset (hk : LinksKept s s) (h : execDrumReset s = .next t) :
    LinksKept s t := by
  refine linksKept_request hk (fun _ u _ hk => linksKept_onDrumArg hk fun d => ?_) h
  exact linksKept_ok (linksKept_resetDrum hk)

theorem linksKept_execHeatLockoutClear (hk : LinksKept s s) (h : execHeatLockoutClear s = .next t) :
    LinksKept s t :=
  linksKept_request hk (fun _ _ _ hk => linksKept_lockoutClear hk) h

theorem linksKept_execPowerOff (hk : LinksKept s s) (h : execPowerOff s = .next t) :
    LinksKept s t :=
  linksKept_request hk (fun _ u _ hk => linksKept_canRest hk (fun d => besides_powerOff d u)
    fun d ha => linkKept_powerOff (hk d) ha) h

theorem linksKept_execServiceOnly (hk : LinksKept s s) (h : execServiceOnly s = .next t) :
    LinksKept s t :=
  linksKept_request hk (fun _ u _ hk => linksKept_canRest hk (fun d => besides_serviceOnly d u)
    fun d ha => linkKept_serviceOnly (hk d) ha) h

theorem linksKept_execBringUp (hk : LinksKept s s) (h : execBringUp s = .next t) :
    LinksKept s t :=
  linksKept_request hk (fun _ _ _ hk => linksKept_onPortArg hk fun _ => linksKept_bringUp hk) h

theorem linksKept_execHoldNodes (hk : LinksKept s s) (h : execHoldNodes s = .next t) :
    LinksKept s t :=
  linksKept_request hk (fun _ _ _ hk => linksKept_holdNodes hk) h

theorem linksKept_execReleaseNodes (hk : LinksKept s s) (h : execReleaseNodes s = .next t) :
    LinksKept s t :=
  linksKept_request hk (fun _ _ _ hk => linksKept_releaseNodes hk) h

theorem linksKept_execTestSend (hk : LinksKept s s) (h : execTestSend s = .next t) :
    LinksKept s t :=
  linksKept_request hk (fun _ _ _ hk => linksKept_testRequest hk) h

theorem linksKept_execTestReceive (hk : LinksKept s s) (h : execTestReceive s = .next t) :
    LinksKept s t :=
  linksKept_request hk (fun _ _ _ hk => linksKept_testRequest hk) h

theorem linksKept_execTestEnd (hk : LinksKept s s) (h : execTestEnd s = .next t) :
    LinksKept s t := by
  refine linksKept_request hk (fun _ u _ hk => linksKept_onPortArg hk fun d => ?_) h
  exact linksKept_of_besides (besides_endTest d u) hk (linkKept_endTest (hk d))

theorem linksKept_execPassThrough (hk : LinksKept s s) (h : execPassThrough s = .next t) :
    LinksKept s t :=
  linksKept_request hk (fun _ _ _ hk => linksKept_passThrough hk) h

theorem linksKept_execAlertAck (hk : LinksKept s s) (h : execAlertAck s = .next t) :
    LinksKept s t :=
  linksKept_refused hk (fun _ _ => by unfold alertAck ackAlert; (repeat' split) <;> rfl) h

theorem linksKept_execAttrLoad (hk : LinksKept s s) (h : execAttrLoad s = .next t) :
    LinksKept s t :=
  linksKept_request hk (fun _ _ _ hk => linksKept_attrLoad hk) h

theorem linksKept_execAttrRead (hk : LinksKept s s) (h : execAttrRead s = .next t) :
    LinksKept s t :=
  linksKept_refused hk (fun _ _ => by unfold attrRead onDrumArg; split <;> rfl) h

theorem linksKept_execAttrClear (hk : LinksKept s s) (h : execAttrClear s = .next t) :
    LinksKept s t :=
  linksKept_refused hk (fun _ _ => by unfold attrClear onDrumArg; (repeat' split) <;> rfl) h

theorem linksKept_execStatusReadPart (hk : LinksKept s s) (h : execStatusReadPart s = .next t) :
    LinksKept s t :=
  linksKept_refused hk (fun _ _ => by unfold onScopePart; split <;> rfl) h

theorem linksKept_execStatusReadDrum (hk : LinksKept s s) (h : execStatusReadDrum s = .next t) :
    LinksKept s t :=
  linksKept_refused hk (fun _ _ => by unfold onScopeDrum; (repeat' split) <;> rfl) h

theorem linksKept_execStatusReadPort (hk : LinksKept s s) (h : execStatusReadPort s = .next t) :
    LinksKept s t :=
  linksKept_refused hk (fun _ _ => by unfold onScopeDrum; (repeat' split) <;> rfl) h

theorem linksKept_execStatusReadHeat (hk : LinksKept s s) (h : execStatusReadHeat s = .next t) :
    LinksKept s t :=
  linksKept_refused hk (fun _ _ => by unfold onScopePart; split <;> rfl) h

theorem linksKept_execPartReset (hk : LinksKept s s) (h : execPartReset s = .next t) :
    LinksKept s t :=
  linksKept_refused hk (fun _ _ => rfl) h

theorem linksKept_execMainLaneLock (hk : LinksKept s s) (h : execMainLaneLock d s = .next t) :
    LinksKept s t := by
  refine linksKept_running hk ?_ h
  split
  · exact linksKept_of_besides (besides_enterUp d s) hk (linkKept_enterUp (hk d).toStandbyReady)
  · exact linksKept_of_besides (besides_onPort d _ s) hk (linkKept_onPort (hk d) rfl rfl rfl rfl)
  all_goals exact hk

theorem linksKept_execMainLaneLockLost (hk : LinksKept s s) (h : execMainLaneLockLost d s = .next t) :
    LinksKept s t := by
  refine linksKept_running hk ?_ h
  split
  · exact linksKept_of_besides (besides_mainLaneLost d s) hk linkKept_mainLaneLost
  · exact linksKept_of_besides (besides_onPort d _ s) hk (linkKept_onPort (hk d) rfl rfl rfl rfl)
  all_goals exact hk

theorem linksKept_execGraceExpiry (hk : LinksKept s s) (h : execGraceExpiry d s = .next t) :
    LinksKept s t :=
  linksKept_trigger (d := d) hk (besides_graceExpires d s) (fun _ hk => linkKept_graceExpires hk.toStandbyReady hk.follows) h

theorem linksKept_execMainLaneFrameReceived {bytes : List Byte} (hk : LinksKept s s)
    (h : execMainLaneFrameReceived d bytes s = .next t) :
    LinksKept s t :=
  linksKept_running hk (linksKept_onlyIf hk fun _ => linksKept_takeFrame hk) h

theorem linksKept_execLookup (hk : LinksKept s s) (h : execLookup d s = .next t) :
    LinksKept s t := by
  refine linksKept_running hk ?_ h
  split
  · exact hk
  · exact linksKept_of_drums (drums_lookUp _ _) (linksKept_onFlight hk)

theorem linksKept_execInletTempAbsorbed (hk : LinksKept s s) (h : execInletTempAbsorbed d s = .next t) :
    LinksKept s t := by
  refine linksKept_running hk ?_ h
  split
  · exact linksKept_of_besides_links (besides_takeInlet d _ _) (links_takeInlet d _ _) (linksKept_dropAbsorbed hk)
  · exact hk

theorem linksKept_execExhaustTempAbsorbed (hk : LinksKept s s) (h : execExhaustTempAbsorbed d s = .next t) :
    LinksKept s t := by
  refine linksKept_running hk ?_ h
  split
  · exact linksKept_of_besides (besides_takeExhaust d _ _) (linksKept_dropAbsorbed hk)
      (linkKept_takeExhaust (linksKept_dropAbsorbed hk d))
  · exact hk

theorem linksKept_execMotorCurrentAbsorbed (hk : LinksKept s s) (h : execMotorCurrentAbsorbed d s = .next t) :
    LinksKept s t := by
  refine linksKept_running hk ?_ h
  split
  · exact linksKept_of_besides_links (besides_takeCurrent d _ _) (links_takeCurrent d _ _) (linksKept_dropAbsorbed hk)
  · exact hk

theorem linksKept_execWetCountAbsorbed (hk : LinksKept s s) (h : execWetCountAbsorbed d s = .next t) :
    LinksKept s t := by
  refine linksKept_running hk ?_ h
  split
  · exact linksKept_of_besides (besides_takeWet d _ _) (linksKept_dropAbsorbed hk)
      (linkKept_takeWet (linksKept_dropAbsorbed hk d))
  · exact hk

theorem linksKept_execDriveStatAbsorbed (hk : LinksKept s s) (h : execDriveStatAbsorbed d s = .next t) :
    LinksKept s t := by
  refine linksKept_running hk ?_ h
  split
  · exact linksKept_of_besides (besides_takeDriveStat d _ _) (linksKept_dropAbsorbed hk)
      (linkKept_takeDriveStat (linksKept_dropAbsorbed hk d))
  · exact hk

theorem linksKept_execFlameStatAbsorbed (hk : LinksKept s s) (h : execFlameStatAbsorbed d s = .next t) :
    LinksKept s t := by
  refine linksKept_running hk ?_ h
  split
  · exact linksKept_takeFlameStat (linksKept_dropAbsorbed hk)
  · exact hk

theorem linksKept_execServiceLaneLock (hk : LinksKept s s) (h : execServiceLaneLock d s = .next t) :
    LinksKept s t :=
  linksKept_trigger (d := d) hk (besides_onPort d _ s) (fun _ hk => linkKept_onPort hk rfl rfl rfl rfl) h

theorem linksKept_execServiceLaneLockLost (hk : LinksKept s s) (h : execServiceLaneLockLost d s = .next t) :
    LinksKept s t :=
  linksKept_trigger (d := d) hk (besides_serviceLaneDown d s) (fun _ hk => linkKept_serviceLaneDown hk) h

theorem linksKept_execDiscreteReport {raw : Readings} (hk : LinksKept s s) (h : execDiscreteReport d raw s = .next t) :
    LinksKept s t :=
  linksKept_trigger (d := d) hk (besides_takeDiscretes d raw s) (fun _ hk => linkKept_onPort hk rfl rfl rfl rfl) h

theorem linksKept_execDebounceExpiry {x : Discrete} (hk : LinksKept s s) (h : execDebounceExpiry d x s = .next t) :
    LinksKept s t :=
  linksKept_trigger (d := d) hk (besides_debounceExpires d x s)
    (fun _ hk => linkKept_changeReading (linkKept_onPort hk rfl rfl rfl rfl)) h

theorem linksKept_execPresenceReport {present : BitVec 16} (hk : LinksKept s s)
    (h : execPresenceReport d present s = .next t) :
    LinksKept s t :=
  linksKept_trigger (d := d) hk (besides_setPresence d present s) (fun _ hk => linkKept_setPresence hk) h

theorem linksKept_execCommandFrameSend (hk : LinksKept s s) (h : execCommandFrameSend d s = .next t) :
    LinksKept s t :=
  linksKept_trigger (d := d) hk (besides_beginSend d s) (fun _ hk => linkKept_beginSend hk) h

theorem linksKept_execCommandFrameSent (hk : LinksKept s s) (h : execCommandFrameSent d s = .next t) :
    LinksKept s t := by
  refine linksKept_running hk ?_ h
  split
  · exact hk
  · exact linksKept_of_besides (besides_onPort d _ s) hk (linkKept_onPort (hk d) rfl rfl rfl rfl)

theorem linksKept_execRefreshExpiry (hk : LinksKept s s) (h : execRefreshExpiry d s = .next t) :
    LinksKept s t :=
  linksKept_trigger (d := d) hk (besides_refreshExpires d s) (fun _ hk => linkKept_onPort hk rfl rfl rfl rfl) h

theorem linksKept_execStandbyExpiry (hk : LinksKept s s) (h : execStandbyExpiry d s = .next t) :
    LinksKept s t :=
  linksKept_trigger (d := d) hk (besides_movePort d .service s) linkKept_standbyExpiry h

theorem linksKept_execArmReport (hk : LinksKept s s) (h : execArmReport d s = .next t) :
    LinksKept s t :=
  linksKept_trigger (d := d) hk (besides_testArmed d s) (fun _ hk => linkKept_onPort hk rfl rfl rfl rfl) h

theorem linksKept_execArmTimeout (hk : LinksKept s s) (h : execArmTimeout d s = .next t) :
    LinksKept s t := by
  refine linksKept_trigger (d := d) hk (besides_leaveTest d .armTimeout s) (fun hc hk => linkKept_leaveTest hk ?_) h
  simp only [Bool.and_eq_true, beq_iff_eq] at hc
  exact hc.1.1

theorem linksKept_execTestReport {errors : Byte} (hk : LinksKept s s) (h : execTestReport d errors s = .next t) :
    LinksKept s t :=
  linksKept_trigger (d := d) hk (besides_closeInterval d _ s) (fun _ hk => linkKept_closeInterval hk) h

theorem linksKept_execCheckerInterval {errors : Nat} (hk : LinksKept s s)
    (h : execCheckerInterval d errors s = .next t) :
    LinksKept s t :=
  linksKept_trigger (d := d) hk (besides_checkerCloses d errors s)
    (fun _ hk => linkKept_closeInterval (linkKept_onPort hk rfl rfl rfl rfl)) h

theorem linksKept_execProveTimeout (hk : LinksKept s s) (h : execProveTimeout d s = .next t) :
    LinksKept s t :=
  linksKept_trigger (d := d) hk (besides_cycleHalt d .airflow s) (fun _ hk => linkKept_cycleHalt hk) h

theorem linksKept_execAirTimeEnd (hk : LinksKept s s) (h : execAirTimeEnd d s = .next t) :
    LinksKept s t := by
  refine linksKept_trigger (d := d) hk (besides_enterTarget d s) (fun hc hk => linkKept_enterTarget hk ?_) h
  simp only [Bool.and_eq_true, beq_iff_eq] at hc
  rw [hc.1]; rfl

theorem linksKept_execDryingTimeLimit (hk : LinksKept s s) (h : execDryingTimeLimit d s = .next t) :
    LinksKept s t :=
  linksKept_trigger (d := d) hk (besides_startCooling d .timeLimit s)
    (fun hc hk => linkKept_startCooling hk (active_of_dryingUp hc)) h

theorem linksKept_execMinimumCoolTimeReached (hk : LinksKept s s) (h : execMinimumCoolTimeReached d s = .next t) :
    LinksKept s t :=
  linksKept_trigger (d := d) hk (by simp) (fun _ hk => linkKept_coolTest
    (s := s.onCycle d fun c => { c with minCoolPassed := true }) (linkKept_onCycle hk rfl)) h

theorem linksKept_execMaximumCoolTime (hk : LinksKept s s) (h : execMaximumCoolTime d s = .next t) :
    LinksKept s t :=
  linksKept_trigger (d := d) hk (besides_coolingEnds d s)
    (fun hc hk => linkKept_coolingEnds hk (active_of_coolingReached hc)) h

theorem linksKept_execGuardIntervalExpiry (hk : LinksKept s s) (h : execGuardIntervalExpiry d s = .next t) :
    LinksKept s t :=
  linksKept_trigger_links (d := d) hk (besides_guardIntervalEnds d s) (links_guardIntervalEnds d s) h

theorem linksKept_execGuardLimit (hk : LinksKept s s) (h : execGuardLimit d s = .next t) :
    LinksKept s t :=
  linksKept_trigger (d := d) hk (besides_enterDone d s) (fun _ hk => linkKept_enterDone hk.toStandbyReady) h

theorem linksKept_execFanOverrunExpiry (hk : LinksKept s s) (h : execFanOverrunExpiry d s = .next t) :
    LinksKept s t :=
  linksKept_trigger_links (d := d) hk (by simp) (by rw [links_writeFan]; exact links_onCycle rfl) h

theorem linksKept_execPauseLimitExpiry (hk : LinksKept s s) (h : execPauseLimitExpiry d s = .next t) :
    LinksKept s t :=
  linksKept_trigger (d := d) hk (besides_pauseLimitEnds d s) (fun _ hk => linkKept_pauseLimitEnds hk) h

theorem linksKept_execStatusWaitExpiry (hk : LinksKept s s) (h : execStatusWaitExpiry d s = .next t) :
    LinksKept s t :=
  linksKept_trigger_links (d := d) hk (besides_onTumble d _ s) (links_onTumble d _ s) h

theorem linksKept_execRunLengthEnd (hk : LinksKept s s) (h : execRunLengthEnd d s = .next t) :
    LinksKept s t :=
  linksKept_trigger_links (d := d) hk (besides_endNormalRun d s) (links_endNormalRun d s) h

theorem linksKept_execMaximumRunSeconds (hk : LinksKept s s) (h : execMaximumRunSeconds d s = .next t) :
    LinksKept s t :=
  linksKept_trigger_links (d := d) hk (besides_endNormalRun d s) (links_endNormalRun d s) h

theorem linksKept_execMinimumRunReached (hk : LinksKept s s) (h : execMinimumRunReached d s = .next t) :
    LinksKept s t :=
  linksKept_trigger_links (d := d) hk (besides_minimumRunReached d s) (links_minimumRunReached d s) h

theorem linksKept_execGuardTumbleEnd (hk : LinksKept s s) (h : execGuardTumbleEnd d s = .next t) :
    LinksKept s t :=
  linksKept_trigger_links (d := d) hk (besides_enterDecel d .stopped s) (links_enterDecel d .stopped s) h

theorem linksKept_execDecelTimeout (hk : LinksKept s s) (h : execDecelTimeout d s = .next t) :
    LinksKept s t :=
  linksKept_trigger (d := d) hk (besides_decelTimeout d s) (fun _ hk => linkKept_decelTimeout hk) h

theorem linksKept_execDwellExpiry (hk : LinksKept s s) (h : execDwellExpiry d s = .next t) :
    LinksKept s t :=
  linksKept_trigger_links (d := d) hk (besides_beginRun d s) (links_beginRun d s) h

theorem linksKept_execRecoverDelayExpiry (hk : LinksKept s s) (h : execRecoverDelayExpiry d s = .next t) :
    LinksKept s t :=
  linksKept_trigger_links (d := d) hk (besides_beginRun d s) (links_beginRun d s) h

theorem linksKept_execTrialExpiry (hk : LinksKept s s) (h : execTrialExpiry d s = .next t) :
    LinksKept s t :=
  linksKept_running hk (linksKept_onlyIf hk fun _ => linksKept_failedAttempt hk) h

theorem linksKept_execRetryDelayExpiry (hk : LinksKept s s) (h : execRetryDelayExpiry d s = .next t) :
    LinksKept s t :=
  linksKept_trigger_links (d := d) hk (besides_retryDelayEnds d s) (links_retryDelayEnds d s) h

theorem linksKept_execStableFlameExpiry (hk : LinksKept s s) (h : execStableFlameExpiry d s = .next t) :
    LinksKept s t :=
  linksKept_trigger_links (d := d) hk (besides_onBurner d _ s) (links_onBurner d _ s) h

theorem linksKept_execInletStarvationExpiry (hk : LinksKept s s) (h : execInletStarvationExpiry d s = .next t) :
    LinksKept s t :=
  linksKept_trigger_links (d := d) hk (by simp) (by simp) h

theorem linksKept_execHeatDemand (hk : LinksKept s s) (h : execHeatDemand d s = .next t) :
    LinksKept s t := by
  refine linksKept_running hk ?_ h
  split
  · exact hk
  · exact linksKept_of_links (fun e => links_takeDemand e d _ _) (linksKept_onFlight hk)

theorem linksKept_execEntryWaitExpiry (hk : LinksKept s s) (h : execEntryWaitExpiry d s = .next t) :
    LinksKept s t :=
  linksKept_running hk (linksKept_of_links (fun e => links_judgeWait e d s) hk) h

theorem linksKept_execExtraDryExpiry (hk : LinksKept s s) (h : execExtraDryExpiry d s = .next t) :
    LinksKept s t := by
  refine linksKept_trigger (d := d) hk (besides_extraDryEnds d s) (fun hc hk => linkKept_extraDryEnds hk ?_) h
  simp only [Bool.and_eq_true, beq_iff_eq] at hc
  rw [hc.1]; rfl

theorem linksKept_execSampleStarvationExpiry (hk : LinksKept s s) (h : execSampleStarvationExpiry d s = .next t) :
    LinksKept s t :=
  linksKept_trigger_links (d := d) hk (by simp) (by simp) h

theorem linksKept_execEventTaken {src : Block} (hk : LinksKept s s) (h : execEventTaken src s = .next t) :
    LinksKept s t := by
  refine linksKept_running hk ?_ h
  split
  · exact hk
  · exact linksKept_takeEvent (linksKept_onFlight hk)

theorem linksKept_execAttributeIncrement {src : Block} (hk : LinksKept s s)
    (h : execAttributeIncrement src s = .next t) :
    LinksKept s t := by
  refine linksKept_running hk ?_ h
  split
  · exact hk
  · exact linksKept_takeIncrement (linksKept_onFlight hk)

/-- Every command keeps the links and the standby timers, from a state that has them. -/
theorem linksKept_exec (c : Instr) (hk : LinksKept s s) (h : exec c s = .next t) : LinksKept s t := by
  cases c with
  | powerOnReset => exact linksKept_execPowerOnReset hk h
  | resetnAssert => exact linksKept_execResetnAssert hk h
  | resetnRelease => exact linksKept_execResetnRelease hk h
  | cabinetLock => exact linksKept_execCabinetLock hk h
  | cabinetLockLost => exact linksKept_execCabinetLockLost hk h
  | cabinetFrameReceived bytes => exact linksKept_execCabinetFrameReceived hk h
  | badRequest => exact linksKept_execBadRequest hk h
  | transmitChoice => exact linksKept_execTransmitChoice hk h
  | replyTransmitEnd => exact linksKept_execReplyTransmitEnd hk h
  | alertFrameEnd => exact linksKept_execAlertFrameEnd hk h
  | forwardRecordEnd => exact linksKept_execForwardRecordEnd hk h
  | configWriteHeatBudget => exact linksKept_execConfigWriteHeatBudget hk h
  | configWriteBypassLimit => exact linksKept_execConfigWriteBypassLimit hk h
  | configWriteHeatWaitLimit => exact linksKept_execConfigWriteHeatWaitLimit hk h
  | configWriteBucketSpread => exact linksKept_execConfigWriteBucketSpread hk h
  | configWriteSignatureSpread => exact linksKept_execConfigWriteSignatureSpread hk h
  | configWriteMissAction => exact linksKept_execConfigWriteMissAction hk h
  | drumConfigWrite => exact linksKept_execDrumConfigWrite hk h
  | profileWrite => exact linksKept_execProfileWrite hk h
  | routeWrite => exact linksKept_execRouteWrite hk h
  | classAdd => exact linksKept_execClassAdd hk h
  | classRemove => exact linksKept_execClassRemove hk h
  | classQuery => exact linksKept_execClassQuery hk h
  | classRead => exact linksKept_execClassRead hk h
  | cycleLoad => exact linksKept_execCycleLoad hk h
  | cycleUnload => exact linksKept_execCycleUnload hk h
  | cycleStart => exact linksKept_execCycleStart hk h
  | cyclePause => exact linksKept_execCyclePause hk h
  | cycleResume => exact linksKept_execCycleResume hk h
  | cycleEndHeat => exact linksKept_execCycleEndHeat hk h
  | cycleAbort => exact linksKept_execCycleAbort hk h
  | drumReset => exact linksKept_execDrumReset hk h
  | heatLockoutClear => exact linksKept_execHeatLockoutClear hk h
  | powerOff => exact linksKept_execPowerOff hk h
  | serviceOnly => exact linksKept_execServiceOnly hk h
  | bringUp => exact linksKept_execBringUp hk h
  | holdNodes => exact linksKept_execHoldNodes hk h
  | releaseNodes => exact linksKept_execReleaseNodes hk h
  | testSend => exact linksKept_execTestSend hk h
  | testReceive => exact linksKept_execTestReceive hk h
  | testEnd => exact linksKept_execTestEnd hk h
  | passThrough => exact linksKept_execPassThrough hk h
  | alertAck => exact linksKept_execAlertAck hk h
  | attrLoad => exact linksKept_execAttrLoad hk h
  | attrRead => exact linksKept_execAttrRead hk h
  | attrClear => exact linksKept_execAttrClear hk h
  | statusReadPart => exact linksKept_execStatusReadPart hk h
  | statusReadDrum => exact linksKept_execStatusReadDrum hk h
  | statusReadPort => exact linksKept_execStatusReadPort hk h
  | statusReadHeat => exact linksKept_execStatusReadHeat hk h
  | partReset => exact linksKept_execPartReset hk h
  | mainLaneLock d => exact linksKept_execMainLaneLock hk h
  | mainLaneLockLost d => exact linksKept_execMainLaneLockLost hk h
  | graceExpiry d => exact linksKept_execGraceExpiry hk h
  | mainLaneFrameReceived d bytes => exact linksKept_execMainLaneFrameReceived hk h
  | lookup d => exact linksKept_execLookup hk h
  | inletTempAbsorbed d => exact linksKept_execInletTempAbsorbed hk h
  | exhaustTempAbsorbed d => exact linksKept_execExhaustTempAbsorbed hk h
  | motorCurrentAbsorbed d => exact linksKept_execMotorCurrentAbsorbed hk h
  | wetCountAbsorbed d => exact linksKept_execWetCountAbsorbed hk h
  | driveStatAbsorbed d => exact linksKept_execDriveStatAbsorbed hk h
  | flameStatAbsorbed d => exact linksKept_execFlameStatAbsorbed hk h
  | serviceLaneLock d => exact linksKept_execServiceLaneLock hk h
  | serviceLaneLockLost d => exact linksKept_execServiceLaneLockLost hk h
  | discreteReport d raw => exact linksKept_execDiscreteReport hk h
  | debounceExpiry d x => exact linksKept_execDebounceExpiry hk h
  | presenceReport d present => exact linksKept_execPresenceReport hk h
  | commandFrameSend d => exact linksKept_execCommandFrameSend hk h
  | commandFrameSent d => exact linksKept_execCommandFrameSent hk h
  | refreshExpiry d => exact linksKept_execRefreshExpiry hk h
  | standbyExpiry d => exact linksKept_execStandbyExpiry hk h
  | armReport d => exact linksKept_execArmReport hk h
  | armTimeout d => exact linksKept_execArmTimeout hk h
  | testReport d errors => exact linksKept_execTestReport hk h
  | checkerInterval d errors => exact linksKept_execCheckerInterval hk h
  | proveTimeout d => exact linksKept_execProveTimeout hk h
  | airTimeEnd d => exact linksKept_execAirTimeEnd hk h
  | dryingTimeLimit d => exact linksKept_execDryingTimeLimit hk h
  | minimumCoolTimeReached d => exact linksKept_execMinimumCoolTimeReached hk h
  | maximumCoolTime d => exact linksKept_execMaximumCoolTime hk h
  | guardIntervalExpiry d => exact linksKept_execGuardIntervalExpiry hk h
  | guardLimit d => exact linksKept_execGuardLimit hk h
  | fanOverrunExpiry d => exact linksKept_execFanOverrunExpiry hk h
  | pauseLimitExpiry d => exact linksKept_execPauseLimitExpiry hk h
  | statusWaitExpiry d => exact linksKept_execStatusWaitExpiry hk h
  | runLengthEnd d => exact linksKept_execRunLengthEnd hk h
  | maximumRunSeconds d => exact linksKept_execMaximumRunSeconds hk h
  | minimumRunReached d => exact linksKept_execMinimumRunReached hk h
  | guardTumbleEnd d => exact linksKept_execGuardTumbleEnd hk h
  | decelTimeout d => exact linksKept_execDecelTimeout hk h
  | dwellExpiry d => exact linksKept_execDwellExpiry hk h
  | recoverDelayExpiry d => exact linksKept_execRecoverDelayExpiry hk h
  | trialExpiry d => exact linksKept_execTrialExpiry hk h
  | retryDelayExpiry d => exact linksKept_execRetryDelayExpiry hk h
  | stableFlameExpiry d => exact linksKept_execStableFlameExpiry hk h
  | inletStarvationExpiry d => exact linksKept_execInletStarvationExpiry hk h
  | heatDemand d => exact linksKept_execHeatDemand hk h
  | entryWaitExpiry d => exact linksKept_execEntryWaitExpiry hk h
  | extraDryExpiry d => exact linksKept_execExtraDryExpiry hk h
  | sampleStarvationExpiry d => exact linksKept_execSampleStarvationExpiry hk h
  | eventTaken src => exact linksKept_execEventTaken hk h
  | attributeIncrement src => exact linksKept_execAttributeIncrement hk h

/-! ### Steps -/

theorem linksKept_self (ha : ActiveCyclesHaveLinks s) (hf : StandbyTimersFollow s) : LinksKept s s :=
  fun d => linkKept_refl (ha d) (hf d)

/-- One millisecond of a drum: the standby timer falls, everything it hangs on stands (log 2). -/
theorem drum_tick (s : State) (d : Drum) : (tick s).drum d = if s.resetHeld then s.drum d else (s.drum d).tick := by
  unfold tick State.drum
  split
  · rfl
  · match d with
    | 0 | 1 | 2 | 3 => rfl

theorem standbyRuns_tick (D : DrumState) : D.tick.standbyRuns = D.standbyRuns := rfl

theorem standby_tick (D : DrumState) : D.tick.port.standby = D.port.standby.map fun ms => ms - 1 := rfl

theorem link_tick {D : DrumState} (h : D.cycle.state.active = true → D.linked) :
    D.tick.cycle.state.active = true → D.tick.linked := by
  refine fun ha => (h ha).imp id fun hseek => ⟨hseek.1, ?_⟩
  have hg : D.tick.port.grace = D.port.grace.map fun ms => ms - 1 := rfl
  rw [hg]
  exact fun hn => hseek.2 (Option.map_eq_none_iff.mp hn)

theorem follows_tick {D : DrumState} (h : D.port.standby.isSome = D.standbyRuns) :
    D.tick.port.standby.isSome = D.tick.standbyRuns := by
  rw [standbyRuns_tick, standby_tick, Option.isSome_map, h]

/-- A millisecond in a drum whose timer runs: it ran before, no discrete changed, and the timer falls (log 2). -/
theorem standby_of_tick {D : DrumState} (hruns : D.tick.standbyRuns = true) :
    (D.standbyRuns = false ∨ D.tick.port.readings ≠ D.port.readings →
      D.tick.port.standby = some D.tick.fullStandby) ∧
    (D.tick.port.standby = D.port.standby.map fun ms => ms - 1) := by
  refine ⟨fun h => ?_, standby_tick D⟩
  rcases h with h | h
  · rw [standbyRuns_tick] at hruns
    exact absurd hruns (by simp [h])
  · exact absurd rfl h

/-- What a command that keeps its links says of the timer of a drum in which it runs. -/
theorem standby_of_linkKept {D₀ D : DrumState} (hf : D₀.port.standby.isSome = D₀.standbyRuns) (hk : D₀.LinkKept D)
    (hruns : D.standbyRuns = true) :
    (D₀.standbyRuns = false ∨ D.port.readings ≠ D₀.port.readings → D.port.standby = some D.fullStandby) ∧
    (D.port.standby = some D.fullStandby ∨ D.port.standby = D₀.port.standby) := by
  obtain ⟨⟨hstands, hreloaded⟩, -, hfollows⟩ := hk
  have hsome : D.port.standby ≠ none := by
    rw [hruns] at hfollows; exact Option.isSome_iff_ne_none.mp hfollows
  have hst := hstands.resolve_left hsome
  refine ⟨fun h => ?_, hst⟩
  rcases h with h | h
  · refine hst.resolve_right fun hsame => hsome ?_
    rw [h] at hf
    rw [hsame]; simpa using hf
  · exact (hreloaded h).resolve_left hsome

/-- Settles O60: a command keeps every drum's link and standby timer, and so does a millisecond, in which the timer may
fall. -/
theorem activeCyclesKeepTheirLinks : Obligations.ActiveCyclesKeepTheirLinks := by
  intro s t ha hf hstep
  unfold step at hstep
  split at hstep
  next hp =>
    cases hstep
    by_cases hheld : s.resetHeld = true
    · have hself : LinksKept s s := linksKept_self ha hf
      have hdrum : tick s = s := by unfold tick; rw [if_pos hheld]
      rw [hdrum]
      refine ⟨ha, hf, fun d hruns => ?_⟩
      obtain ⟨hfull, hstands⟩ := standby_of_linkKept (hf d) (hself d) hruns
      exact ⟨hfull, hstands.imp_right .inl⟩
    · have hdrum (d : Drum) : (tick s).drum d = (s.drum d).tick := by rw [drum_tick, if_neg hheld]
      refine ⟨fun d => ?_, fun d => ?_, fun d hruns => ?_⟩
      · rw [hdrum]; exact link_tick (ha d)
      · rw [hdrum]; exact follows_tick (hf d)
      · rw [hdrum] at hruns ⊢
        obtain ⟨hfull, hfalls⟩ := standby_of_tick hruns
        exact ⟨hfull, .inr (.inr ⟨hp, hfalls⟩)⟩
  next c rest hp =>
    have hk : LinksKept s t :=
      linksKept_exec c (s := { s with pending := rest }) (linksKept_self ha hf) hstep
    refine ⟨fun d => (hk d).link, fun d => (hk d).follows, fun d hruns => ?_⟩
    obtain ⟨hfull, hstands⟩ := standby_of_linkKept (hf d) (hk d) hruns
    exact ⟨hfull, hstands.imp_right .inl⟩

end

end Sys2Proof.Machine
end

section
/-! The requests: which command serves which requests and how, and what every owner's answer leaves alone (R51, R52); settles
O9. -/

namespace Sys2Proof.Machine

/-! ### The owners -/

/-- What a request command serves, and how. -/
structure Owner where
  mine : Request → Bool
  serves : Request → State → Answer

/-- The owner behind each request command; the other commands have none. -/
def ownerOf : Instr → Option Owner
  | .badRequest => some ⟨fun r => !r.valid, fun _ => refuse .badRequest⟩
  | .configWriteHeatBudget => some ⟨isItem 1, serveItem writeBudget⟩
  | .configWriteBypassLimit => some ⟨isItem 2, serveItem writeBypass⟩
  | .configWriteHeatWaitLimit => some ⟨isItem 3, serveItem writeWaitLimit⟩
  | .configWriteBucketSpread => some ⟨isItem 4, serveItem writeBucketSpread⟩
  | .configWriteSignatureSpread => some ⟨isItem 5, serveItem writeSignatureSpread⟩
  | .configWriteMissAction => some ⟨isItem 6, fun r => serveItem (fun _ => writeMissAction r) r⟩
  | .drumConfigWrite => some ⟨isCode 2, writeDrumConfig⟩
  | .profileWrite => some ⟨isCode 3, writeProfile⟩
  | .routeWrite => some ⟨isCode 4, writeRoute⟩
  | .classAdd => some ⟨isCode 5, addEntry⟩
  | .classRemove => some ⟨isCode 6, removeEntry⟩
  | .classQuery => some ⟨isCode 7, queryTuple⟩
  | .classRead => some ⟨isCode 8, readEntries⟩
  | .cycleLoad => some ⟨isCode 9, cycleLoad⟩
  | .cycleUnload => some ⟨isCode 10, cycleUnload⟩
  | .cycleStart => some ⟨isCode 11, cycleStart⟩
  | .cyclePause => some ⟨isCode 12, cyclePause⟩
  | .cycleResume => some ⟨isCode 13, cycleResume⟩
  | .cycleEndHeat => some ⟨isCode 14, cycleEndHeat⟩
  | .cycleAbort => some ⟨isCode 15, cycleAbort⟩
  | .drumReset => some ⟨isCode 16, onDrumArg fun d s => ok (resetDrum d s)⟩
  | .heatLockoutClear =>
    some ⟨isCode 17, onDrumArg fun d s => if (s.drum d).burner.lockout.isSome then ok (clearLockout d s) else refuse .state s⟩
  | .powerOff =>
    some ⟨isPortAction 0, onPortArg fun d s => if (s.drum d).canRest then ok (powerOff d s) else refuse .busy s⟩
  | .serviceOnly =>
    some ⟨isPortAction 1, onPortArg fun d s => if (s.drum d).canRest then ok (serviceOnly d s) else refuse .busy s⟩
  | .bringUp => some ⟨isPortAction 2, onPortArg bringUp⟩
  | .holdNodes => some ⟨isPortAction 3, onPortArg holdNodes⟩
  | .releaseNodes => some ⟨isPortAction 4, onPortArg releaseNodes⟩
  | .testSend => some ⟨isPortAction 5, testRequest .send⟩
  | .testReceive => some ⟨isPortAction 6, testRequest .receive⟩
  | .testEnd => some ⟨isPortAction 7, onPortArg fun d s => ok (endTest d s)⟩
  | .passThrough => some ⟨isCode 19, passThrough⟩
  | .alertAck => some ⟨isCode 20, alertAck⟩
  | .attrLoad => some ⟨isCode 21, attrLoad⟩
  | .attrRead => some ⟨isCode 22, attrRead⟩
  | .attrClear => some ⟨isCode 23, attrClear⟩
  | .statusReadPart => some ⟨isScope 0, onScopePart partReport⟩
  | .statusReadDrum => some ⟨isScope 1, onScopeDrum drumReport⟩
  | .statusReadPort => some ⟨isScope 2, onScopeDrum portReport⟩
  | .statusReadHeat => some ⟨isScope 3, onScopePart heatReport⟩
  | .partReset => some ⟨isCode 25, fun _ => ok⟩
  | _ => none

/-- The request commands are those with an owner. -/
theorem owned_of_mem {c : Instr} (hc : c ∈ requestCommands) : ∃ o, ownerOf c = some o := by
  have hall : ∀ c ∈ requestCommands, (ownerOf c).isSome = true := by decide
  exact Option.isSome_iff_exists.mp (hall c hc)

theorem exec_of_owner {c : Instr} {o : Owner} (h : ownerOf c = some o) (s : State) :
    exec c s = running (serve o.mine o.serves) s := by
  cases c <;> cases h <;> rfl

section
variable {s : State} {r : Request} {rest : List Request} {c : Instr} {o : Owner}

theorem exec_offered (hc : ownerOf c = some o) (ho : s.offers r rest) (hm : o.mine r = true) :
    exec c s = .next (answer r rest (o.serves r) s) := by
  rw [exec_of_owner hc, running_released _ ho.1, serve_offered _ ho hm]

theorem exec_not_mine (hc : ownerOf c = some o) (ho : s.offers r rest) (hm : o.mine r = false) : exec c s = .next s := by
  rw [exec_of_owner hc, running_released _ ho.1, serve_other _ ho.2.1 hm]

/-- A request that its owner refuses (R52). -/
theorem exec_refused {st : Status} (hc : ownerOf c = some o) (ho : s.offers r rest) (hm : o.mine r = true)
    (hr : o.serves r (s.taken rest) = refuse st (s.taken rest)) : exec c s = .next (s.answered r rest st []) := by
  rw [exec_offered hc ho hm, answer_of_cabinet _ (by rw [hr]; rfl), hr]
  rfl

/-- A request that its owner answers by reading alone. -/
theorem exec_read {data : List Byte} (hc : ownerOf c = some o) (ho : s.offers r rest) (hm : o.mine r = true)
    (hr : o.serves r (s.taken rest) = ⟨s.taken rest, .ok, data⟩) : exec c s = .next (s.answered r rest .ok data) := by
  rw [exec_offered hc ho hm, answer_of_cabinet _ (by rw [hr]), hr]
  rfl

/-- A request that its owner answers OK with its work done, the cabinet record untouched. -/
theorem exec_done {f : State → State} (hc : ownerOf c = some o) (ho : s.offers r rest) (hm : o.mine r = true)
    (hr : o.serves r (s.taken rest) = ok (f (s.taken rest))) (hf : (f (s.taken rest)).cabinet = (s.taken rest).cabinet) :
    exec c s = .next (((f (s.taken rest)).onCabinet fun _ => s.cabinet).answered r rest .ok []) := by
  rw [exec_offered hc ho hm, answer_of_cabinet _ (by rw [hr]; exact hf), hr]
  rfl

/-- A request that names no drum reloads no standby timer. -/
theorem answered_of_names_none {st : Status} {data : List Byte} (h : r.names = none) :
    s.answered r rest st data = { s with cabinet := s.replied r rest st data } := by
  unfold State.answered State.named
  rw [h]
  split
  next hd => simp at hd
  next => rfl

theorem answered_of_invalid {st : Status} {data : List Byte} (h : r.valid = false) :
    s.answered r rest st data = { s with cabinet := s.replied r rest st data } := by
  unfold State.answered State.named
  rw [h]
  rfl

end

/-! ### What an answer may do -/

/-- An owner's answer leaves the cabinet record alone, and is a plain refusal unless it is OK (R52). -/
structure Answer.Proper (u : State) (a : Answer) : Prop where
  cabinet : a.state.cabinet = u.cabinet
  refused : a.status ≠ .ok → a = refuse a.status u

section
variable {u v : State} {r : Request} {d : Drum}

theorem proper_refuse (st : Status) : (refuse st u).Proper u := ⟨rfl, fun _ => rfl⟩

theorem proper_data {data : List Byte} (h : v.cabinet = u.cabinet) : (⟨v, .ok, data⟩ : Answer).Proper u :=
  ⟨h, fun hst => absurd rfl hst⟩

theorem proper_ok (h : v.cabinet = u.cabinet) : (ok v).Proper u := proper_data h

theorem proper_ok_of_besides (h : v.besides d = u.besides d) : (ok v).Proper u := proper_ok (cabinet_of_besides h)

theorem proper_check {c : Prop} [Decidable c] {st : Status} {a : Answer} (h : ¬c → a.Proper u) :
    (if c then refuse st u else a).Proper u := by
  split
  · exact proper_refuse st
  next hc => exact h hc

theorem proper_admit {c : Prop} [Decidable c] {st : Status} {a : Answer} (h : c → a.Proper u) :
    (if c then a else refuse st u).Proper u := by
  split
  next hc => exact h hc
  · exact proper_refuse st

theorem proper_onDrumArg {h : Drum → State → Answer} (hh : ∀ d, (h d u).Proper u) : (onDrumArg h r u).Proper u := by
  unfold onDrumArg
  split
  · exact hh _
  · exact proper_refuse _

theorem proper_onPortArg {h : Drum → State → Answer} (hh : ∀ d, (h d u).Proper u) : (onPortArg h r u).Proper u := by
  unfold onPortArg
  split
  · exact proper_check fun _ => hh _
  · exact proper_refuse _

theorem proper_serveItem {w : Nat → State → Answer} (hw : ∀ v, (w v u).Proper u) : (serveItem w r u).Proper u :=
  proper_admit fun _ => hw _

theorem proper_onScopePart {report : State → List Byte} : (onScopePart report r u).Proper u :=
  proper_check fun _ => proper_data rfl

theorem proper_onScopeDrum {report : Drum → State → List Byte} : (onScopeDrum report r u).Proper u := by
  unfold onScopeDrum
  split
  · exact proper_check fun _ => proper_data rfl
  · exact proper_refuse _

/-! ### The owners' answers -/

theorem cabinet_setWaitLimit (n : Nat) (s : State) : (setWaitLimit n s).cabinet = s.cabinet := by
  unfold setWaitLimit
  split
  · rfl
  · exact List.foldlRecOn (motive := fun t : State => t.cabinet = s.cabinet) _ _ rfl fun t ht d _ => by
      rw [cabinet_of_around (around_judgeWait d t), ht]

theorem cabinet_replaceConfig (d : Drum) (c : DrumConfig) (s : State) : (replaceConfig d c s).cabinet = s.cabinet := by
  have settle (t : State) : (settleStandby d t).cabinet = t.cabinet := cabinet_of_besides (besides_settleStandby d t)
  have fan (b : Bool) (t : State) : (writeFan d b t).cabinet = t.cabinet := cabinet_of_besides (besides_writeFan d b t)
  have drive (v : DriveCmd) (t : State) : (writeDrive d v t).cabinet = t.cabinet :=
    cabinet_of_besides (besides_writeDrive d v t)
  unfold replaceConfig
  dsimp only
  rw [settle]
  split
  · rw [fan, drive]; rfl
  · rfl

theorem cabinet_cross (d : Drum) (a : Fin 8) (s : State) : (cross d a s).cabinet = s.cabinet := by
  unfold cross
  dsimp only
  split
  · rfl
  · rw [cabinet_of_around (around_lockOut d _ _)]; rfl
  · rfl

theorem cabinet_evaluate (order : List (Drum × Fin 8)) (s : State) : (evaluate order s).1.cabinet = s.cabinet :=
  List.foldlRecOn (motive := fun p : State × Nat => p.1.cabinet = s.cabinet) order _ rfl fun p hp r _ => by
    split
    · exact (cabinet_cross r.1 r.2 p.1).trans hp
    · exact hp

theorem cabinet_resetDrum (d : Drum) (s : State) : (resetDrum d s).cabinet = s.cabinet := by
  have release (t : State) : (releaseDrum d t).cabinet = t.cabinet := cabinet_of_around (around_releaseDrum d t)
  have dry (t : State) : (drynessReset d t).cabinet = t.cabinet := cabinet_of_besides (besides_drynessReset d t)
  have cycle (n : CycleState) (f : Cycle → Cycle) (t : State) : (setCycle d n f t).cabinet = t.cabinet :=
    cabinet_of_besides (besides_setCycle d n f t)
  have tumble (t : State) : (tumbleReset d t).cabinet = t.cabinet := cabinet_of_besides (besides_tumbleReset d t)
  have burner (t : State) : (burnerReset d t).cabinet = t.cabinet := cabinet_of_besides (besides_burnerReset d t)
  unfold resetDrum
  dsimp only
  unfold purgeAlerts
  rw [cabinet_onRouter, release, cabinet_onFlight, dry, cycle, tumble, burner]

theorem proper_writeMissAction : (writeMissAction r u).Proper u := by
  unfold writeMissAction
  split
  · exact proper_ok rfl
  · exact proper_refuse _

theorem proper_writeDrumConfig : (writeDrumConfig r u).Proper u := by
  refine proper_onDrumArg fun d => ?_
  split
  · exact proper_refuse _
  · exact proper_admit fun _ => proper_ok (cabinet_replaceConfig d _ u)

theorem proper_writeProfile : (writeProfile r u).Proper u := by
  unfold writeProfile
  split
  · split
    · exact proper_ok rfl
    · exact proper_refuse _
  · exact proper_refuse _

theorem proper_writeRoute : (writeRoute r u).Proper u := by
  unfold writeRoute
  split
  · exact proper_ok rfl
  · exact proper_refuse _

theorem proper_addEntry : (addEntry r u).Proper u := by
  unfold addEntry
  split
  · exact proper_refuse _
  · exact proper_check fun _ => proper_check fun _ => proper_check fun _ => proper_data rfl

theorem proper_removeEntry : (removeEntry r u).Proper u := by
  unfold removeEntry
  refine proper_check fun _ => ?_
  split
  · exact proper_refuse _
  · exact proper_check fun _ => proper_data rfl

theorem proper_queryTuple : (queryTuple r u).Proper u := by
  unfold queryTuple
  split
  · exact proper_refuse _
  · exact proper_data rfl

theorem proper_readEntries : (readEntries r u).Proper u :=
  proper_check fun _ => proper_data rfl

theorem proper_cycleLoad : (cycleLoad r u).Proper u := by
  refine proper_onDrumArg fun d => ?_
  split
  · exact proper_refuse _
  · exact proper_check fun _ => proper_check fun _ => proper_check fun _ => proper_check fun _ =>
      proper_ok_of_besides (besides_loadCycle d _ u)

theorem proper_cycleUnload : (cycleUnload r u).Proper u :=
  proper_onDrumArg fun d => proper_admit fun _ => proper_ok_of_besides (besides_enterVacant d u)

theorem proper_cycleStart : (cycleStart r u).Proper u :=
  proper_onDrumArg fun d => proper_check fun _ => proper_check fun _ => proper_check fun _ => proper_check fun _ =>
    proper_check fun _ => proper_check fun _ => proper_ok_of_besides (besides_startCycle d u)

theorem proper_cyclePause : (cyclePause r u).Proper u := by
  refine proper_onDrumArg fun d => ?_
  have hp : (ok (pauseOrJoin d .request u)).Proper u := proper_ok_of_besides (besides_pauseOrJoin d _ u)
  split <;> first | exact hp | exact proper_refuse _

theorem proper_cycleResume : (cycleResume r u).Proper u :=
  proper_onDrumArg fun d => proper_check fun _ => proper_check fun _ => proper_ok_of_besides (besides_resumeCycle d u)

theorem proper_cycleEndHeat : (cycleEndHeat r u).Proper u := by
  refine proper_onDrumArg fun d => ?_
  have hp : (ok (heatEnd d .endHeat u)).Proper u := proper_ok_of_besides (besides_heatEnd d _ u)
  split <;> first | exact hp | exact proper_refuse _

theorem proper_cycleAbort : (cycleAbort r u).Proper u :=
  proper_onDrumArg fun d => proper_check fun _ => proper_ok_of_besides (besides_abortCycle d u)

theorem proper_bringUp : (bringUp d u).Proper u := by
  have hp : (ok (setPortState d .seek u)).Proper u := proper_ok_of_besides (besides_setPortState d _ u)
  unfold bringUp
  split
  case h_1 | h_2 => exact hp
  case h_3 | h_4 => exact proper_ok rfl
  case h_5 => exact proper_refuse _

theorem proper_holdNodes : (holdNodes d u).Proper u := by
  refine proper_admit fun _ => proper_ok ?_
  split
  · rfl
  · exact cabinet_of_besides (besides_setHold d u)

theorem proper_releaseNodes : (releaseNodes d u).Proper u := by
  refine proper_ok ?_
  split
  · exact cabinet_of_besides (besides_clearHold d u)
  · rfl

theorem proper_testRequest {dir : TestDirection} : (testRequest dir r u).Proper u := by
  refine proper_onPortArg fun d => ?_
  split
  · exact proper_refuse _
  · exact proper_admit fun _ => proper_ok_of_besides (besides_startTest d dir _ u)

theorem proper_passDrive {f : PassFrame} : (passDrive d f u).Proper u := by
  unfold passDrive
  split
  · exact proper_refuse _
  · exact proper_check fun _ => proper_admit fun _ => proper_ok_of_besides (besides_writeDrive d _ u)

theorem proper_passFan {f : PassFrame} : (passFan d f u).Proper u := by
  unfold passFan
  split
  · exact proper_refuse _
  · exact proper_admit fun _ => proper_ok_of_besides (besides_writeFan d _ u)

theorem proper_gate {f : PassFrame} : (gate d f u).Proper u := by
  unfold gate
  split
  · split
    · exact proper_refuse _
    · split
      · exact proper_passDrive
      · exact proper_admit fun _ => proper_passFan
  · exact proper_check fun _ => proper_ok rfl

theorem proper_passThrough : (passThrough r u).Proper u :=
  proper_onDrumArg fun _ => proper_check fun _ => proper_check fun _ => proper_gate

theorem proper_alertAck : (alertAck r u).Proper u := by
  unfold alertAck ackAlert
  split
  · split
    · exact proper_refuse _
    · split
      · exact proper_data rfl
      · exact proper_data rfl
  · exact proper_refuse _

theorem proper_loadTable {tab : Vector Threshold 8} : (loadTable tab u).Proper u := by
  unfold loadTable
  generalize attrOrder = order
  exact proper_data (cabinet_evaluate order _)

theorem proper_attrLoad : (attrLoad r u).Proper u := by
  unfold attrLoad
  refine proper_check fun _ => proper_check fun _ => ?_
  split
  · exact proper_refuse _
  · exact proper_loadTable

theorem proper_attrRead : (attrRead r u).Proper u := proper_onDrumArg fun _ => proper_data rfl

theorem proper_attrClear : (attrClear r u).Proper u := by
  refine proper_onDrumArg fun d => ?_
  split
  · exact proper_ok rfl
  · exact proper_admit fun _ => proper_ok rfl

end

theorem proper_drumReset {r : Request} {u : State} : (onDrumArg (fun d s => ok (resetDrum d s)) r u).Proper u :=
  proper_onDrumArg fun d => proper_ok (cabinet_resetDrum d u)

theorem proper_lockoutClear {r : Request} {u : State} :
    (onDrumArg (fun d s => if (s.drum d).burner.lockout.isSome then ok (clearLockout d s) else refuse .state s) r u).Proper
      u := by
  refine proper_onDrumArg fun d => proper_admit fun _ => ?_
  exact proper_ok_of_besides (besides_clearLockout d u)

/-- A PORT_CONTROL that does an operation on its drum where a condition on the drum admits it. -/
theorem proper_portWork {r : Request} {u : State} {c : DrumState → Bool} {op : Drum → State → State}
    (hop : ∀ d, (op d u).besides d = u.besides d) :
    (onPortArg (fun d s => if c (s.drum d) then ok (op d s) else refuse .busy s) r u).Proper u := by
  refine proper_onPortArg fun d => proper_admit fun _ => ?_
  exact proper_ok_of_besides (hop d)

theorem proper_testEnd {r : Request} {u : State} : (onPortArg (fun d s => ok (endTest d s)) r u).Proper u := by
  refine proper_onPortArg fun d => ?_
  exact proper_ok_of_besides (besides_endTest d u)

/-- Every owner's answer is proper. -/
theorem proper_owner {c : Instr} {o : Owner} (hc : ownerOf c = some o) (r : Request) (u : State) :
    (o.serves r u).Proper u := by
  cases c <;> cases hc
  case badRequest => exact proper_refuse _
  case configWriteHeatBudget =>
    exact proper_serveItem fun v => proper_check fun _ => proper_ok (cabinet_of_around (around_setBudget v u))
  case configWriteBypassLimit =>
    exact proper_serveItem fun v => proper_check fun _ => proper_ok (cabinet_of_around (around_grantAttempt _))
  case configWriteHeatWaitLimit =>
    exact proper_serveItem fun v => proper_check fun _ => proper_ok (cabinet_setWaitLimit v u)
  case configWriteBucketSpread => exact proper_serveItem fun v => proper_admit fun _ => proper_ok rfl
  case configWriteSignatureSpread => exact proper_serveItem fun v => proper_admit fun _ => proper_ok rfl
  case configWriteMissAction => exact proper_serveItem fun _ => proper_writeMissAction
  case drumConfigWrite => exact proper_writeDrumConfig
  case profileWrite => exact proper_writeProfile
  case routeWrite => exact proper_writeRoute
  case classAdd => exact proper_addEntry
  case classRemove => exact proper_removeEntry
  case classQuery => exact proper_queryTuple
  case classRead => exact proper_readEntries
  case cycleLoad => exact proper_cycleLoad
  case cycleUnload => exact proper_cycleUnload
  case cycleStart => exact proper_cycleStart
  case cyclePause => exact proper_cyclePause
  case cycleResume => exact proper_cycleResume
  case cycleEndHeat => exact proper_cycleEndHeat
  case cycleAbort => exact proper_cycleAbort
  case drumReset => exact proper_drumReset
  case heatLockoutClear => exact proper_lockoutClear
  case powerOff => exact proper_portWork fun d => besides_powerOff d u
  case serviceOnly => exact proper_portWork fun d => besides_serviceOnly d u
  case bringUp => exact proper_onPortArg fun _ => proper_bringUp
  case holdNodes => exact proper_onPortArg fun _ => proper_holdNodes
  case releaseNodes => exact proper_onPortArg fun _ => proper_releaseNodes
  case testSend | testReceive => exact proper_testRequest
  case testEnd => exact proper_testEnd
  case passThrough => exact proper_passThrough
  case alertAck => exact proper_alertAck
  case attrLoad => exact proper_attrLoad
  case attrRead => exact proper_attrRead
  case attrClear => exact proper_attrClear
  case statusReadPart | statusReadHeat => exact proper_onScopePart
  case statusReadDrum | statusReadPort => exact proper_onScopeDrum
  case partReset => exact proper_ok rfl

/-! ### Every request has an owner -/

theorem cabinet_answered {t s : State} {r : Request} {rest : List Request} {st : Status} {data : List Byte}
    (h : t.cabinet = s.cabinet) : (t.answered r rest st data).cabinet = s.replied r rest st data := by
  simp only [State.answered, State.replied, h]

/-- What serving an offered request comes to, for its owner. -/
theorem exec_answered {s : State} {r : Request} {rest : List Request} {c : Instr} {o : Owner} (hc : ownerOf c = some o)
    (ho : s.offers r rest) (hm : o.mine r = true) :
    ∃ t st data, exec c s = .next t ∧ t.cabinet = s.replied r rest st data ∧
      (st ≠ .ok → data = [] ∧ t = s.answered r rest st []) := by
  obtain ⟨hcab, href⟩ := proper_owner hc r (s.taken rest)
  refine ⟨_, (o.serves r (s.taken rest)).status, (o.serves r (s.taken rest)).data, exec_offered hc ho hm, ?_, fun hst => ?_⟩
  · rw [answer_of_cabinet (o.serves r) hcab]
    exact cabinet_answered rfl
  · have hplain := href hst
    refine ⟨by rw [hplain]; rfl, ?_⟩
    rw [answer_of_cabinet (o.serves r) hcab, hplain]
    rfl

theorem mem_of_owner {c : Instr} {o : Owner} (h : ownerOf c = some o) : c ∈ requestCommands := by
  cases c <;> cases h <;> simp [requestCommands]

theorem exists_owner_of_item {i : Nat} (h : i ∈ [1, 2, 3, 4, 5, 6]) : ∃ c o, ownerOf c = some o ∧ o.mine = isItem i := by
  simp only [List.mem_cons, List.not_mem_nil, or_false] at h
  rcases h with rfl | rfl | rfl | rfl | rfl | rfl
  exacts [⟨.configWriteHeatBudget, _, rfl, rfl⟩, ⟨.configWriteBypassLimit, _, rfl, rfl⟩,
    ⟨.configWriteHeatWaitLimit, _, rfl, rfl⟩, ⟨.configWriteBucketSpread, _, rfl, rfl⟩,
    ⟨.configWriteSignatureSpread, _, rfl, rfl⟩, ⟨.configWriteMissAction, _, rfl, rfl⟩]

theorem exists_owner_of_action {a : Nat} (h : a ∈ [0, 1, 2, 3, 4, 5, 6, 7]) :
    ∃ c o, ownerOf c = some o ∧ o.mine = isPortAction a := by
  simp only [List.mem_cons, List.not_mem_nil, or_false] at h
  rcases h with rfl | rfl | rfl | rfl | rfl | rfl | rfl | rfl
  exacts [⟨.powerOff, _, rfl, rfl⟩, ⟨.serviceOnly, _, rfl, rfl⟩, ⟨.bringUp, _, rfl, rfl⟩, ⟨.holdNodes, _, rfl, rfl⟩,
    ⟨.releaseNodes, _, rfl, rfl⟩, ⟨.testSend, _, rfl, rfl⟩, ⟨.testReceive, _, rfl, rfl⟩, ⟨.testEnd, _, rfl, rfl⟩]

theorem exists_owner_of_scope {x : Nat} (h : x ∈ [0, 1, 2, 3]) : ∃ c o, ownerOf c = some o ∧ o.mine = isScope x := by
  simp only [List.mem_cons, List.not_mem_nil, or_false] at h
  rcases h with rfl | rfl | rfl | rfl
  exacts [⟨.statusReadPart, _, rfl, rfl⟩, ⟨.statusReadDrum, _, rfl, rfl⟩, ⟨.statusReadPort, _, rfl, rfl⟩,
    ⟨.statusReadHeat, _, rfl, rfl⟩]

theorem exists_owner_of_code {n : Nat}
    (h : n ∈ [2, 3, 4, 5, 6, 7, 8, 9, 10, 11, 12, 13, 14, 15, 16, 17, 19, 20, 21, 22, 23, 25]) :
    ∃ c o, ownerOf c = some o ∧ o.mine = isCode n := by
  simp only [List.mem_cons, List.not_mem_nil, or_false] at h
  rcases h with rfl | rfl | rfl | rfl | rfl | rfl | rfl | rfl | rfl | rfl | rfl | rfl | rfl | rfl | rfl | rfl | rfl | rfl |
    rfl | rfl | rfl | rfl
  exacts [⟨.drumConfigWrite, _, rfl, rfl⟩, ⟨.profileWrite, _, rfl, rfl⟩, ⟨.routeWrite, _, rfl, rfl⟩,
    ⟨.classAdd, _, rfl, rfl⟩, ⟨.classRemove, _, rfl, rfl⟩, ⟨.classQuery, _, rfl, rfl⟩, ⟨.classRead, _, rfl, rfl⟩,
    ⟨.cycleLoad, _, rfl, rfl⟩, ⟨.cycleUnload, _, rfl, rfl⟩, ⟨.cycleStart, _, rfl, rfl⟩, ⟨.cyclePause, _, rfl, rfl⟩,
    ⟨.cycleResume, _, rfl, rfl⟩, ⟨.cycleEndHeat, _, rfl, rfl⟩, ⟨.cycleAbort, _, rfl, rfl⟩, ⟨.drumReset, _, rfl, rfl⟩,
    ⟨.heatLockoutClear, _, rfl, rfl⟩, ⟨.passThrough, _, rfl, rfl⟩, ⟨.alertAck, _, rfl, rfl⟩, ⟨.attrLoad, _, rfl, rfl⟩,
    ⟨.attrRead, _, rfl, rfl⟩, ⟨.attrClear, _, rfl, rfl⟩, ⟨.partReset, _, rfl, rfl⟩]

theorem isCode_of_valid {r : Request} {n : Nat} (hv : r.valid = true) (hn : r.code.toNat = n) : isCode n r = true := by
  simp [isCode, hv, hn]

/-- Among the values a byte may name, one is the byte's own, or the byte names none and any will do (log 4). -/
theorem exists_isSub {r : Request} {code offset known : Nat} (hc : isCode code r = true) :
    ∃ v, v ≤ known ∧ isSub code offset v known r = true := by
  by_cases h : natAt r.args offset ≤ known
  · exact ⟨natAt r.args offset, h, by simp [isSub, hc]⟩
  · exact ⟨0, Nat.zero_le _, by simp [isSub, hc, not_le.mp h]⟩

theorem exists_isItem {r : Request} (hc : isCode 1 r = true) : ∃ i, i ∈ [1, 2, 3, 4, 5, 6] ∧ isItem i r = true := by
  cases h : within 1 6 (natAt r.args 0)
  case false => exact ⟨1, by simp, by simp [isItem, hc, h]⟩
  case true =>
    refine ⟨natAt r.args 0, ?_, by simp [isItem, hc]⟩
    simp only [within, Bool.and_eq_true, decide_eq_true_eq] at h
    simp only [List.mem_cons, List.not_mem_nil, or_false]
    omega

theorem code_le_of_valid {r : Request} (hv : r.valid = true) : 1 ≤ r.code.toNat ∧ r.code.toNat ≤ 25 := by
  unfold Request.valid at hv
  generalize r.code.toNat = n at hv ⊢
  by_contra hn
  have hnone : lengthAllowed n r.args.length = false := by
    unfold lengthAllowed
    split <;> first | rfl | exact absurd (by decide) hn
  rw [hnone] at hv
  cases hv

theorem exists_owner (r : Request) : ∃ c o, ownerOf c = some o ∧ o.mine r = true := by
  cases hv : r.valid
  case false => exact ⟨.badRequest, _, rfl, by simp [hv]⟩
  case true =>
    have use {mine : Request → Bool} (hm : mine r = true) (h : ∃ c o, ownerOf c = some o ∧ o.mine = mine) :
        ∃ c o, ownerOf c = some o ∧ o.mine r = true := by
      obtain ⟨c, o, hc, ho⟩ := h
      exact ⟨c, o, hc, by rw [ho]; exact hm⟩
    have hcode : isCode r.code.toNat r = true := isCode_of_valid hv rfl
    have hle := code_le_of_valid hv
    by_cases h1 : r.code.toNat = 1
    · obtain ⟨i, hi, hm⟩ := exists_isItem (r := r) (h1 ▸ hcode)
      exact use hm (exists_owner_of_item hi)
    by_cases h18 : r.code.toNat = 18
    · obtain ⟨a, ha, hm⟩ := exists_isSub (offset := 1) (known := 7) (h18 ▸ hcode)
      exact use (mine := isPortAction a) hm (exists_owner_of_action (by simp; omega))
    by_cases h24 : r.code.toNat = 24
    · obtain ⟨x, hx, hm⟩ := exists_isSub (offset := 0) (known := 3) (h24 ▸ hcode)
      exact use (mine := isScope x) hm (exists_owner_of_scope (by simp; omega))
    · exact use hcode (exists_owner_of_code (by simp; omega))

/-- Settles O9: by the owner of each request command, whose answers are proper. -/
theorem requestsAreAnsweredOnce : Obligations.RequestsAreAnsweredOnce := by
  refine ⟨fun c s hc hrun ht => ?_, fun c s r rest hc ho => ?_, fun s r rest ho => ?_⟩
  · obtain ⟨o, howner⟩ := owned_of_mem hc
    rw [exec_of_owner howner, running_released _ hrun, serve_blocked _ ht]
  · obtain ⟨o, howner⟩ := owned_of_mem hc
    cases hm : o.mine r
    case false => exact ⟨s, exec_not_mine howner ho hm, .inl rfl⟩
    case true =>
      obtain ⟨t, st, data, hexec, hcab, href⟩ := exec_answered howner ho hm
      exact ⟨t, hexec, .inr ⟨st, data, hcab, href⟩⟩
  · obtain ⟨c, o, howner, hm⟩ := exists_owner r
    obtain ⟨t, st, data, hexec, hcab, -⟩ := exec_answered howner ho hm
    exact ⟨c, mem_of_owner howner, t, st, data, hexec, hcab⟩

end Sys2Proof.Machine
end

section
/-! Requests whose arguments no table names are refused; settles O10. -/

namespace Sys2Proof.Machine

section
variable {s u : State} {r : Request} {rest : List Request} {c : Instr}

theorem code_toNat {n : Nat} (hn : n < 256) (h : r.code = byte n) : r.code.toNat = n := by
  rw [h, byte, BitVec.toNat_ofNat]; omega

theorem drumOf_above {n : Nat} (h : 3 < n) : drumOf n = none := by
  unfold drumOf; rw [dif_neg (by omega)]

theorem onDrumArg_above {h : Drum → State → Answer} (ha : 3 < natAt r.args 0) : onDrumArg h r u = refuse .badArg u := by
  unfold onDrumArg; rw [drumOf_above ha]

theorem onPortArg_above {h : Drum → State → Answer} (ha : 3 < natAt r.args 0) : onPortArg h r u = refuse .badArg u := by
  unfold onPortArg; rw [drumOf_above ha]

theorem onPortArg_unknown {h : Drum → State → Answer} (ha : 7 < natAt r.args 1) : onPortArg h r u = refuse .badArg u := by
  unfold onPortArg
  split
  · rw [if_pos ha]
  · rfl

theorem onScopePart_unknown {f : State → List Byte} (ha : 3 < natAt r.args 0) : onScopePart f r u = refuse .badArg u :=
  if_pos ha

theorem onScopeDrum_unknown {f : Drum → State → List Byte} (ha : 3 < natAt r.args 0) :
    onScopeDrum f r u = refuse .badArg u := by
  unfold onScopeDrum
  split
  · rw [if_pos ha]
  · rfl

theorem onScopeDrum_above {f : Drum → State → List Byte} (ha : 3 < natAt r.args 1) :
    onScopeDrum f r u = refuse .badArg u := by
  unfold onScopeDrum; rw [drumOf_above ha]

theorem serveItem_unknown {w : Nat → State → Answer} (ha : within 1 6 (natAt r.args 0) = false) :
    serveItem w r u = refuse .badArg u := by
  unfold serveItem; rw [ha]; rfl

/-- A drum above 3 is no drum that a request names. -/
theorem names_above (hn : r.code.toNat ∈ [2, 9, 10, 11, 12, 13, 14, 15, 16, 17, 18, 19, 22, 23])
    (ha : 3 < natAt r.args 0) : r.names = none := by
  simp only [List.mem_cons, List.not_mem_nil, or_false] at hn
  unfold Request.names
  rcases hn with h | h | h | h | h | h | h | h | h | h | h | h | h | h <;> rw [h] <;> exact drumOf_above ha

/-- The port actions serve an argument of their action, or of one that no table names. -/
theorem isPortAction_of {a : Nat} (hv : r.valid = true) (hn : r.code.toNat = 18)
    (ha : natAt r.args 1 = a ∨ 7 < natAt r.args 1) : isPortAction a r = true := by
  simpa [isPortAction, isSub, isCode_of_valid hv hn] using ha

theorem isScope_of {x : Nat} (hv : r.valid = true) (hn : r.code.toNat = 24)
    (ha : natAt r.args 0 = x ∨ 3 < natAt r.args 0) : isScope x r = true := by
  simpa [isScope, isSub, isCode_of_valid hv hn] using ha

/-- A command whose owner refuses a request that names no drum changes the cabinet record alone. -/
theorem exec_refused_unnamed {o : Owner} {st : Status} (hc : ownerOf c = some o) (ho : s.offers r rest)
    (hm : o.mine r = true) (hn : r.names = none) (hr : o.serves r (s.taken rest) = refuse st (s.taken rest)) :
    exec c s = .next { s with cabinet := s.replied r rest st [] } := by
  rw [exec_refused hc ho hm hr, answered_of_names_none hn]

theorem refuses_unknown_item (ho : s.offers r rest) (hv : r.valid = true) (hn : r.code.toNat = 1)
    (ha : natAt r.args 0 = 0 ∨ 6 < natAt r.args 0) :
    ∀ c ∈ [Instr.configWriteHeatBudget, .configWriteBypassLimit, .configWriteHeatWaitLimit, .configWriteBucketSpread,
      .configWriteSignatureSpread, .configWriteMissAction],
      exec c s = .next { s with cabinet := s.replied r rest .badArg [] } := by
  have hout : within 1 6 (natAt r.args 0) = false := by simp only [within]; grind
  have hm (i : Nat) : isItem i r = true := by simp [isItem, isCode_of_valid hv hn, hout]
  have hnames : r.names = none := by
    unfold Request.names; rw [hn]; exact if_neg (by omega)
  simp only [List.forall_mem_cons, List.not_mem_nil, false_implies, implies_true, and_true]
  exact ⟨exec_refused_unnamed rfl ho (hm 1) hnames (serveItem_unknown hout),
    exec_refused_unnamed rfl ho (hm 2) hnames (serveItem_unknown hout),
    exec_refused_unnamed rfl ho (hm 3) hnames (serveItem_unknown hout),
    exec_refused_unnamed rfl ho (hm 4) hnames (serveItem_unknown hout),
    exec_refused_unnamed rfl ho (hm 5) hnames (serveItem_unknown hout),
    exec_refused_unnamed rfl ho (hm 6) hnames (serveItem_unknown (w := fun _ => writeMissAction r) hout)⟩

/-- The owners of PORT_CONTROL, by action. -/
theorem portControl_owner {p : Instr × Nat}
    (hp : p ∈ [(Instr.powerOff, 0), (.serviceOnly, 1), (.bringUp, 2), (.holdNodes, 3), (.releaseNodes, 4), (.testSend, 5),
      (.testReceive, 6), (.testEnd, 7)]) :
    ∃ w : Request → Drum → State → Answer, ownerOf p.1 = some ⟨isPortAction p.2, fun r => onPortArg (w r) r⟩ := by
  simp only [List.mem_cons, List.not_mem_nil, or_false] at hp
  rcases hp with rfl | rfl | rfl | rfl | rfl | rfl | rfl | rfl <;> exact ⟨_, rfl⟩

theorem refuses_unknown_action (ho : s.offers r rest) (hv : r.valid = true) (hn : r.code.toNat = 18)
    (ha : 7 < natAt r.args 1) {p : Instr × Nat}
    (hp : p ∈ [(Instr.powerOff, 0), (.serviceOnly, 1), (.bringUp, 2), (.holdNodes, 3), (.releaseNodes, 4), (.testSend, 5),
      (.testReceive, 6), (.testEnd, 7)]) :
    exec p.1 s = .next (s.answered r rest .badArg []) := by
  obtain ⟨w, hw⟩ := portControl_owner hp
  exact exec_refused hw ho (isPortAction_of hv hn (.inr ha)) (onPortArg_unknown ha)

theorem refuses_port_above (ho : s.offers r rest) (hv : r.valid = true) (hn : r.code.toNat = 18)
    (ha : 3 < natAt r.args 0) :
    ∀ p ∈ [(Instr.powerOff, 0), (.serviceOnly, 1), (.bringUp, 2), (.holdNodes, 3), (.releaseNodes, 4), (.testSend, 5),
      (.testReceive, 6), (.testEnd, 7)],
      natAt r.args 1 = p.2 ∨ 7 < natAt r.args 1 → exec p.1 s = .next { s with cabinet := s.replied r rest .badArg [] } := by
  intro p hp hact
  obtain ⟨w, hw⟩ := portControl_owner hp
  exact exec_refused_unnamed hw ho (isPortAction_of hv hn hact) (names_above (by simp [hn]) ha) (onPortArg_above ha)

theorem refuses_unknown_scope (ho : s.offers r rest) (hv : r.valid = true) (hn : r.code.toNat = 24)
    (ha : 3 < natAt r.args 0) :
    ∀ c ∈ [Instr.statusReadPart, .statusReadDrum, .statusReadPort, .statusReadHeat],
      exec c s = .next { s with cabinet := s.replied r rest .badArg [] } := by
  have hm (x : Nat) : isScope x r = true := isScope_of hv hn (.inr ha)
  have hnames : r.names = none := by
    unfold Request.names; rw [hn]; exact if_neg (by omega)
  simp only [List.forall_mem_cons, List.not_mem_nil, false_implies, implies_true, and_true]
  exact ⟨exec_refused_unnamed rfl ho (hm 0) hnames (onScopePart_unknown ha),
    exec_refused_unnamed rfl ho (hm 1) hnames (onScopeDrum_unknown ha),
    exec_refused_unnamed rfl ho (hm 2) hnames (onScopeDrum_unknown ha),
    exec_refused_unnamed rfl ho (hm 3) hnames (onScopePart_unknown ha)⟩

/-- The owners of the other requests that name their drum in the first argument byte, by code. -/
theorem drumRequest_owner {p : Instr × Byte}
    (hp : p ∈ [(Instr.drumConfigWrite, (2 : Byte)), (.cycleLoad, 9), (.cycleUnload, 10), (.cycleStart, 11),
      (.cyclePause, 12), (.cycleResume, 13), (.cycleEndHeat, 14), (.cycleAbort, 15), (.drumReset, 16),
      (.heatLockoutClear, 17), (.passThrough, 19), (.attrRead, 22), (.attrClear, 23)]) :
    p.2.toNat ∈ [2, 9, 10, 11, 12, 13, 14, 15, 16, 17, 18, 19, 22, 23] ∧
      ∃ w : Request → Drum → State → Answer, ownerOf p.1 = some ⟨isCode p.2.toNat, fun r => onDrumArg (w r) r⟩ := by
  simp only [List.mem_cons, List.not_mem_nil, or_false] at hp
  rcases hp with rfl | rfl | rfl | rfl | rfl | rfl | rfl | rfl | rfl | rfl | rfl | rfl | rfl <;>
    exact ⟨by decide, _, rfl⟩

theorem refuses_drum_above (ho : s.offers r rest) (hv : r.valid = true) (ha : 3 < natAt r.args 0) :
    ∀ p ∈ [(Instr.drumConfigWrite, (2 : Byte)), (.cycleLoad, 9), (.cycleUnload, 10), (.cycleStart, 11),
      (.cyclePause, 12), (.cycleResume, 13), (.cycleEndHeat, 14), (.cycleAbort, 15), (.drumReset, 16),
      (.heatLockoutClear, 17), (.passThrough, 19), (.attrRead, 22), (.attrClear, 23)],
      r.code = p.2 → exec p.1 s = .next { s with cabinet := s.replied r rest .badArg [] } := by
  intro p hp hcode
  obtain ⟨hmem, w, hw⟩ := drumRequest_owner hp
  rw [← hcode] at hmem hw
  exact exec_refused_unnamed hw ho (isCode_of_valid hv rfl) (names_above hmem ha) (onDrumArg_above ha)

end

/-- Settles O10: each owner refuses the argument, and the request then names no drum. -/
theorem argumentsOutOfTheTablesAreRefused : Obligations.ArgumentsOutOfTheTablesAreRefused := by
  intro s r rest ho
  refine ⟨fun hv => ?_, fun hv hn ha => ?_, fun hv hn ha => ?_, fun hv hn ha => ?_, fun hv hn ha => ?_, fun hv ha => ?_⟩
  · rw [exec_refused rfl ho (by simp [hv]) rfl, answered_of_invalid hv]
  · exact refuses_unknown_item ho hv (code_toNat (by decide) hn) ha
  · have hcode : r.code.toNat = 18 := code_toNat (by decide) hn
    have all {p : Instr × Nat} := refuses_unknown_action (p := p) ho hv hcode ha
    simp only [List.forall_mem_cons, List.not_mem_nil, false_implies, implies_true, and_true]
    exact ⟨all (p := (_, 0)) (by simp), all (p := (_, 1)) (by simp), all (p := (_, 2)) (by simp),
      all (p := (_, 3)) (by simp), all (p := (_, 4)) (by simp), all (p := (_, 5)) (by simp), all (p := (_, 6)) (by simp),
      all (p := (_, 7)) (by simp)⟩
  · exact refuses_port_above ho hv (code_toNat (by decide) hn) ha
  · exact refuses_unknown_scope ho hv (code_toNat (by decide) hn) ha
  · exact refuses_drum_above ho hv ha

end Sys2Proof.Machine
end

section
/-! A timed command or a report of one drum touches that drum alone; settles O54. -/

namespace Sys2Proof.Machine

section
variable {s t : State} {d : Drum}

theorem besides_of_running {f : State → State} (hf : (f s).besides d = s.besides d) (h : running f s = .next t) :
    t.besides d = s.besides d := by
  unfold running at h
  split at h
  · cases h; rfl
  · cases h; exact hf

/-- The commands that act where their trigger holds. -/
theorem besides_of_trigger {c : State → Bool} {f : State → State} (hf : (f s).besides d = s.besides d)
    (h : running (fun s => onlyIf (c s) f s) s = .next t) : t.besides d = s.besides d := by
  refine besides_of_running ?_ h
  unfold onlyIf
  split
  · exact hf
  · rfl

theorem besides_execGraceExpiry (h : execGraceExpiry d s = .next t) : t.besides d = s.besides d :=
  besides_of_trigger (besides_graceExpires d s) h

theorem besides_execServiceLaneLock (h : execServiceLaneLock d s = .next t) : t.besides d = s.besides d :=
  besides_of_trigger (besides_onPort d _ s) h

theorem besides_execServiceLaneLockLost (h : execServiceLaneLockLost d s = .next t) : t.besides d = s.besides d :=
  besides_of_trigger (besides_serviceLaneDown d s) h

theorem besides_execDiscreteReport {raw : Readings} (h : execDiscreteReport d raw s = .next t) : t.besides d = s.besides d :=
  besides_of_trigger (besides_takeDiscretes d raw s) h

theorem besides_execDebounceExpiry {x : Discrete} (h : execDebounceExpiry d x s = .next t) : t.besides d = s.besides d :=
  besides_of_trigger (besides_debounceExpires d x s) h

theorem besides_execPresenceReport {present : BitVec 16} (h : execPresenceReport d present s = .next t) : t.besides d = s.besides d :=
  besides_of_trigger (besides_setPresence d present s) h

theorem besides_execCommandFrameSend (h : execCommandFrameSend d s = .next t) : t.besides d = s.besides d :=
  besides_of_trigger (besides_beginSend d s) h

theorem besides_execRefreshExpiry (h : execRefreshExpiry d s = .next t) : t.besides d = s.besides d :=
  besides_of_trigger (besides_refreshExpires d s) h

theorem besides_execStandbyExpiry (h : execStandbyExpiry d s = .next t) : t.besides d = s.besides d :=
  besides_of_trigger (besides_movePort d _ s) h

theorem besides_execArmReport (h : execArmReport d s = .next t) : t.besides d = s.besides d :=
  besides_of_trigger (besides_testArmed d s) h

theorem besides_execArmTimeout (h : execArmTimeout d s = .next t) : t.besides d = s.besides d :=
  besides_of_trigger (besides_leaveTest d _ s) h

theorem besides_execTestReport {errors : Byte} (h : execTestReport d errors s = .next t) : t.besides d = s.besides d :=
  besides_of_trigger (besides_closeInterval d _ s) h

theorem besides_execCheckerInterval {errors : Nat} (h : execCheckerInterval d errors s = .next t) : t.besides d = s.besides d :=
  besides_of_trigger (besides_checkerCloses d errors s) h

theorem besides_execProveTimeout (h : execProveTimeout d s = .next t) : t.besides d = s.besides d :=
  besides_of_trigger (besides_cycleHalt d _ s) h

theorem besides_execAirTimeEnd (h : execAirTimeEnd d s = .next t) : t.besides d = s.besides d :=
  besides_of_trigger (besides_enterTarget d s) h

theorem besides_execDryingTimeLimit (h : execDryingTimeLimit d s = .next t) : t.besides d = s.besides d :=
  besides_of_trigger (besides_startCooling d _ s) h

theorem besides_execMaximumCoolTime (h : execMaximumCoolTime d s = .next t) : t.besides d = s.besides d :=
  besides_of_trigger (besides_coolingEnds d s) h

theorem besides_execGuardIntervalExpiry (h : execGuardIntervalExpiry d s = .next t) : t.besides d = s.besides d :=
  besides_of_trigger (besides_guardIntervalEnds d s) h

theorem besides_execGuardLimit (h : execGuardLimit d s = .next t) : t.besides d = s.besides d :=
  besides_of_trigger (besides_enterDone d s) h

theorem besides_execPauseLimitExpiry (h : execPauseLimitExpiry d s = .next t) : t.besides d = s.besides d :=
  besides_of_trigger (besides_pauseLimitEnds d s) h

theorem besides_execStatusWaitExpiry (h : execStatusWaitExpiry d s = .next t) : t.besides d = s.besides d :=
  besides_of_trigger (besides_onTumble d _ s) h

theorem besides_execRunLengthEnd (h : execRunLengthEnd d s = .next t) : t.besides d = s.besides d :=
  besides_of_trigger (besides_endNormalRun d s) h

theorem besides_execMaximumRunSeconds (h : execMaximumRunSeconds d s = .next t) : t.besides d = s.besides d :=
  besides_of_trigger (besides_endNormalRun d s) h

theorem besides_execMinimumRunReached (h : execMinimumRunReached d s = .next t) : t.besides d = s.besides d :=
  besides_of_trigger (besides_minimumRunReached d s) h

theorem besides_execGuardTumbleEnd (h : execGuardTumbleEnd d s = .next t) : t.besides d = s.besides d :=
  besides_of_trigger (besides_enterDecel d _ s) h

theorem besides_execDecelTimeout (h : execDecelTimeout d s = .next t) : t.besides d = s.besides d :=
  besides_of_trigger (besides_decelTimeout d s) h

theorem besides_execDwellExpiry (h : execDwellExpiry d s = .next t) : t.besides d = s.besides d :=
  besides_of_trigger (besides_beginRun d s) h

theorem besides_execRecoverDelayExpiry (h : execRecoverDelayExpiry d s = .next t) : t.besides d = s.besides d :=
  besides_of_trigger (besides_beginRun d s) h

theorem besides_execRetryDelayExpiry (h : execRetryDelayExpiry d s = .next t) : t.besides d = s.besides d :=
  besides_of_trigger (besides_retryDelayEnds d s) h

theorem besides_execStableFlameExpiry (h : execStableFlameExpiry d s = .next t) : t.besides d = s.besides d :=
  besides_of_trigger (besides_onBurner d _ s) h

theorem besides_execExtraDryExpiry (h : execExtraDryExpiry d s = .next t) : t.besides d = s.besides d :=
  besides_of_trigger (besides_extraDryEnds d s) h

theorem besides_execMainLaneLock (h : execMainLaneLock d s = .next t) : t.besides d = s.besides d := by
  refine besides_of_running ?_ h
  split
  · exact besides_enterUp d s
  · exact besides_onPort d _ s
  all_goals rfl

theorem besides_execMainLaneLockLost (h : execMainLaneLockLost d s = .next t) : t.besides d = s.besides d := by
  refine besides_of_running ?_ h
  split
  · exact besides_mainLaneLost d s
  · exact besides_onPort d _ s
  all_goals rfl

theorem besides_execCommandFrameSent (h : execCommandFrameSent d s = .next t) : t.besides d = s.besides d := by
  refine besides_of_running ?_ h
  split
  · rfl
  · exact besides_onPort d _ s

theorem besides_execMinimumCoolTimeReached (h : execMinimumCoolTimeReached d s = .next t) : t.besides d = s.besides d :=
  besides_of_trigger (by simp) h

theorem besides_execFanOverrunExpiry (h : execFanOverrunExpiry d s = .next t) : t.besides d = s.besides d :=
  besides_of_trigger (by simp) h

theorem besides_execInletStarvationExpiry (h : execInletStarvationExpiry d s = .next t) : t.besides d = s.besides d :=
  besides_of_trigger (by simp) h

theorem besides_execSampleStarvationExpiry (h : execSampleStarvationExpiry d s = .next t) : t.besides d = s.besides d :=
  besides_of_trigger (by simp) h

end

/-- Settles O54, command by command: each runs one operation of its drum. -/
theorem drumCommandsTouchOneDrum : Obligations.DrumCommandsTouchOneDrum := by
  intro s t d raw x report b n
  simp only [List.forall_mem_cons, List.not_mem_nil, false_implies, implies_true, and_true]
  exact ⟨besides_execMainLaneLock, besides_execMainLaneLockLost, besides_execGraceExpiry,
    besides_execServiceLaneLock, besides_execServiceLaneLockLost, besides_execDiscreteReport,
    besides_execDebounceExpiry, besides_execPresenceReport, besides_execCommandFrameSend,
    besides_execCommandFrameSent, besides_execRefreshExpiry, besides_execStandbyExpiry,
    besides_execArmReport, besides_execArmTimeout, besides_execTestReport,
    besides_execCheckerInterval, besides_execProveTimeout, besides_execAirTimeEnd,
    besides_execDryingTimeLimit, besides_execMinimumCoolTimeReached, besides_execMaximumCoolTime,
    besides_execGuardIntervalExpiry, besides_execGuardLimit, besides_execFanOverrunExpiry,
    besides_execPauseLimitExpiry, besides_execStatusWaitExpiry, besides_execRunLengthEnd,
    besides_execMaximumRunSeconds, besides_execMinimumRunReached, besides_execGuardTumbleEnd,
    besides_execDecelTimeout, besides_execDwellExpiry, besides_execRecoverDelayExpiry,
    besides_execRetryDelayExpiry, besides_execStableFlameExpiry, besides_execInletStarvationExpiry,
    besides_execExtraDryExpiry, besides_execSampleStarvationExpiry⟩

end Sys2Proof.Machine
end

section
/-! The state after reset satisfies the invariants; settles O6. -/

namespace Sys2Proof.Machine

@[simp] theorem drum_reset (d : Drum) : State.reset.drum d = {} := by
  simp [State.reset, State.drum]

@[simp] theorem share_reset (d : Drum) : State.reset.share d = {} := by
  simp [State.reset, State.share]

theorem flameSafe_reset : FlameSafe State.reset := fun d => by
  have hdemands : State.reset.flight.demands = [] := rfl
  simp [FlameOk, hdemands]

theorem queuesBounded_reset : QueuesBounded State.reset := by
  simp [QueuesBounded, State.reset]

theorem alertsDistinct_reset : AlertsDistinct State.reset := by
  simp [AlertsDistinct, State.reset]

theorem windowsBounded_reset : WindowsBounded State.reset := fun d => by simp

theorem tableSound_reset : TableSound State.reset := by
  simp [TableSound, State.reset, Classifier.chain]

theorem heatSound_reset : HeatSound State.reset := by
  have hbudget : WithinBudget State.reset := by unfold WithinBudget; decide
  have hqueue : State.reset.heat.queue = [] := rfl
  have hgrants : State.reset.heat.grants = [] := rfl
  refine ⟨hbudget, by simp [HeatQueueSound, hqueue], fun d h => absurd h (by simp), fun d => by simp, ?_,
    by simp [EntriesSound, hqueue], ?_⟩
  · exact ⟨by simp [hgrants], by simp [hgrants], by simp, by simp⟩
  · exact ⟨by simp, by simp [State.reset], by simp, by simp [hqueue]⟩

theorem activeCyclesHaveLinks_reset : ActiveCyclesHaveLinks State.reset := fun d => by
  rw [drum_reset]; exact nofun

theorem standbyTimersFollow_reset : StandbyTimersFollow State.reset := fun d => by
  rw [drum_reset]; rfl

theorem spareRoutesEmpty_reset : SpareRoutesEmpty State.reset := by
  unfold SpareRoutesEmpty; decide

theorem drivesFollow_reset : DrivesFollow State.reset := by
  refine ⟨fun d => ?_, by decide⟩
  simp [DriveFollows, Tumble.comesToRest]

/-- Settles O6: each invariant read off the reset values. -/
theorem resetStateIsSound : Obligations.ResetStateIsSound :=
  ⟨flameSafe_reset, queuesBounded_reset, alertsDistinct_reset, windowsBounded_reset, tableSound_reset, heatSound_reset,
    activeCyclesHaveLinks_reset, standbyTimersFollow_reset, spareRoutesEmpty_reset, drivesFollow_reset⟩

end Sys2Proof.Machine
end

section
/-! A drum configuration record is replaced whole while the drum rests; settles O14. -/

namespace Sys2Proof.Machine

section
variable {s u : State} {r : Request} {rest : List Request} {d : Drum} {body : List Byte}

/-! ### Requests by their bytes -/

theorem isCode_of_length {n : Nat} (hn : r.code.toNat = n) (hl : lengthAllowed n r.args.length = true) :
    isCode n r = true :=
  isCode_of_valid (by unfold Request.valid; rw [hn]; exact hl) hn

theorem drumOf_args (ha : r.args = byte d.val :: body) : drumOf (natAt r.args 0) = some d := by
  rw [ha]; exact drumOf_byte d

theorem onDrumArg_args {h : Drum → State → Answer} (ha : r.args = byte d.val :: body) : onDrumArg h r u = h d u := by
  unfold onDrumArg; rw [drumOf_args ha]

/-! ### The record's replacement -/

/-- The fields of a drum that no replacement of its configuration touches. -/
theorem keeps_replaceConfig (d : Drum) (c : DrumConfig) (s : State) :
    ((replaceConfig d c s).drum d).cycle = (s.drum d).cycle ∧ ((replaceConfig d c s).drum d).tumble = (s.drum d).tumble ∧
    ((replaceConfig d c s).drum d).tangle = (s.drum d).tangle ∧
    ((replaceConfig d c s).drum d).burner = (s.drum d).burner ∧
    ((replaceConfig d c s).drum d).dryness = (s.drum d).dryness ∧
    ((replaceConfig d c s).drum d).port.state = (s.drum d).port.state ∧
    ((replaceConfig d c s).drum d).port.image.flameStage = (s.drum d).port.image.flameStage := by
  unfold replaceConfig
  dsimp only
  split <;> simp

theorem config_replaceConfig (d : Drum) (c : DrumConfig) (s : State) : ((replaceConfig d c s).drum d).config = c := by
  have hs (t : State) : ((settleStandby d t).drum d).config = (t.drum d).config :=
    config_of_besides (besides_settleStandby d t) d
  have hf (b : Bool) (t : State) : ((writeFan d b t).drum d).config = (t.drum d).config :=
    config_of_besides (besides_writeFan d b t) d
  have hd (v : DriveCmd) (t : State) : ((writeDrive d v t).drum d).config = (t.drum d).config :=
    config_of_besides (besides_writeDrive d v t) d
  unfold replaceConfig
  dsimp only
  rw [hs]
  split
  · rw [hf, hd]; simp
  · simp

theorem flight_replaceConfig (d : Drum) (c : DrumConfig) (s : State) : (replaceConfig d c s).flight = s.flight := by
  unfold replaceConfig settleStandby writeFan writeDrive
  dsimp only
  (repeat' split) <;> rfl

/-- A change from SERVICE to AUTO stops drum and fan (R67). -/
theorem replaceConfig_stops {c : DrumConfig} (hold : (s.drum d).config.gateMode = .service) (hnew : c.gateMode = .auto) :
    ((replaceConfig d c s).drum d).port.image.drive = .stop ∧
      ((replaceConfig d c s).drum d).port.image.fan = false := by
  unfold replaceConfig
  dsimp only
  rw [if_pos ⟨hold, hnew⟩]
  simp

theorem replaceConfig_image {c : DrumConfig} (h : (s.drum d).config.gateMode = .auto ∨ c.gateMode = .service) :
    ((replaceConfig d c s).drum d).port.image.drive = (s.drum d).port.image.drive ∧
      ((replaceConfig d c s).drum d).port.image.fan = (s.drum d).port.image.fan ∧
      ((s.drum d).config.motorNode = c.motorNode →
        ((replaceConfig d c s).drum d).port.image.driveMarks = (s.drum d).port.image.driveMarks) := by
  have hno : ¬((s.drum d).config.gateMode = .service ∧ c.gateMode = .auto) := by
    rintro ⟨hs, ha⟩
    rcases h with h | h
    · rw [hs] at h; cases h
    · rw [ha] at h; cases h
  unfold replaceConfig
  dsimp only
  rw [if_neg hno]
  refine ⟨by simp, by simp, fun hsame => ?_⟩
  simp [Port.rebound, hsame]

theorem flameMarks_writeFan (d : Drum) (on : Bool) (s : State) :
    ((writeFan d on s).drum d).port.image.flameMarks = (s.drum d).port.image.flameMarks := by
  unfold writeFan; dsimp only; split <;> simp

theorem flameMarks_writeDrive (d : Drum) (v : DriveCmd) (s : State) :
    ((writeDrive d v s).drum d).port.image.flameMarks = (s.drum d).port.image.flameMarks := by
  unfold writeDrive; dsimp only; split <;> simp

/-- A burner bound anew is change-marked while the port sends (R15). -/
theorem replaceConfig_flameMarks {c : DrumConfig} (hsends : (s.drum d).port.sends = true) (hbound : c.burnerNode ≠ 0)
    (hnew : (s.drum d).config.burnerNode ≠ c.burnerNode) :
    ((replaceConfig d c s).drum d).port.image.flameMarks.change = true := by
  unfold replaceConfig
  dsimp only
  split <;>
    simp [flameMarks_writeFan, flameMarks_writeDrive, Port.rebound, Port.changed, hsends, hbound, hnew]

/-! ### The owner -/

theorem writeDrumConfig_outOfRange (ha : r.args = byte d.val :: body) (h : configOf r.args = none) :
    writeDrumConfig r u = refuse .badArg u := by
  unfold writeDrumConfig; rw [onDrumArg_args ha, h]

theorem writeDrumConfig_busy {c : DrumConfig} (ha : r.args = byte d.val :: body) (h : configOf r.args = some c)
    (hd : (u.drum d).cycle.state.idle = false) : writeDrumConfig r u = refuse .busy u := by
  unfold writeDrumConfig; rw [onDrumArg_args ha, h]; simp [hd]

theorem writeDrumConfig_idle {c : DrumConfig} (ha : r.args = byte d.val :: body) (h : configOf r.args = some c)
    (hd : (u.drum d).cycle.state.idle = true) : writeDrumConfig r u = ok (replaceConfig d c u) := by
  unfold writeDrumConfig; rw [onDrumArg_args ha, h]; simp [hd]

end

/-- Settles O14: the owner refuses, or replaces the record in the state with the request taken. -/
theorem drumConfigWriteReplacesTheRecord : Obligations.DrumConfigWriteReplacesTheRecord := by
  intro s r rest d body ho hcode hargs hlen
  have hm : isCode 2 r = true :=
    isCode_of_length (code_toNat (by decide) hcode) (by rw [hargs, List.length_cons, hlen]; rfl)
  refine ⟨fun hnone => ?_, fun c hsome => ⟨fun hbusy => ?_, fun hidle => ?_⟩⟩
  · exact exec_refused rfl ho hm (writeDrumConfig_outOfRange hargs hnone)
  · exact exec_refused rfl ho hm (writeDrumConfig_busy hargs hsome hbusy)
  · obtain ⟨hcycle, htumble, htangle, hburner, hdryness, hport, hflame⟩ := keeps_replaceConfig d c (s.taken rest)
    have hdone := exec_done (c := .drumConfigWrite) rfl ho hm (writeDrumConfig_idle hargs hsome hidle)
      (cabinet_replaceConfig d c _)
    refine ⟨_, hdone, ?_⟩
    simp only [drum_onCabinet, flight_onCabinet]
    refine ⟨config_replaceConfig d c _, ?_, flight_replaceConfig d c _, hcycle, htumble, htangle, hburner, hdryness, hport,
      hflame, replaceConfig_stops (s := s.taken rest), replaceConfig_image (s := s.taken rest),
      replaceConfig_flameMarks (s := s.taken rest)⟩
    exact congrArg (fun b : Besides => { b with cabinet := s.cabinet }) (replaceConfig_besides (s := s.taken rest) d c)

end Sys2Proof.Machine
end

section
/-! Frames that end on the main lane; settles O15. -/

namespace Sys2Proof.Machine

section
variable {s : State} {d : Drum} {bytes : List Byte}

theorem exec_mainLaneFrameReceived (hrun : s.resetHeld = false) :
    exec (.mainLaneFrameReceived d bytes) s = .next (onlyIf (s.portUp d) (takeFrame d bytes) s) :=
  running_released _ hrun

theorem portUp_iff : s.portUp d = true ↔ (s.drum d).port.state = .up := by
  simp [State.portUp]

theorem frameMalformed_iff :
    frameMalformed bytes = true ↔ bytes.length < 4 ∨ 16 < natAt bytes 3 ∨ bytes.length ≠ natAt bytes 3 + 6 := by
  simp [frameMalformed, or_assoc]

theorem takeFrame_malformed (h : frameMalformed bytes = true) :
    takeFrame d bytes s = s.onPort d fun p => { p with malformed := min (p.malformed + 1) 65535 } := by
  unfold takeFrame
  rw [if_pos h]
  rfl

theorem takeFrame_passed (h : frameMalformed bytes = false) (hp : checkPassed bytes = true) :
    takeFrame d bytes s =
      s.onFlight fun f => { f with frames := f.frames ++ [⟨d, true, s.clock, bytes.take (bytes.length - 2)⟩] } := by
  unfold takeFrame
  rw [h, hp]
  rfl

theorem takeFrame_failed (h : frameMalformed bytes = false) (hp : checkPassed bytes = false) :
    takeFrame d bytes s =
      (s.onPort d fun p => { p with checkFailed := min (p.checkFailed + 1) 65535 }).onFlight fun f =>
        { f with frames := f.frames ++ [⟨d, false, s.clock, bytes.take (bytes.length - 2)⟩] } := by
  unfold takeFrame
  rw [h, hp]
  rfl

end

/-- Settles O15: by the port's state, the frame's form and its check result. -/
theorem mainLaneFramesAreCheckedAndHandedOn : Obligations.MainLaneFramesAreCheckedAndHandedOn := by
  intro s d bytes hrun
  refine ⟨fun hdown => ?_, fun hup => ⟨fun hbad => ?_, fun h4 h16 hlen => ?_⟩⟩
  · rw [exec_mainLaneFrameReceived hrun, Bool.eq_false_iff.mpr (mt portUp_iff.mp hdown)]
    rfl
  · rw [exec_mainLaneFrameReceived hrun, portUp_iff.mpr hup, ← takeFrame_malformed (frameMalformed_iff.mpr hbad)]
    rfl
  · have hform : frameMalformed bytes = false :=
      Bool.eq_false_iff.mpr (mt frameMalformed_iff.mp (by omega))
    refine ⟨takeFrame d bytes s, by rw [exec_mainLaneFrameReceived hrun, portUp_iff.mpr hup]; rfl, ?_⟩
    cases hp : checkPassed bytes
    case true => rw [takeFrame_passed hform hp]; exact ⟨rfl, fun _ => rfl, nofun⟩
    case false => rw [takeFrame_failed hform hp]; exact ⟨rfl, nofun, fun _ => rfl⟩

end Sys2Proof.Machine
end

section
/-! The lengths and the first bytes of the four reports; settles O21. -/

namespace Sys2Proof.Machine

section
variable (s : State) (d : Drum)

/-! ### Fields -/

@[simp] theorem length_bytes16 (n : Nat) : (bytes16 n).length = 2 := rfl

@[simp] theorem length_bytes32 (n : Nat) : (bytes32 n).length = 4 := rfl

@[simp] theorem length_clockBytes (c : Clock) : (clockBytes c).length = 4 := rfl

@[simp] theorem length_signedBytes16 (i : Int) : (signedBytes16 i).length = 2 := rfl

@[simp] theorem length_secs16 (n : Nat) : (secs16 n).length = 2 := rfl

@[simp] theorem length_absent16 : absent16.length = 2 := rfl

@[simp] theorem length_field8 (x : Option Nat) : (field8 x).length = 1 := by cases x <;> rfl

@[simp] theorem length_left8 (t : Timer) : (left8 t).length = 1 := by cases t <;> rfl

@[simp] theorem length_left16 (t : Timer) : (left16 t).length = 2 := by cases t <;> rfl

@[simp] theorem length_graceLeft (t : Timer) : (graceLeft t).length = 2 := by cases t <;> rfl

@[simp] theorem length_temperatureReport (now : Clock) (t : Option Temperature) : (temperatureReport now t).length = 4 := by
  cases t <;> rfl

@[simp] theorem length_drivePayload (v : DriveCmd) : v.payload.length = 3 := by cases v <;> rfl

@[simp] theorem length_shareReport (h : HeatShare) : (shareReport h).length = 3 := by
  unfold shareReport; split <;> rfl

@[simp] theorem length_entryReport (now : Clock) (e : HeatEntry) : (entryReport now e).length = 7 := rfl

theorem length_padded {n : Nat} {bs : List Byte} (h : bs.length ≤ n) : (padded n bs).length = n := by
  simp [padded, h]

/-! ### The reports -/

theorem length_cycleReport (c : Cycle) : (cycleReport c).length = 14 := by simp [cycleReport]

theorem length_tumbleReport (t : Tumble) : (tumbleReport t).length = 13 := by simp [tumbleReport]

theorem length_tangleReport (m : Tangle) : (tangleReport m).length = 7 := by simp [tangleReport]

theorem length_burnerReport (now : Clock) (D : DrumState) (g : Nat) : (burnerReport now D g).length = 22 := by
  simp [burnerReport]

theorem length_drynessReport (D : DrumState) : (drynessReport D).length = 11 := by simp [drynessReport]

theorem length_partReport : (partReport s).length = 26 := by simp [partReport]

theorem length_drumReport : (drumReport d s).length = 67 := by
  simp [drumReport, length_cycleReport, length_tumbleReport, length_tangleReport, length_burnerReport,
    length_drynessReport]

theorem length_portReport : (portReport d s).length = 32 := by
  simp [portReport, lineTestReport, flamePayload, fanPayload]

/-- A list of distinct drums has at most four. -/
theorem length_le_of_drums {l : List Drum} (h : l.Nodup) : l.length ≤ 4 := by
  simpa using h.length_le_card

theorem length_heatReport (hq : HeatQueueSound s) (hg : s.heat.grants.Nodup) : (heatReport s).length = 53 := by
  have hqueue : s.heat.queue.length ≤ 4 := by simpa using length_le_of_drums hq
  have hentries : (s.heat.queue.flatMap (entryReport s.clock)).length ≤ 28 := by
    simp [List.length_flatMap]; omega
  have hgrants : (s.heat.grants.map fun d => byte d.val).length ≤ 4 := by simpa using length_le_of_drums hg
  simp [heatReport, drums, length_padded hentries, length_padded hgrants]

end

/-- Settles O21: the lengths of the fields add up, and the first bytes stand where the reports begin. -/
theorem reportsHaveTheirLayout : Obligations.ReportsHaveTheirLayout := by
  intro s d
  refine ⟨length_partReport s, length_drumReport s d, length_portReport s d, length_heatReport s, rfl, rfl, ?_, rfl, rfl, rfl⟩
  simp [Router.alertLow]

end Sys2Proof.Machine
end

section
/-! The requests that only read; settles O20. -/

namespace Sys2Proof.Machine

section
variable {s u : State} {r : Request} {rest : List Request} {d : Drum}

/-! ### Requests that name no drum -/

theorem names_classRead (hn : r.code.toNat = 8) : r.names = none := by
  unfold Request.names; rw [hn]; rfl

theorem names_query_above (hn : r.code.toNat = 7) (ha : 3 < natAt r.args 0) : r.names = none := by
  unfold Request.names; rw [hn]; exact drumOf_above ha

theorem names_part (hn : r.code.toNat = 24) (ha : natAt r.args 0 ≠ 1 ∧ natAt r.args 0 ≠ 2) : r.names = none := by
  unfold Request.names; rw [hn]; exact if_neg (by tauto)

theorem names_scope_above (hn : r.code.toNat = 24) (ha : 3 < natAt r.args 1) : r.names = none := by
  unfold Request.names; rw [hn]; exact (if_congr Iff.rfl (drumOf_above ha) rfl).trans (ite_self _)

/-- A request that reads and names no drum changes the cabinet record alone. -/
theorem exec_read_unnamed {c : Instr} {o : Owner} {data : List Byte} (hc : ownerOf c = some o) (ho : s.offers r rest)
    (hm : o.mine r = true) (hn : r.names = none) (hr : o.serves r (s.taken rest) = ⟨s.taken rest, .ok, data⟩) :
    exec c s = .next { s with cabinet := s.replied r rest .ok data } := by
  rw [exec_read hc ho hm hr, answered_of_names_none hn]

/-! ### The classifier's readings -/

theorem toNat_byte_drum (d : Drum) : (byte d.val).toNat = d.val := by
  revert d; decide

theorem queryTuple_inRange {p n k c : Byte} (ha : r.args = [p, n, k, c])
    (h : p.toNat ≤ 3 ∧ n.toNat ≤ 15 ∧ k.toNat ≤ 31 ∧ c.toNat ≤ 15) :
    queryTuple r u = ⟨u, .ok, queryData u.classifier (tupleNumber p.toNat n.toNat k.toNat c.toNat)⟩ := by
  unfold queryTuple
  rw [ha]
  simp only [natAt, byteAt, List.getD_cons_zero, List.getD_cons_succ]
  rw [tupleOf, if_pos h]

theorem queryTuple_outOfRange {p n k c : Byte} (ha : r.args = [p, n, k, c])
    (h : 3 < p.toNat ∨ 15 < n.toNat ∨ 31 < k.toNat ∨ 15 < c.toNat) : queryTuple r u = refuse .badArg u := by
  unfold queryTuple
  rw [ha]
  simp only [natAt, byteAt, List.getD_cons_zero, List.getD_cons_succ]
  rw [tupleOf, if_neg (by omega)]

theorem readEntries_inRange {hi lo count : Byte} (ha : r.args = [hi, lo, count]) (h : be16 hi lo ≤ 511)
    (hc : count.toNat ≤ 16) :
    readEntries r u =
      ⟨u, .ok,
        byte (readCount (be16 hi lo) count.toNat) ::
          (List.range (readCount (be16 hi lo) count.toNat)).flatMap fun i => entryRecord u.classifier (be16 hi lo + i)⟩ := by
  unfold readEntries
  rw [ha]
  exact if_neg (show ¬(511 < be16 hi lo ∨ 16 < count.toNat) by omega)

theorem readEntries_outOfRange {hi lo count : Byte} (ha : r.args = [hi, lo, count])
    (h : 511 < be16 hi lo ∨ 16 < count.toNat) : readEntries r u = refuse .badArg u := by
  unfold readEntries
  rw [ha]
  exact if_pos h

/-! ### The readings of the counts and of the reports -/

/-- The ten bytes of a count, its limit and consequence 0 while no valid table is loaded (R186). -/
theorem attrBytes_eq (s : State) (d : Drum) (a : Fin 8) :
    attrBytes s d a =
      bytes32 (s.attr d a).raw ++ [byte ((s.attr d a).crossed.toNat + 2 * (s.attr d a).noStart.toNat)] ++
        bytes32 (if s.attributes.valid then s.attributes.table[a].limit else 0) ++
        [byte (if s.attributes.valid then s.attributes.table[a].consequence.code else 0)] := by
  unfold attrBytes AttrStore.inForce
  dsimp only
  split <;> rfl

theorem attrRead_args {body : List Byte} (ha : r.args = byte d.val :: body) :
    attrRead r u =
      ⟨u, .ok, flagByte u.attributes.valid :: ([0, 1, 2, 3, 4, 5, 6, 7] : List (Fin 8)).flatMap (attrBytes u d)⟩ :=
  onDrumArg_args ha

theorem onScopePart_args {f : State → List Byte} {x y : Byte} (ha : r.args = [x, y]) (hx : x.toNat ≤ 3) :
    onScopePart f r u = ⟨u, .ok, f u⟩ := by
  unfold onScopePart
  rw [ha]
  exact if_neg (not_lt.mpr hx)

theorem onScopeDrum_args {f : Drum → State → List Byte} {x : Byte} (ha : r.args = [x, byte d.val]) (hx : x.toNat ≤ 3) :
    onScopeDrum f r u = ⟨u, .ok, f d u⟩ := by
  have hd : drumOf (natAt r.args 1) = some d := by rw [ha]; exact drumOf_byte d
  unfold onScopeDrum
  rw [hd, ha]
  exact if_neg (not_lt.mpr hx)

theorem isScope_args {x y : Byte} (hn : r.code.toNat = 24) (ha : r.args = [x, y]) : isScope x.toNat r = true :=
  isScope_of (by unfold Request.valid; rw [hn, ha]; rfl) hn (.inl (by rw [ha]; rfl))

/-! ### The requests -/

theorem exec_classQuery (ho : s.offers r rest) (p : Drum) (n k c : Byte) (hn : r.code.toNat = 7)
    (ha : r.args = [byte p.val, n, k, c]) :
    (n.toNat ≤ 15 → k.toNat ≤ 31 → c.toNat ≤ 15 →
      exec .classQuery s =
        .next (s.answered r rest .ok (queryData s.classifier (tupleNumber p.val n.toNat k.toNat c.toNat)))) ∧
    (15 < n.toNat ∨ 31 < k.toNat ∨ 15 < c.toNat → exec .classQuery s = .next (s.answered r rest .badArg [])) := by
  have hm : isCode 7 r = true := isCode_of_length hn (by rw [ha]; rfl)
  have hp := toNat_byte_drum p
  refine ⟨fun h1 h2 h3 => ?_, fun hout => exec_refused rfl ho hm (queryTuple_outOfRange ha (.inr hout))⟩
  rw [← hp]
  exact exec_read rfl ho hm (queryTuple_inRange ha ⟨by omega, h1, h2, h3⟩)

theorem exec_classRead (ho : s.offers r rest) (hi lo count : Byte) (hn : r.code.toNat = 8)
    (ha : r.args = [hi, lo, count]) :
    (be16 hi lo ≤ 511 → count.toNat ≤ 16 →
      exec .classRead s =
        .next
          { s with
            cabinet :=
              s.replied r rest .ok
                (byte (readCount (be16 hi lo) count.toNat) ::
                  (List.range (readCount (be16 hi lo) count.toNat)).flatMap fun i =>
                    entryRecord s.classifier (be16 hi lo + i)) }) ∧
    (511 < be16 hi lo ∨ 16 < count.toNat →
      exec .classRead s = .next { s with cabinet := s.replied r rest .badArg [] }) := by
  have hm : isCode 8 r = true := isCode_of_length hn (by rw [ha]; rfl)
  have hnames : r.names = none := names_classRead hn
  exact ⟨fun h1 h2 => exec_read_unnamed rfl ho hm hnames (readEntries_inRange ha h1 h2),
    fun hout => exec_refused_unnamed rfl ho hm hnames (readEntries_outOfRange ha hout)⟩

theorem exec_attrRead (ho : s.offers r rest) (hn : r.code.toNat = 22) (ha : r.args = [byte d.val]) :
    exec .attrRead s =
      .next
        (s.answered r rest .ok
          (flagByte s.attributes.valid :: ([0, 1, 2, 3, 4, 5, 6, 7] : List (Fin 8)).flatMap (attrBytes s d))) :=
  exec_read rfl ho (isCode_of_length hn (by rw [ha]; rfl)) (attrRead_args ha)

end

/-- Settles O20: each owner answers with its report or refuses, on the state with the request taken. -/
theorem readingRequestsChangeNothing : Obligations.ReadingRequestsChangeNothing := by
  intro s r rest ho
  have code {n : Nat} (hn : n < 256) (h : r.code = byte n) : r.code.toNat = n := code_toNat hn h
  refine ⟨fun p n k c hn ha => exec_classQuery ho p n k c (code (by decide) hn) ha, fun p n k c hn ha hp => ?_,
    fun hi lo count hn ha => exec_classRead ho hi lo count (code (by decide) hn) ha, fun d hn ha => ?_,
    fun x hn ha => ?_, fun d hn ha => ?_, fun d hn ha => ?_, fun x hn ha => ?_,
    fun x hn hx => ⟨fun ha => ?_, fun ha => ?_⟩⟩
  · have hn := code (n := 7) (by decide) hn
    exact exec_refused_unnamed rfl ho (isCode_of_length hn (by rw [ha]; rfl)) (names_query_above hn (by rw [ha]; exact hp))
      (queryTuple_outOfRange ha (.inl hp))
  · simp only [← attrBytes_eq]
    exact exec_attrRead ho (code (by decide) hn) ha
  · have hn := code (n := 24) (by decide) hn
    exact exec_read_unnamed rfl ho (isScope_args hn ha) (names_part hn (by simp [ha, natAt, byteAt]))
      (onScopePart_args ha (by decide))
  · exact exec_read rfl ho (isScope_args (code (by decide) hn) ha) (onScopeDrum_args ha (by decide))
  · exact exec_read rfl ho (isScope_args (code (by decide) hn) ha) (onScopeDrum_args ha (by decide))
  · have hn := code (n := 24) (by decide) hn
    exact exec_read_unnamed rfl ho (isScope_args hn ha) (names_part hn (by simp [ha, natAt, byteAt]))
      (onScopePart_args ha (by decide))
  · have hn := code (n := 24) (by decide) hn
    exact exec_refused_unnamed rfl ho (isScope_args hn ha) (names_scope_above hn (by rw [ha]; exact hx))
      (onScopeDrum_above (by rw [ha]; exact hx))
  · have hn := code (n := 24) (by decide) hn
    exact exec_refused_unnamed rfl ho (isScope_args hn ha) (names_scope_above hn (by rw [ha]; exact hx))
      (onScopeDrum_above (by rw [ha]; exact hx))

end Sys2Proof.Machine
end

section
/-! What the cycle controller's operations leave of a port: all but its command image and its standby timer. -/

namespace Sys2Proof.Machine

/-- The port without its command image and its standby timer: what no operation of the cycle controller, the burner supervisor
or the tumble controller writes. -/
def State.lanes (s : State) (d : Drum) : Port := { (s.drum d).port with image := {}, standby := none }

section
variable {s t : State} {d : Drum}

theorem lanes_of_links (h : t.links d = s.links d) : t.lanes d = s.lanes d :=
  congrArg (fun x : DrumConfig × CycleState × Port => { x.2.2 with standby := none }) h

/-- The ports agree but for their images and standby timers. -/
theorem port_of_lanes (h : t.lanes d = s.lanes d) :
    (t.drum d).port =
      { (s.drum d).port with image := (t.drum d).port.image, standby := (t.drum d).port.standby } :=
  congrArg (fun p : Port => { p with image := (t.drum d).port.image, standby := (t.drum d).port.standby }) h

section
variable (h : t.lanes d = s.lanes d)
include h

theorem state_of_lanes : (t.drum d).port.state = (s.drum d).port.state := (congrArg Port.state h :)
theorem refresh_of_lanes : (t.drum d).port.refresh = (s.drum d).port.refresh := (congrArg Port.refresh h :)
theorem slot_of_lanes : (t.drum d).port.slot = (s.drum d).port.slot := (congrArg Port.slot h :)
theorem grace_of_lanes : (t.drum d).port.grace = (s.drum d).port.grace := (congrArg Port.grace h :)
theorem hold_of_lanes : (t.drum d).port.hold = (s.drum d).port.hold := (congrArg Port.hold h :)
theorem readings_of_lanes : (t.drum d).port.readings = (s.drum d).port.readings := (congrArg Port.readings h :)
theorem debounce_of_lanes : (t.drum d).port.debounce = (s.drum d).port.debounce := (congrArg Port.debounce h :)
theorem presence_of_lanes : (t.drum d).port.presence = (s.drum d).port.presence := (congrArg Port.presence h :)
theorem serviceLock_of_lanes : (t.drum d).port.serviceLock = (s.drum d).port.serviceLock := (congrArg Port.serviceLock h :)
theorem lineTest_of_lanes : (t.drum d).port.lineTest = (s.drum d).port.lineTest := (congrArg Port.lineTest h :)

end

/-! ### The operations -/

@[simp] theorem lanes_settleStandby (d : Drum) (s : State) : (settleStandby d s).lanes d = s.lanes d := by
  simp [State.lanes, settleStandby]

@[simp] theorem lanes_reloadStandby (d e : Drum) (s : State) : (reloadStandby e s).lanes d = s.lanes d := by
  unfold State.lanes reloadStandby
  by_cases h : d = e
  · subst h; simp
  · rw [drum_onDrum_ne _ _ h]

@[simp] theorem lanes_setCycle (d : Drum) (new : CycleState) (f : Cycle → Cycle) (s : State) :
    (setCycle d new f s).lanes d = s.lanes d := by
  unfold setCycle
  dsimp only
  rw [lanes_settleStandby, lanes_of_links (links_burnerUpdate d d _)]
  have hfan := lanes_of_links (links_writeFan d new.fanOnEntry (s.onCycle d fun c => { f c with state := new }))
  have hcycle : (s.onCycle d fun c => { f c with state := new }).lanes d = s.lanes d := by simp [State.lanes]
  rw [← hcycle, ← hfan]
  simp [State.lanes]

@[simp] theorem lanes_enterVacant (d : Drum) (s : State) : (enterVacant d s).lanes d = s.lanes d := lanes_setCycle d _ _ s

@[simp] theorem lanes_startCooling (d : Drum) (r : Reason) (s : State) : (startCooling d r s).lanes d = s.lanes d :=
  lanes_setCycle d _ _ s

@[simp] theorem lanes_onCycle (d : Drum) (f : Cycle → Cycle) (s : State) : (s.onCycle d f).lanes d = s.lanes d := by
  simp [State.lanes]

@[simp] theorem lanes_enterDone (d : Drum) (s : State) : (enterDone d s).lanes d = s.lanes d := by
  have hdone : (tumbleStop d (setCycle d .done Cycle.cleared s)).lanes d = s.lanes d :=
    (lanes_of_links (links_tumbleStop d _)).trans (lanes_setCycle d _ _ s)
  have hraised := (lanes_of_links (links_raise (.cycle d) .cycleDone d d (some (byte (s.drum d).cycle.reason.code)) _)).trans
    hdone
  unfold enterDone
  dsimp only
  split
  · exact (lanes_of_links (links_handIncrement _ _ _ _ _)).trans hraised
  · exact hraised

@[simp] theorem lanes_pauseCycle (d : Drum) (c : PauseCause) (s : State) : (pauseCycle d c s).lanes d = s.lanes d := by
  unfold pauseCycle
  dsimp only
  refine (lanes_of_links (links_raise _ _ _ _ _ _)).trans ?_
  split
  · rw [lanes_of_links (links_writeFan d false _), lanes_of_links (links_tumbleHold d _), lanes_setCycle]
  · rw [lanes_of_links (links_tumbleHold d _), lanes_setCycle]

@[simp] theorem lanes_pauseOrJoin (d : Drum) (c : PauseCause) (s : State) : (pauseOrJoin d c s).lanes d = s.lanes d := by
  unfold pauseOrJoin
  split
  case h_1 | h_2 | h_3 => exact lanes_pauseCycle d c s
  case h_4 => exact lanes_of_links (links_joinCause d c s)
  all_goals rfl

@[simp] theorem lanes_heatEnd (d : Drum) (r : Reason) (s : State) : (heatEnd d r s).lanes d = s.lanes d := by
  unfold heatEnd
  dsimp only
  split
  case h_1 => exact lanes_startCooling d r s
  case h_2 | h_3 => split <;> simp
  all_goals rfl

@[simp] theorem lanes_cycleDoorOpened (d : Drum) (s : State) : (cycleDoorOpened d s).lanes d = s.lanes d := by
  unfold cycleDoorOpened
  split <;> simp

@[simp] theorem lanes_cycleAirflowLost (d : Drum) (s : State) : (cycleAirflowLost d s).lanes d = s.lanes d := by
  unfold cycleAirflowLost
  dsimp only
  split <;> simp

@[simp] theorem lanes_cycleAirflowProven (d : Drum) (s : State) : (cycleAirflowProven d s).lanes d = s.lanes d :=
  lanes_of_links (links_cycleAirflowProven d s)

@[simp] theorem lanes_cycleNodeLost (d : Drum) (n : Nat) (s : State) : (cycleNodeLost d n s).lanes d = s.lanes d := by
  unfold cycleNodeLost
  (repeat' split) <;> simp

@[simp] theorem lanes_cycleGraceExpired (d : Drum) (s : State) : (cycleGraceExpired d s).lanes d = s.lanes d := by
  unfold cycleGraceExpired
  split <;> simp

@[simp] theorem lanes_cycleOnChange (d : Drum) (x : Discrete) (safe : Bool) (s : State) :
    (cycleOnChange d x safe s).lanes d = s.lanes d := by
  unfold cycleOnChange
  split <;> simp

theorem lanes_presenceChange (d : Drum) (old new : BitVec 16) (s : State) (n : Nat) :
    (presenceChange d old new s n).lanes d = s.lanes d := by
  unfold presenceChange
  (repeat' split)
  · exact lanes_of_links (links_raise _ _ _ _ _ _)
  · exact (lanes_cycleNodeLost d n _).trans (lanes_of_links (links_raise _ _ _ _ _ _))
  · rfl

theorem lanes_graceExpires (d : Drum) (s : State) :
    (graceExpires d s).lanes d = { s.lanes d with grace := none } := by
  unfold graceExpires
  rw [lanes_cycleGraceExpired, lanes_of_links (links_linkLostNotice d _)]
  simp [State.lanes]

theorem lanes_setPortState (d : Drum) (st : PortState) (s : State) :
    (setPortState d st s).lanes d =
      { s.lanes d with state := st, laneLocked := (s.drum d).port.laneLocked && st == .test } := by
  unfold setPortState
  rw [lanes_settleStandby]
  simp [State.lanes]

theorem lanes_leaveUp (d : Drum) (st : PortState) (s : State) :
    (leaveUp d st s).lanes d =
      { s.lanes d with
        state := st
        laneLocked := (s.drum d).port.laneLocked && st == .test
        slot := none
        sending := none
        refresh := none } := by
  unfold leaveUp
  rw [lanes_setPortState]
  simp [State.lanes]

end

/-! ### Commands -/

theorem onlyIf_pos {c : Bool} {f : State → State} {s : State} (h : c = true) : onlyIf c f s = f s := by
  rw [h]; rfl

theorem onlyIf_neg {c : Bool} {f : State → State} {s : State} (h : ¬c = true) : onlyIf c f s = s := by
  rw [Bool.eq_false_iff.mpr h]; rfl

theorem due_iff {t : Timer} : due t = true ↔ t = some 0 := by simp [due]

end Sys2Proof.Machine
end

section
/-! The refresh timer; settles O43. -/

namespace Sys2Proof.Machine

section
variable {s t : State} {d e : Drum}

/-! ### The commands on the main lane -/

theorem exec_refreshExpiry (hrun : s.resetHeld = false) :
    exec (.refreshExpiry d) s =
      .next (onlyIf (s.portUp d && due (s.drum d).port.refresh) (refreshExpires d) s) :=
  running_released _ hrun

theorem exec_mainLaneLock (hrun : s.resetHeld = false) :
    ((s.drum d).port.state ∈ [PortState.off, .service, .up] → exec (.mainLaneLock d) s = .next s) ∧
    ((s.drum d).port.state = .test →
      exec (.mainLaneLock d) s = .next (s.onPort d fun p => { p with laneLocked := true })) ∧
    ((s.drum d).port.state = .seek → exec (.mainLaneLock d) s = .next (enterUp d s)) := by
  have h : exec (.mainLaneLock d) s = execMainLaneLock d s := rfl
  rw [h, execMainLaneLock, running_released _ hrun]
  refine ⟨fun hmem => ?_, fun hst => ?_, fun hst => ?_⟩
  · simp only [List.mem_cons, List.not_mem_nil, or_false] at hmem
    rcases hmem with hst | hst | hst <;> rw [hst]
  · rw [hst]
  · rw [hst]

theorem exec_mainLaneLockLost (hrun : s.resetHeld = false) :
    ((s.drum d).port.state ∈ [PortState.off, .service, .seek] → exec (.mainLaneLockLost d) s = .next s) ∧
    ((s.drum d).port.state = .test →
      exec (.mainLaneLockLost d) s = .next (s.onPort d fun p => { p with laneLocked := false, lockGap := true })) ∧
    ((s.drum d).port.state = .up → exec (.mainLaneLockLost d) s = .next (mainLaneLost d s)) := by
  have h : exec (.mainLaneLockLost d) s = execMainLaneLockLost d s := rfl
  rw [h, execMainLaneLockLost, running_released _ hrun]
  refine ⟨fun hmem => ?_, fun hst => ?_, fun hst => ?_⟩
  · simp only [List.mem_cons, List.not_mem_nil, or_false] at hmem
    rcases hmem with hst | hst | hst <;> rw [hst]
  · rw [hst]
  · rw [hst]

theorem exec_commandFrameSend (hrun : s.resetHeld = false) :
    exec (.commandFrameSend d) s =
      .next (onlyIf ((s.drum d).port.sends && (s.drum d).port.sending.isNone) (beginSend d) s) :=
  running_released _ hrun

/-! ### What becomes of the refresh timer -/

theorem refresh_enterUp (d : Drum) (s : State) :
    ((enterUp d s).drum d).port.refresh = some ((s.drum d).config.refreshSteps * 10) := by
  unfold enterUp
  rw [refresh_of_lanes (lanes_settleStandby d _), refresh_of_lanes (lanes_of_links (links_raise _ _ _ _ _ _))]
  simp

/-- The lane's part of a loss of lock: leaving UP, then what the cycle controller does of it. -/
theorem lanes_mainLaneLost (d : Drum) (s : State) :
    ∃ g, (mainLaneLost d s).lanes d = { (leaveUp d .seek s).lanes d with grace := g } := by
  have hlost : (handIncrement (.port d) d 6 (raise (.port d) .linkLost d none (leaveUp d .seek s))).lanes d =
      (leaveUp d .seek s).lanes d :=
    (lanes_of_links (links_handIncrement _ _ _ _ _)).trans (lanes_of_links (links_raise _ _ _ _ _ _))
  unfold mainLaneLost
  dsimp only
  split
  · split
    · exact ⟨none, by rw [lanes_graceExpires, hlost]⟩
    · exact ⟨some ((s.drum d).config.graceSteps * 100), by rw [← hlost]; simp [State.lanes]⟩
  · exact ⟨((leaveUp d .seek s).lanes d).grace, by rw [lanes_of_links (links_linkLostNotice d _), hlost]⟩

theorem refresh_mainLaneLost (d : Drum) (s : State) : ((mainLaneLost d s).drum d).port.refresh = none := by
  obtain ⟨g, h⟩ := lanes_mainLaneLost d s
  rw [lanes_leaveUp] at h
  exact congrArg Port.refresh h

theorem refresh_beginSend (d : Drum) (s : State) :
    ((beginSend d s).drum d).port.refresh = (s.drum d).port.refresh := by
  unfold beginSend
  dsimp only
  split <;> simp

theorem lanes_replaceConfig (d e : Drum) (c : DrumConfig) (s : State) : (replaceConfig e c s).lanes d = s.lanes d := by
  by_cases h : d = e
  · subst h
    unfold replaceConfig
    dsimp only
    rw [lanes_settleStandby]
    split
    · rw [lanes_of_links (links_writeFan d false _), lanes_of_links (links_writeDrive d .stop _)]
      simp [State.lanes]
    · simp [State.lanes]
  · unfold State.lanes; rw [drum_replaceConfig_ne h]

theorem lanes_writeDrumConfig (d : Drum) (r : Request) (s : State) : (writeDrumConfig r s).state.lanes d = s.lanes d := by
  unfold writeDrumConfig onDrumArg
  split
  · split
    · rfl
    · dsimp only
      split
      · exact lanes_replaceConfig d _ _ s
      · rfl
  · rfl

/-- Taking a request leaves the lanes of a port as its owner leaves them. -/
theorem lanes_answer {r : Request} {rest : List Request} {h : State → Answer}
    (hh : (h (s.taken rest)).state.lanes d = (s.taken rest).lanes d) : (answer r rest h s).lanes d = s.lanes d := by
  unfold answer
  dsimp only
  split
  · exact (lanes_reloadStandby d _ _).trans hh
  · exact hh

theorem exec_drumConfigWrite_lanes (hrun : s.resetHeld = false) :
    ∃ t, exec .drumConfigWrite s = .next t ∧ t.lanes d = s.lanes d := by
  refine ⟨_, running_released _ hrun, ?_⟩
  unfold serve
  split
  · rfl
  · split
    · exact lanes_answer (lanes_writeDrumConfig d _ _)
    · rfl

theorem refreshIf_eq (m : Marks) (node : Nat) :
    m.refreshIf node = { m with refresh := m.refresh || decide (node ≠ 0) } := by
  unfold Marks.refreshIf
  by_cases h : node = 0 <;> simp [h]

end

/-- Settles O43. -/
theorem refreshTimerMarksTheBoundEntries : Obligations.RefreshTimerMarksTheBoundEntries := by
  intro s d hrun
  refine ⟨fun hno => ?_, fun hup hdue => ?_, fun hseek => ?_, fun hup => ⟨?_, ?_, ?_⟩⟩
  · rw [exec_refreshExpiry hrun, onlyIf_neg]
    rw [Bool.and_eq_true, portUp_iff, due_iff]
    tauto
  · refine ⟨refreshExpires d s, ?_, besides_refreshExpires d s, rfl, by simp [refreshExpires], by simp [refreshExpires],
      fun hhold => by simp [refreshExpires, hhold], fun hhold => by simp [refreshExpires, hhold, refreshIf_eq]⟩
    rw [exec_refreshExpiry hrun, onlyIf_pos (by rw [Bool.and_eq_true, portUp_iff, due_iff]; exact ⟨hup, hdue⟩)]
  · exact ⟨_, (exec_mainLaneLock hrun).2.2 hseek, refresh_enterUp d s⟩
  · exact ⟨_, (exec_mainLaneLockLost hrun).2.2 hup, refresh_mainLaneLost d s⟩
  · refine ⟨_, exec_commandFrameSend hrun, ?_⟩
    unfold onlyIf
    split
    · exact refresh_beginSend d s
    · rfl
  · obtain ⟨t, ht, hlanes⟩ := exec_drumConfigWrite_lanes (d := d) hrun
    exact ⟨t, ht, refresh_of_lanes hlanes⟩

end Sys2Proof.Machine
end

section
/-! The frames sent to the nodes; settles O42. -/

namespace Sys2Proof.Machine

section
variable {s : State} {d : Drum}

/-- The frame under way that the choice of a sender makes (R8, R15, R16). -/
def sendingOf (D : DrumState) (x : Sender) : Sending := ⟨x, x == .flame && D.port.image.resetLockout, senderFrame D x⟩

theorem sending_beginSend (h : (s.drum d).port.sending = none) :
    ((beginSend d s).drum d).port.sending =
      (nextSender ((s.drum d).port.image.dropUnbound (s.drum d).config) (s.drum d).port.slot).map
        (sendingOf (s.drum d)) := by
  unfold beginSend
  dsimp only
  split
  next hx => simp [hx, h]
  next x hx =>
    rw [hx]
    simp [sendingOf, Image.dropUnbound]

theorem image_beginSend (d : Drum) (s : State) :
    ((beginSend d s).drum d).port.image =
      ((nextSender ((s.drum d).port.image.dropUnbound (s.drum d).config) (s.drum d).port.slot).map
        ((s.drum d).port.image.dropUnbound (s.drum d).config).clearMarks).getD
          ((s.drum d).port.image.dropUnbound (s.drum d).config) := by
  unfold beginSend
  dsimp only
  split
  next hx => simp [hx]
  next x hx => simp [hx]

/-- The order of the senders: change-marked entries that are bound, the slot, refresh-marked entries that are bound (R16). -/
theorem nextSender_dropUnbound (i : Image) (c : DrumConfig) (slot : Option PassFrame) :
    nextSender (i.dropUnbound c) slot =
      if i.driveMarks.change = true ∧ c.motorNode ≠ 0 then some .drive
      else if i.flameMarks.change = true ∧ c.burnerNode ≠ 0 then some .flame
      else if i.fanMarks.change = true ∧ c.fanNode ≠ 0 then some .fan
      else if slot.isSome then some .slot
      else if i.driveMarks.refresh = true ∧ c.motorNode ≠ 0 then some .drive
      else if i.flameMarks.refresh = true ∧ c.burnerNode ≠ 0 then some .flame
      else if i.fanMarks.refresh = true ∧ c.fanNode ≠ 0 then some .fan
      else none := by
  have change (m : Marks) (n : Nat) : (if n = 0 then {} else m : Marks).change = true ↔ m.change = true ∧ n ≠ 0 := by
    by_cases h : n = 0 <;> simp [h]
  have refresh (m : Marks) (n : Nat) : (if n = 0 then {} else m : Marks).refresh = true ↔ m.refresh = true ∧ n ≠ 0 := by
    by_cases h : n = 0 <;> simp [h]
  unfold nextSender Image.dropUnbound
  simp only [change, refresh]

theorem drive_clearMarks (i : Image) (x : Sender) : (i.clearMarks x).drive = i.drive := by cases x <;> rfl

/-- The entry whose frame is sent has no marks (R16). -/
theorem marks_beginSend (h : (s.drum d).port.sending = none) {f : Sending}
    (hf : ((beginSend d s).drum d).port.sending = some f) :
    (f.sender = .drive → ((beginSend d s).drum d).port.image.driveMarks = {}) ∧
      (f.sender = .flame → ((beginSend d s).drum d).port.image.flameMarks = {}) ∧
      (f.sender = .fan → ((beginSend d s).drum d).port.image.fanMarks = {}) := by
  rw [sending_beginSend h] at hf
  obtain ⟨x, hx, rfl⟩ := Option.map_eq_some_iff.mp hf
  rw [image_beginSend, hx]
  refine ⟨?_, ?_, ?_⟩ <;> rintro rfl <;> rfl

theorem drive_beginSend (d : Drum) (s : State) :
    ((beginSend d s).drum d).port.image.drive = (s.drum d).port.image.drive := by
  rw [image_beginSend]
  cases nextSender ((s.drum d).port.image.dropUnbound (s.drum d).config) (s.drum d).port.slot
  · rfl
  · exact drive_clearMarks _ _

theorem slot_beginSend (d : Drum) (s : State) : ((beginSend d s).drum d).port.slot = (s.drum d).port.slot := by
  unfold beginSend; dsimp only; split <;> simp

theorem flight_beginSend (d : Drum) (s : State) : (beginSend d s).flight = s.flight := by
  unfold beginSend; dsimp only; split <;> rfl

theorem exec_commandFrameSent (hrun : s.resetHeld = false) :
    ((s.drum d).port.sending = none → exec (.commandFrameSent d) s = .next s) ∧
    ∀ f, (s.drum d).port.sending = some f →
      exec (.commandFrameSent d) s =
        .next
          (s.onPort d fun p =>
            { p with
              sending := none
              slot := if f.sender = .slot then none else p.slot
              image := if f.carriesReset then { p.image with resetLockout := false } else p.image }) := by
  have h : exec (.commandFrameSent d) s = execCommandFrameSent d s := rfl
  rw [h, execCommandFrameSent, running_released _ hrun]
  exact ⟨fun hnone => by rw [hnone], fun f hsome => by rw [hsome]⟩

end

/-- Settles O42: the choice of the next sender on the image without unbound marks, case by case. -/
theorem commandFramesLeaveInOrder : Obligations.CommandFramesLeaveInOrder := by
  intro s d hrun
  refine ⟨fun hno => ?_, fun hup hhold hfree => ?_, (exec_commandFrameSent hrun).1, fun f hf => ?_⟩
  · rw [exec_commandFrameSend hrun, onlyIf_neg]
    simp only [Port.sends, Bool.and_eq_true, beq_iff_eq, Bool.not_eq_true', Option.isNone_iff_eq_none]
    rintro ⟨⟨hup, hhold⟩, hfree⟩
    simp_all
  · refine ⟨beginSend d s, ?_, besides_beginSend d s, flight_beginSend d s, drive_beginSend d s, slot_beginSend d s,
      refresh_beginSend d s, ?_, fun f hf => marks_beginSend hfree hf⟩
    · rw [exec_commandFrameSend hrun, onlyIf_pos (by simp [Port.sends, hup, hhold, hfree])]
    · rw [sending_beginSend hfree, nextSender_dropUnbound]
      have hdrive : (Sender.drive == .flame) = false := rfl
      have hfan : (Sender.fan == .flame) = false := rfl
      have hsl : (Sender.slot == .flame) = false := rfl
      cases hslot : (s.drum d).port.slot <;>
        simp [hdrive, hfan, hsl, apply_ite (Option.map (sendingOf (s.drum d))), sendingOf, senderFrame, flamePayload, fanPayload, hslot]
  · rw [(exec_commandFrameSent hrun).2 f hf]
    cases hreset : f.carriesReset <;> rfl

end Sys2Proof.Machine
end

section
/-! PORT_CONTROL by its bytes, and node hold; settles O31. -/

namespace Sys2Proof.Machine

section
variable {s u : State} {r : Request} {rest : List Request} {d : Drum} {a x : Byte}

/-! ### The requests -/

theorem isPortAction_args (hn : r.code.toNat = 18) (ha : r.args = [byte d.val, a, x]) :
    isPortAction a.toNat r = true :=
  isPortAction_of (by unfold Request.valid; rw [hn, ha]; rfl) hn (.inl (by rw [ha]; rfl))

theorem onPortArg_args {h : Drum → State → Answer} (ha : r.args = [byte d.val, a, x]) (h7 : a.toNat ≤ 7) :
    onPortArg h r u = h d u := by
  unfold onPortArg
  rw [drumOf_args ha, ha]
  exact if_neg (not_lt.mpr h7)

/-- The state after an owner's work on one drum, the cabinet record as it was. -/
theorem besides_onCabinet (h : u.besides d = (s.taken rest).besides d) :
    (u.onCabinet fun _ => s.cabinet).besides d = s.besides d :=
  congrArg (fun b : Besides => { b with cabinet := s.cabinet }) h

/-- A request that its owner answers OK with work on one drum. -/
theorem exec_drumWork {c : Instr} {o : Owner} {op : State → State} (hc : ownerOf c = some o) (ho : s.offers r rest)
    (hm : o.mine r = true) (hr : o.serves r (s.taken rest) = ok (op (s.taken rest)))
    (hb : (op (s.taken rest)).besides d = (s.taken rest).besides d) :
    exec c s = .next (((op (s.taken rest)).onCabinet fun _ => s.cabinet).answered r rest .ok []) ∧
      ((op (s.taken rest)).onCabinet fun _ => s.cabinet).besides d = s.besides d :=
  ⟨exec_done hc ho hm hr (cabinet_of_besides hb), besides_onCabinet hb⟩

/-- A request that its owner answers OK and changes nothing. -/
theorem exec_idle {c : Instr} {o : Owner} (hc : ownerOf c = some o) (ho : s.offers r rest) (hm : o.mine r = true)
    (hr : o.serves r (s.taken rest) = ok (s.taken rest)) : exec c s = .next (s.answered r rest .ok []) :=
  exec_read hc ho hm hr

theorem idle_iff {st : CycleState} : st.idle = true ↔ st ∈ [CycleState.vacant, .done, .halted] := by
  cases st <;> simp [CycleState.idle]

theorem canHold_iff {D : DrumState} :
    D.canHold = true ↔ D.cycle.state ∈ [CycleState.vacant, .ready, .done, .halted] ∧ D.port.state ≠ .test := by
  unfold DrumState.canHold
  cases D.cycle.state <;> simp [CycleState.idle]

/-! ### Node hold -/

/-- The cycle states in which the loss of a node means nothing (R80). -/
theorem cycleNodeLost_quiet (h : (s.drum d).cycle.state ∈ [CycleState.vacant, .ready, .done, .halted]) (n : Nat) :
    cycleNodeLost d n s = s := by
  simp only [List.mem_cons, List.not_mem_nil, or_false] at h
  unfold cycleNodeLost
  split
  · rcases h with h | h | h | h <;> rw [h]
  · rfl

/-- The report of lost nodes. -/
def nodesLost (d : Drum) (old : BitVec 16) (now : Clock) (l : List Nat) : List Event :=
  (l.filter fun n => old.getLsbD n).map fun n => ⟨.port d, .nodeLost, d, now, some (byte n)⟩

/-- An emptied presence set, where the cycle does not depend on it: each node present is reported lost (R13, R14). -/
theorem foldl_presenceChange_quiet (h : (s.drum d).cycle.state ∈ [CycleState.vacant, .ready, .done, .halted])
    (old : BitVec 16) (l : List Nat) :
    l.foldl (presenceChange d old 0#16) s =
      s.onFlight fun f => { f with events := f.events ++ nodesLost d old s.clock l } := by
  induction l generalizing s with
  | nil => simp [nodesLost, State.onFlight]
  | cons n l ih =>
    rw [List.foldl_cons]
    cases hn : old.getLsbD n
    case false =>
      have hstep : presenceChange d old 0#16 s n = s := by simp [presenceChange, hn]
      rw [hstep, ih h]
      simp [nodesLost, hn]
    case true =>
      have hraised : ((raise (.port d) .nodeLost d (some (byte n)) s).drum d).cycle.state ∈
          [CycleState.vacant, .ready, .done, .halted] := by
        rw [(keeps_raise _ _ _ _ _ _).2.1]; exact h
      have hstep : presenceChange d old 0#16 s n = raise (.port d) .nodeLost d (some (byte n)) s := by
        unfold presenceChange
        simp only [BitVec.getLsbD_zero, hn, Bool.not_true, Bool.and_false, Bool.false_eq_true, if_false, Bool.not_false,
          Bool.and_true, if_true]
        exact cycleNodeLost_quiet hraised n
      rw [hstep, ih hraised]
      simp [nodesLost, hn, raise, State.onFlight]

theorem setHold_quiet (h : (s.drum d).cycle.state ∈ [CycleState.vacant, .ready, .done, .halted]) :
    setHold d s =
      (s.onPort d fun p => { p with hold := true, presence := 0, image := p.image.unmarked }).onFlight fun f =>
        { f with events := f.events ++ nodesLost d (s.drum d).port.presence s.clock nodeAddresses } := by
  have hmask : ((0 : BitVec 16) &&& 0x7FFE#16) = 0#16 := by decide
  have hbase : ((s.onPort d fun p => { p with hold := true, image := p.image.unmarked }).onPort d fun p =>
      { p with presence := 0#16 }) =
        s.onPort d fun p => { p with hold := true, presence := 0, image := p.image.unmarked } := by
    simp [State.onPort, State.onDrum, Vector.set_set]
  unfold setHold setPresence
  dsimp only
  rw [hmask, foldl_presenceChange_quiet (by simpa using h), hbase]
  simp

theorem markIf_change (m : Marks) (n : Nat) : (m.markIf n).change = (m.change || decide (n ≠ 0)) := by
  unfold Marks.markIf
  by_cases h : n = 0 <;> simp [h]

theorem flight_clearHold (d : Drum) (s : State) : (clearHold d s).flight = s.flight := rfl

end

/-- Settles O31: by the owners of HOLD_NODES and RELEASE_NODES. -/
theorem nodeHoldIsSetAndReleased : Obligations.NodeHoldIsSetAndReleased := by
  intro s r rest d x ho hcode
  have hn : r.code.toNat = 18 := code_toNat (by decide) hcode
  refine ⟨fun ha => ?_, fun ha => ?_⟩
  · have hm : isPortAction 3 r = true := isPortAction_args hn ha
    have hserve : onPortArg holdNodes r (s.taken rest) = holdNodes d (s.taken rest) := onPortArg_args ha (by decide)
    refine ⟨fun hno => ?_, fun hstate hport => ⟨fun hhold => ?_, fun hhold => ?_⟩⟩
    · have hcan : ¬((s.taken rest).drum d).canHold = true := by rw [canHold_iff]; tauto
      exact exec_refused rfl ho hm (hserve.trans (if_neg hcan))
    · have hcan : ((s.taken rest).drum d).canHold = true := canHold_iff.mpr ⟨hstate, hport⟩
      exact exec_idle rfl ho hm (hserve.trans ((if_pos hcan).trans (congrArg ok (if_pos hhold))))
    · have hcan : ((s.taken rest).drum d).canHold = true := canHold_iff.mpr ⟨hstate, hport⟩
      have hwork : holdNodes d (s.taken rest) = ok (setHold d (s.taken rest)) :=
        (if_pos hcan).trans (congrArg ok (if_neg (by simp [hhold])))
      obtain ⟨hexec, hbesides⟩ := exec_drumWork (c := .holdNodes) (op := setHold d) rfl ho hm (hserve.trans hwork)
        (besides_setHold d _)
      refine ⟨_, hexec, hbesides, ?_⟩
      rw [setHold_quiet (s := s.taken rest) hstate]
      exact ⟨rfl, rfl, by simp [Image.unmarked]⟩
  · have hm : isPortAction 4 r = true := isPortAction_args hn ha
    have hserve : onPortArg releaseNodes r (s.taken rest) = releaseNodes d (s.taken rest) := onPortArg_args ha (by decide)
    refine ⟨fun hhold => ?_, fun hhold => ?_⟩
    · exact exec_idle rfl ho hm (hserve.trans (congrArg ok (if_neg (by simp [hhold]))))
    · have hwork : releaseNodes d (s.taken rest) = ok (clearHold d (s.taken rest)) := congrArg ok (if_pos hhold)
      obtain ⟨hexec, hbesides⟩ := exec_drumWork (c := .releaseNodes) (op := clearHold d) rfl ho hm (hserve.trans hwork)
        (besides_clearHold d _)
      refine ⟨_, hexec, hbesides, rfl, fun hdown => ?_, fun hup => ?_⟩
      · simp [clearHold, hdown]
      · simp [clearHold, hup, Image.markAll, markIf_change]

end Sys2Proof.Machine
end

section
/-! A port that moves out of UP or SEEK, with the link-lost notice or without it (R6, R7). -/

namespace Sys2Proof.Machine

section
variable {s s' t t' : State} {d : Drum} {st : PortState}

/-! ### The notice -/

/-- The notice reads, of the state before it, the drum's tumble controller, tangle monitor, cycle and burner. -/
theorem noticeTaken_congr_left (htumble : (s'.drum d).tumble = (s.drum d).tumble)
    (htangle : (s'.drum d).tangle = (s.drum d).tangle) (hcycle : (s'.drum d).cycle = (s.drum d).cycle)
    (hburner : (s'.drum d).burner = (s.drum d).burner) (h : NoticeTaken s' t d) : NoticeTaken s t d := by
  unfold NoticeTaken at h ⊢
  rw [htumble, htangle, hcycle, hburner] at h
  exact h

/-- Of the state after it, the notice says nothing but of the DRIVE and FLAME entries and these blocks. -/
theorem noticeTaken_congr_right (hdrive : (t'.drum d).port.image.drive = (t.drum d).port.image.drive)
    (hflame : (t'.drum d).port.image.flameStage = (t.drum d).port.image.flameStage)
    (htumble : (t'.drum d).tumble = (t.drum d).tumble) (htangle : (t'.drum d).tangle = (t.drum d).tangle)
    (hcycle : (t'.drum d).cycle = (t.drum d).cycle) (hburner : (t'.drum d).burner = (t.drum d).burner)
    (h : NoticeTaken s t d) : NoticeTaken s t' d := by
  unfold NoticeTaken at h ⊢
  rw [hdrive, hflame, htumble, htangle, hcycle, hburner]
  exact h

/-- The notice raises no event and hands on no increment (R7). -/
theorem flight_linkLostNotice (d : Drum) (s : State) :
    (linkLostNotice d s).flight.events = s.flight.events ∧
      (linkLostNotice d s).flight.increments = s.flight.increments := by
  have tumble : (tumbleNotice d s).flight.events = s.flight.events ∧
      (tumbleNotice d s).flight.increments = s.flight.increments := by
    unfold tumbleNotice leaveRun
    dsimp only
    split <;> simp [flight_burnerUpdate]
  unfold linkLostNotice burnerNotice setRest
  simp [flight_burnerUpdate, tumble]

/-! ### The moves -/

theorem movePort_of_up (h : (s.drum d).port.state = .up) : movePort d st s = linkLostNotice d (leaveUp d st s) := by
  unfold movePort; rw [if_pos h]

theorem movePort_of_grace (h : (s.drum d).port.state ≠ .up) (hg : (s.drum d).port.grace ≠ none) :
    movePort d st s = linkLostNotice d (setPortState d st (s.onPort d fun p => { p with grace := none })) := by
  unfold movePort
  rw [if_neg h, if_pos (Option.isSome_iff_ne_none.mpr hg)]

theorem movePort_of_plain (h : (s.drum d).port.state ≠ .up) (hg : (s.drum d).port.grace = none) :
    movePort d st s = setPortState d st s := by
  unfold movePort
  rw [if_neg h, if_neg (by simp [hg])]

theorem noticeTaken_movePort (h : (s.drum d).port.state = .up ∨ (s.drum d).port.grace ≠ none) :
    NoticeTaken s (movePort d st s) d := by
  by_cases hup : (s.drum d).port.state = .up
  · rw [movePort_of_up hup]
    exact noticeTaken_congr_left (by simp) (by simp) (by simp) (by simp) (noticeTaken_linkLostNotice d _)
  · rw [movePort_of_grace hup (h.resolve_left hup)]
    exact noticeTaken_congr_left (by simp) (by simp) (by simp) (by simp) (noticeTaken_linkLostNotice d _)

theorem lanes_onPort_grace (d : Drum) (g : Timer) (s : State) :
    (s.onPort d fun p => { p with grace := g }).lanes d = { s.lanes d with grace := g } := by
  simp [State.lanes]

/-- What a move makes of the lanes: from UP slot, frame under way and refresh timer are dropped, elsewhere the grace interval
ends. -/
theorem lanes_movePort (d : Drum) (st : PortState) (s : State) :
    ((s.drum d).port.state = .up → (movePort d st s).lanes d = (leaveUp d st s).lanes d) ∧
    ((s.drum d).port.state ≠ .up →
      (movePort d st s).lanes d =
        { s.lanes d with
          grace := none, state := st, laneLocked := (s.drum d).port.laneLocked && st == .test }) := by
  refine ⟨fun hup => ?_, fun hup => ?_⟩
  · rw [movePort_of_up hup, lanes_of_links (links_linkLostNotice d _)]
  · by_cases hg : (s.drum d).port.grace = none
    · rw [movePort_of_plain hup hg, lanes_setPortState]
      have hsame : (s.lanes d).grace = none := hg
      simp [State.lanes, hg]
    · rw [movePort_of_grace hup hg, lanes_of_links (links_linkLostNotice d _), lanes_setPortState, lanes_onPort_grace]
      simp

/-- The fields of the lanes that every move leaves. -/
theorem keeps_lanes_movePort (d : Drum) (st : PortState) (s : State) :
    ((movePort d st s).drum d).port.state = st ∧
      ((movePort d st s).drum d).port.hold = (s.drum d).port.hold ∧
      ((movePort d st s).drum d).port.lineTest = (s.drum d).port.lineTest ∧
      ((movePort d st s).drum d).port.readings = (s.drum d).port.readings ∧
      ((movePort d st s).drum d).port.presence = (s.drum d).port.presence ∧
      ((s.drum d).port.state = .up →
        ((movePort d st s).drum d).port.slot = none ∧ ((movePort d st s).drum d).port.refresh = none) ∧
      ((s.drum d).port.state ≠ .up → ((movePort d st s).drum d).port.grace = none) := by
  obtain ⟨hfrom, helse⟩ := lanes_movePort d st s
  by_cases hup : (s.drum d).port.state = .up
  · have h := hfrom hup
    rw [lanes_leaveUp] at h
    exact ⟨(congrArg Port.state h :), (congrArg Port.hold h :), (congrArg Port.lineTest h :), (congrArg Port.readings h :),
      (congrArg Port.presence h :), fun _ => ⟨(congrArg Port.slot h :), (congrArg Port.refresh h :)⟩,
      fun hno => absurd hup hno⟩
  · have h := helse hup
    exact ⟨(congrArg Port.state h :), (congrArg Port.hold h :), (congrArg Port.lineTest h :), (congrArg Port.readings h :),
      (congrArg Port.presence h :), fun hyes => absurd hyes hup, fun _ => (congrArg Port.grace h :)⟩

theorem flight_movePort (d : Drum) (st : PortState) (s : State) :
    (movePort d st s).flight.events = s.flight.events ∧
      (movePort d st s).flight.increments = s.flight.increments := by
  unfold movePort
  dsimp only
  (repeat' split) <;> simp [flight_linkLostNotice]

/-- A move without the notice touches neither burner nor tumble controller nor image. -/
theorem keeps_movePort_of_plain (h : (s.drum d).port.state ≠ .up) (hg : (s.drum d).port.grace = none) :
    ((movePort d st s).drum d).tumble = (s.drum d).tumble ∧ ((movePort d st s).drum d).burner = (s.drum d).burner ∧
      ((movePort d st s).drum d).tangle = (s.drum d).tangle ∧
      ((movePort d st s).drum d).port.image = (s.drum d).port.image := by
  rw [movePort_of_plain h hg]
  simp

/-! ### On the state in which an owner works -/

theorem noticeTaken_of_taken {rest : List Request} {k : Cabinet → Cabinet} (h : NoticeTaken (s.taken rest) t d) :
    NoticeTaken s (t.onCabinet k) d := h

end

end Sys2Proof.Machine
end

section
/-! Line tests from request to end; settles O32. -/

namespace Sys2Proof.Machine

section
variable {s u : State} {r : Request} {rest : List Request} {d : Drum} {dir : TestDirection}

/-! ### The requests -/

theorem canTest_iff {D : DrumState} :
    D.canTest = true ↔
      D.port.state ∈ [PortState.up, .seek] ∧ D.cycle.state ∈ [CycleState.vacant, .done, .halted] ∧ D.port.hold = false := by
  unfold DrumState.canTest
  rw [← idle_iff]
  simp [and_assoc]

theorem flagModeOf_eq (m : Byte) :
    flagModeOf m.toNat = if m.toNat ≤ 1 then some (if m = 0 then .latched else .live) else none := by
  by_cases h0 : m = 0
  · subst h0; rfl
  by_cases h1 : m = 1
  · subst h1; rfl
  · have h0' : m.toNat ≠ 0 := fun h => h0 (BitVec.eq_of_toNat_eq h)
    have h1' : m.toNat ≠ 1 := fun h => h1 (BitVec.eq_of_toNat_eq h)
    rw [if_neg (by omega)]
    unfold flagModeOf
    split <;> simp_all

/-- The line-test requests, their mode byte read (R21, R190). -/
theorem testRequest_args {a m : Byte} (ha : r.args = [byte d.val, a, m]) (h7 : a.toNat ≤ 7) :
    (1 < m.toNat → testRequest dir r u = refuse .badArg u) ∧
    (m.toNat ≤ 1 → (u.drum d).canTest = false → testRequest dir r u = refuse .busy u) ∧
    (m.toNat ≤ 1 → (u.drum d).canTest = true →
      testRequest dir r u = ok (startTest d dir (if m = 0 then .latched else .live) u)) := by
  have hmode : flagModeOf (natAt r.args 2) = if m.toNat ≤ 1 then some (if m = 0 then .latched else .live) else none := by
    rw [ha]; exact flagModeOf_eq m
  unfold testRequest
  rw [onPortArg_args ha h7, hmode]
  refine ⟨fun h => ?_, fun h hc => ?_, fun h hc => ?_⟩
  · rw [if_neg (by omega)]
  · rw [if_pos h, hc]; rfl
  · rw [if_pos h, hc]; rfl

/-- What a line test's start makes of its drum. -/
theorem startTest_writes (d : Drum) (dir : TestDirection) (mode : FlagMode) (s : State) :
    ((startTest d dir mode s).drum d).port =
      { ((movePort d .test s).drum d).port with
        lineTest := ⟨dir, mode, .arming, 0, false⟩
        arm := some 1000
        checker := none
        lockGap := false
        signal := some dir.startSignal } ∧
    ((startTest d dir mode s).drum d).cycle = (s.drum d).cycle ∧
    ((startTest d dir mode s).drum d).tumble = ((movePort d .test s).drum d).tumble ∧
    ((startTest d dir mode s).drum d).tangle = ((movePort d .test s).drum d).tangle ∧
    ((startTest d dir mode s).drum d).burner = ((movePort d .test s).drum d).burner ∧
    (startTest d dir mode s).flight = (movePort d .test s).flight := by
  simp [startTest]

theorem noticeTaken_startTest {mode : FlagMode} (h : (s.drum d).port.state = .up ∨ (s.drum d).port.grace ≠ none) :
    NoticeTaken s (startTest d dir mode s) d := by
  obtain ⟨hport, hcycle, htumble, htangle, hburner, -⟩ := startTest_writes d dir mode s
  have hmoved : ((movePort d .test s).drum d).cycle = (s.drum d).cycle := (keeps_movePort d .test s).2.2.2.1
  exact noticeTaken_congr_right (by rw [hport]) (by rw [hport]) htumble htangle (hcycle.trans hmoved.symm) hburner
    (noticeTaken_movePort h)

/-- A line test from UP or SEEK (R21). -/
theorem startTest_spec {m : Byte} {t : State}
    (hd : t.drum d = (startTest d dir (if m = 0 then .latched else .live) s).drum d)
    (hf : t.flight = (startTest d dir (if m = 0 then .latched else .live) s).flight) :
    t.flight.events = s.flight.events ∧ t.flight.increments = s.flight.increments ∧
      (t.drum d).port.state = .test ∧
      (t.drum d).port.lineTest = ⟨dir, if m = 0 then .latched else .live, .arming, 0, false⟩ ∧
      (t.drum d).port.arm = some 1000 ∧
      (t.drum d).port.signal = some (if dir = .send then .armChecker else .generate) ∧
      (t.drum d).cycle = (s.drum d).cycle ∧ (t.drum d).port.lockGap = false ∧ (t.drum d).port.checker = none ∧
      ((s.drum d).port.state = .up → (t.drum d).port.refresh = none ∧ (t.drum d).port.slot = none) ∧
      ((s.drum d).port.state = .up ∨ (s.drum d).port.grace ≠ none → NoticeTaken s t d) ∧
      ((s.drum d).port.state = .seek → (t.drum d).port.grace = none) ∧
      ((s.drum d).port.state = .seek → (s.drum d).port.grace = none →
        (t.drum d).tumble = (s.drum d).tumble ∧ (t.drum d).burner = (s.drum d).burner) := by
  have hnotice (h : (s.drum d).port.state = .up ∨ (s.drum d).port.grace ≠ none) : NoticeTaken s t d :=
    noticeTaken_congr_right (by rw [hd]) (by rw [hd]) (by rw [hd]) (by rw [hd]) (by rw [hd]) (by rw [hd])
      (noticeTaken_startTest h)
  obtain ⟨hport, hcycle, htumble, -, hburner, hflight⟩ := startTest_writes d dir (if m = 0 then .latched else .live) s
  rw [← hd] at hport hcycle htumble hburner
  rw [← hf] at hflight
  obtain ⟨hst, -, -, -, -, hup, hgrace⟩ := keeps_lanes_movePort d .test s
  have hseek (h : (s.drum d).port.state = .seek) : (s.drum d).port.state ≠ .up := by rw [h]; decide
  refine ⟨by rw [hflight]; exact (flight_movePort d .test s).1, by rw [hflight]; exact (flight_movePort d .test s).2,
    by rw [hport]; exact hst, by rw [hport], by rw [hport], ?_, hcycle, by rw [hport], by rw [hport],
    fun h => by rw [hport]; exact (hup h).symm, hnotice, fun h => by rw [hport]; exact hgrace (hseek h),
    fun h hg => ?_⟩
  · rw [hport]; cases dir <;> rfl
  · rw [htumble, hburner]
    obtain ⟨h1, h2, -, -⟩ := keeps_movePort_of_plain (st := .test) (hseek h) hg
    exact ⟨h1, h2⟩

theorem atEnd_eq (o : TestOutcome) : o.atEnd = if o = .arming ∨ o = .running then .ended else o := by
  cases o <;> rfl

/-- What leaving TEST makes of the port. -/
theorem leaveTest_writes (d : Drum) (o : TestOutcome) (s : State) :
    (leaveTest d o s).flight = s.flight ∧ ((leaveTest d o s).drum d).port.state = .seek ∧
      ((leaveTest d o s).drum d).port.arm = none ∧ ((leaveTest d o s).drum d).port.signal = some .disarm ∧
      ((leaveTest d o s).drum d).port.lineTest = { (s.drum d).port.lineTest with outcome := o } := by
  have hl := lanes_setPortState d .seek s
  have hst : ((setPortState d .seek s).drum d).port.state = .seek := (congrArg Port.state hl :)
  have hlt : ((setPortState d .seek s).drum d).port.lineTest = (s.drum d).port.lineTest := (congrArg Port.lineTest hl :)
  refine ⟨rfl, ?_, ?_, ?_, ?_⟩ <;> simp [leaveTest, hst, hlt]

/-! ### The steps of a test -/

theorem exec_armReport (hrun : s.resetHeld = false) :
    exec (.armReport d) s =
      .next
        (onlyIf ((s.drum d).port.state == .test && (s.drum d).port.serviceLock &&
          (s.drum d).port.lineTest.outcome == .arming) (testArmed d) s) := by
  have h : exec (.armReport d) s = execArmReport d s := rfl
  rw [h, execArmReport, running_released _ hrun]

theorem exec_armTimeout (hrun : s.resetHeld = false) :
    exec (.armTimeout d) s =
      .next
        (onlyIf ((s.drum d).port.state == .test && (s.drum d).port.lineTest.outcome == .arming &&
          due (s.drum d).port.arm) (leaveTest d .armTimeout) s) := by
  have h : exec (.armTimeout d) s = execArmTimeout d s := rfl
  rw [h, execArmTimeout, running_released _ hrun]

theorem exec_testReport {n : Byte} (hrun : s.resetHeld = false) :
    exec (.testReport d n) s =
      .next (onlyIf ((s.drum d).port.testing .send && (s.drum d).port.serviceLock) (closeInterval d n.toNat) s) := by
  have h : exec (.testReport d n) s = execTestReport d n s := rfl
  rw [h, execTestReport, running_released _ hrun]

theorem exec_checkerInterval {n : Nat} (hrun : s.resetHeld = false) :
    exec (.checkerInterval d n) s =
      .next (onlyIf ((s.drum d).port.testing .receive && due (s.drum d).port.checker) (checkerCloses d n) s) := by
  have h : exec (.checkerInterval d n) s = execCheckerInterval d n s := rfl
  rw [h, execCheckerInterval, running_released _ hrun]

/-- The close of an interval (R23): the record, and the event at the first errors. -/
theorem closeInterval_writes (d : Drum) (n : Nat) (s : State) :
    ((closeInterval d n s).drum d).port = { (s.drum d).port with lineTest := (s.drum d).port.lineTest.close n } ∧
      (closeInterval d n s).flight.increments = s.flight.increments ∧
      (closeInterval d n s).flight.events =
        s.flight.events ++
          (if (s.drum d).port.lineTest.errors = 0 ∧ 0 < n then [⟨.port d, .lineTestError, d, s.clock, none⟩] else []) := by
  unfold closeInterval
  dsimp only
  split
  next h =>
    simp only [Bool.and_eq_true, beq_iff_eq, decide_eq_true_eq] at h
    rw [if_pos h]
    exact ⟨by simp, rfl, rfl⟩
  next h =>
    simp only [Bool.and_eq_true, beq_iff_eq, decide_eq_true_eq] at h
    rw [if_neg h]
    exact ⟨by simp, rfl, by simp⟩

theorem close_errors (t : LineTest) (n : Nat) : (t.close n).errors = min 65535 (t.errors + n) := rfl

theorem close_errorFlag (t : LineTest) (n : Nat) :
    (t.mode = .latched → (t.close n).errorFlag = (t.errorFlag || decide (0 < n))) ∧
      (t.mode = .live → (t.close n).errorFlag = decide (0 < n)) := by
  unfold LineTest.close
  exact ⟨fun h => by rw [h], fun h => by rw [h]⟩

/-- The part's checker closes its interval, a time without lock counted as one error (R23, log 16). -/
theorem checkerCloses_writes (d : Drum) (n : Nat) (s : State) :
    ((checkerCloses d n s).drum d).port =
        { (s.drum d).port with
          checker := some 100
          lockGap := !(s.drum d).port.laneLocked
          lineTest := (s.drum d).port.lineTest.close (n + if (s.drum d).port.lockGap then 1 else 0) } ∧
      (checkerCloses d n s).flight.increments = s.flight.increments ∧
      (checkerCloses d n s).flight.events =
        s.flight.events ++
          (if (s.drum d).port.lineTest.errors = 0 ∧ (0 < n ∨ (s.drum d).port.lockGap = true) then
            [⟨.port d, .lineTestError, d, s.clock, none⟩]
           else []) := by
  have hn : (if (s.drum d).port.lockGap then n + 1 else n) = n + if (s.drum d).port.lockGap then 1 else 0 := by
    split <;> rfl
  have hpos : 0 < n + (if (s.drum d).port.lockGap then 1 else 0) ↔ 0 < n ∨ (s.drum d).port.lockGap = true := by
    cases (s.drum d).port.lockGap <;> simp
  obtain ⟨hport, hincr, hevents⟩ := closeInterval_writes d (n + if (s.drum d).port.lockGap then 1 else 0)
    (s.onPort d fun p => { p with checker := some 100, lockGap := !p.laneLocked })
  unfold checkerCloses
  dsimp only
  rw [hn, hport, hincr, hevents]
  simp [hpos]

theorem byte_pos_iff (n : Byte) : 0 < n.toNat ↔ n ≠ 0 := by
  rw [Nat.pos_iff_ne_zero]
  exact not_congr ⟨fun h => BitVec.eq_of_toNat_eq h, fun h => by rw [h]; rfl⟩

end

theorem lineTestRequests {s : State} {r : Request} {rest : List Request} {d : Drum} {m : Byte} (ho : s.offers r rest)
    (hn : r.code.toNat = 18) {c : Instr} {a : Byte} {dir : TestDirection} (h7 : a.toNat ≤ 7)
    (hc : ownerOf c = some ⟨isPortAction a.toNat, testRequest dir⟩) (ha : r.args = [byte d.val, a, m]) :
    (1 < m.toNat → exec c s = .next (s.answered r rest .badArg [])) ∧
    (m.toNat ≤ 1 →
      ((s.drum d).port.state ∉ [PortState.up, .seek] ∨
          (s.drum d).cycle.state ∉ [CycleState.vacant, .done, .halted] ∨ (s.drum d).port.hold = true →
        exec c s = .next (s.answered r rest .busy [])) ∧
      ((s.drum d).port.state ∈ [PortState.up, .seek] → (s.drum d).cycle.state ∈ [CycleState.vacant, .done, .halted] →
          (s.drum d).port.hold = false →
        exec c s =
            .next (((startTest d dir (if m = 0 then .latched else .live) (s.taken rest)).onCabinet
              fun _ => s.cabinet).answered r rest .ok []) ∧
          ((startTest d dir (if m = 0 then .latched else .live) (s.taken rest)).onCabinet
            fun _ => s.cabinet).besides d = s.besides d)) := by
  have hm : isPortAction a.toNat r = true := isPortAction_args hn ha
  obtain ⟨hbad, hbusy, hgood⟩ := testRequest_args (u := s.taken rest) (dir := dir) ha h7
  refine ⟨fun h => exec_refused hc ho hm (hbad h), fun h => ⟨fun hno => ?_, fun h1 h2 h3 => ?_⟩⟩
  · have hcan : ((s.taken rest).drum d).canTest = false := by
      rw [Bool.eq_false_iff, ne_eq, canTest_iff]
      rintro ⟨h1, h2, h3⟩
      rcases hno with hno | hno | hno
      · exact hno h1
      · exact hno h2
      · exact absurd (h3.symm.trans hno) nofun
    exact exec_refused hc ho hm (hbusy h hcan)
  · have hcan : ((s.taken rest).drum d).canTest = true := canTest_iff.mpr ⟨h1, h2, h3⟩
    exact exec_drumWork hc ho hm (hgood h hcan) (besides_startTest d dir _ _)

/-- Settles O32. -/
theorem lineTestsRunFromRequestToEnd : Obligations.LineTestsRunFromRequestToEnd := by
  refine ⟨fun s r rest d m ho hcode => ⟨?_, fun ha => ⟨fun hno => ?_, fun htest => ?_⟩⟩, fun s d hrun => ⟨fun hno => ?_,
    fun htest harm => ⟨fun hlock => ?_, fun hdue => ?_⟩, fun n htest hout hdir hlock => ?_, fun n htest hout hdir hdue => ?_⟩⟩
  · have hn : r.code.toNat = 18 := code_toNat (by decide) hcode
    have both {c : Instr} {a : Byte} {dir : TestDirection} (h7 : a.toNat ≤ 7)
        (hc : ownerOf c = some ⟨isPortAction a.toNat, testRequest dir⟩) (ha : r.args = [byte d.val, a, m]) :=
      lineTestRequests ho hn h7 hc ha
    simp only [List.forall_mem_cons, List.not_mem_nil, false_implies, implies_true, and_true]
    refine ⟨fun ha => ?_, fun ha => ?_⟩
    · obtain ⟨hbad, hgood⟩ := both (c := .testSend) (dir := .send) (by decide) rfl ha
      refine ⟨hbad, fun h => ⟨(hgood h).1, fun h1 h2 h3 => ?_⟩⟩
      obtain ⟨hexec, hbesides⟩ := (hgood h).2 h1 h2 h3
      exact ⟨_, hexec, hbesides, startTest_spec (s := s.taken rest) (m := m) rfl rfl⟩
    · obtain ⟨hbad, hgood⟩ := both (c := .testReceive) (dir := .receive) (by decide) rfl ha
      refine ⟨hbad, fun h => ⟨(hgood h).1, fun h1 h2 h3 => ?_⟩⟩
      obtain ⟨hexec, hbesides⟩ := (hgood h).2 h1 h2 h3
      exact ⟨_, hexec, hbesides, startTest_spec (s := s.taken rest) (m := m) rfl rfl⟩
  · have hm : isPortAction 7 r = true := isPortAction_args (code_toNat (by decide) hcode) ha
    have hserve : onPortArg (fun d s => ok (endTest d s)) r (s.taken rest) = ok (endTest d (s.taken rest)) :=
      onPortArg_args ha (by decide)
    exact exec_idle (c := .testEnd) rfl ho hm (hserve.trans (congrArg ok (if_neg hno)))
  · have hm : isPortAction 7 r = true := isPortAction_args (code_toNat (by decide) hcode) ha
    have hend : endTest d (s.taken rest) = leaveTest d (s.drum d).port.lineTest.outcome.atEnd (s.taken rest) := if_pos htest
    have hserve : onPortArg (fun d s => ok (endTest d s)) r (s.taken rest) = ok (endTest d (s.taken rest)) :=
      onPortArg_args ha (by decide)
    obtain ⟨hexec, hbesides⟩ := exec_drumWork (c := .testEnd) (op := endTest d) rfl ho hm hserve (besides_endTest d _)
    obtain ⟨hflight, hport, harm, hsignal, hrecord⟩ :=
      leaveTest_writes d (s.drum d).port.lineTest.outcome.atEnd (s.taken rest)
    rw [hend] at hexec hbesides
    exact ⟨_, hexec, hbesides, hflight, hport, harm, hsignal, by rw [← atEnd_eq]; exact hrecord⟩
  · rw [exec_armReport hrun, exec_armTimeout hrun, onlyIf_neg, onlyIf_neg]
    · exact ⟨rfl, rfl⟩
    · simp only [Bool.and_eq_true, beq_iff_eq]; tauto
    · simp only [Bool.and_eq_true, beq_iff_eq]; tauto
  · refine ⟨testArmed d s, ?_, besides_testArmed d s, rfl, ?_⟩
    · rw [exec_armReport hrun, onlyIf_pos (by simp [htest, harm, hlock])]
    · refine ⟨by simp [testArmed], by simp [testArmed], by simp [testArmed, htest], fun h => by simp [testArmed, h],
        fun h => by simp [testArmed, h], by simp, by simp, by simp, by simp⟩
  · obtain ⟨hflight, hport, -, hsignal, htest'⟩ := leaveTest_writes d .armTimeout s
    refine ⟨leaveTest d .armTimeout s, ?_, besides_leaveTest d _ s, hflight, htest', hport, hsignal⟩
    rw [exec_armTimeout hrun, onlyIf_pos (by simp [htest, harm, hdue, due])]
  · obtain ⟨hport, -, hevents⟩ := closeInterval_writes d n.toNat s
    obtain ⟨hlatched, hlive⟩ := close_errorFlag (s.drum d).port.lineTest n.toNat
    simp only [byte_pos_iff] at hlatched hlive hevents
    refine ⟨closeInterval d n.toNat s, ?_, besides_closeInterval d _ s, ?_, fun h => ?_, fun h => ?_, hevents⟩
    · rw [exec_testReport hrun, onlyIf_pos (by simp [Port.testing, htest, hout, hdir, hlock])]
    · rw [hport]; rfl
    · rw [hport]; exact hlatched h
    · rw [hport]; exact hlive h
  · obtain ⟨hport, hincr, hevents⟩ := checkerCloses_writes d n s
    obtain ⟨hlatched, hlive⟩ :=
      close_errorFlag (s.drum d).port.lineTest (n + if (s.drum d).port.lockGap then 1 else 0)
    have hpos : decide (0 < n + if (s.drum d).port.lockGap then 1 else 0) =
        (decide (0 < n) || (s.drum d).port.lockGap) := by
      cases (s.drum d).port.lockGap <;> simp
    rw [hpos] at hlatched hlive
    refine ⟨checkerCloses d n s, ?_, besides_checkerCloses d n s, by rw [hport], by rw [hport], ?_, fun h => ?_,
      fun h => ?_, hincr, hevents⟩
    · rw [exec_checkerInterval hrun, onlyIf_pos (by simp [Port.testing, htest, hout, hdir, hdue, due])]
    · rw [hport, Nat.add_assoc]; rfl
    · rw [hport]; exact hlatched h
    · rw [hport]; exact hlive h

end Sys2Proof.Machine
end

section
/-! What the cycle controller's operations hand on, and what they make of the cycle record. -/

namespace Sys2Proof.Machine

/-- The events and increments handed on. -/
def State.handed (s : State) : List Event × List Increment := (s.flight.events, s.flight.increments)

section
variable {s t : State} {d : Drum}

theorem handed_of_flight (h : t.flight.events = s.flight.events ∧ t.flight.increments = s.flight.increments) :
    t.handed = s.handed :=
  Prod.ext h.1 h.2

theorem events_of_handed (h : t.handed = s.handed) : t.flight.events = s.flight.events := congrArg Prod.fst h
theorem increments_of_handed (h : t.handed = s.handed) : t.flight.increments = s.flight.increments := congrArg Prod.snd h

/-! ### What is handed on -/

@[simp] theorem handed_onPort (d : Drum) (f : Port → Port) (s : State) : (s.onPort d f).handed = s.handed := rfl
@[simp] theorem handed_onCycle (d : Drum) (f : Cycle → Cycle) (s : State) : (s.onCycle d f).handed = s.handed := rfl
@[simp] theorem handed_onTumble (d : Drum) (f : Tumble → Tumble) (s : State) : (s.onTumble d f).handed = s.handed := rfl
@[simp] theorem handed_onTangle (d : Drum) (f : Tangle → Tangle) (s : State) : (s.onTangle d f).handed = s.handed := rfl
@[simp] theorem handed_onDrum (d : Drum) (f : DrumState → DrumState) (s : State) : (s.onDrum d f).handed = s.handed := rfl

@[simp] theorem handed_burnerUpdate (d : Drum) (s : State) : (burnerUpdate d s).handed = s.handed :=
  handed_of_flight (flight_burnerUpdate d s)

@[simp] theorem handed_writeFan (d : Drum) (on : Bool) (s : State) : (writeFan d on s).handed = s.handed :=
  handed_of_flight ⟨by simp, by simp⟩

@[simp] theorem handed_writeDrive (d : Drum) (v : DriveCmd) (s : State) : (writeDrive d v s).handed = s.handed :=
  handed_of_flight ⟨by simp, by simp⟩

@[simp] theorem handed_settleStandby (d : Drum) (s : State) : (settleStandby d s).handed = s.handed := rfl

@[simp] theorem handed_reloadStandby (d : Drum) (s : State) : (reloadStandby d s).handed = s.handed := rfl

@[simp] theorem handed_setReading (d : Drum) (x : Discrete) (v : Bool) (s : State) :
    (setReading d x v s).handed = s.handed := by
  unfold setReading; rw [handed_burnerUpdate, handed_onPort]

@[simp] theorem handed_leaveRun (d : Drum) (f : Tumble → Tumble) (s : State) : (leaveRun d f s).handed = s.handed := by
  unfold leaveRun; rw [handed_burnerUpdate, handed_onTangle, handed_onTumble]

@[simp] theorem handed_enterStopped (d : Drum) (s : State) : (enterStopped d s).handed = s.handed := by
  unfold enterStopped guardTumbleDone
  dsimp only
  split
  · split <;> simp
  · simp

@[simp] theorem handed_tumbleHold (d : Drum) (s : State) : (tumbleHold d s).handed = s.handed := by
  unfold tumbleHold enterDecel setTarget
  dsimp only
  split
  case h_4 => split <;> simp
  all_goals simp

@[simp] theorem handed_tumbleStop (d : Drum) (s : State) : (tumbleStop d s).handed = s.handed := by
  unfold tumbleStop clearPersistence; simp

@[simp] theorem handed_setCycle (d : Drum) (new : CycleState) (f : Cycle → Cycle) (s : State) :
    (setCycle d new f s).handed = s.handed := by
  unfold setCycle; simp

@[simp] theorem handed_linkLostNotice (d : Drum) (s : State) : (linkLostNotice d s).handed = s.handed :=
  handed_of_flight (flight_linkLostNotice d s)

theorem handed_raise (src : Block) (k : EventKind) (d : Drum) (x : Option Byte) (s : State) :
    (raise src k d x s).handed = (s.handed.1 ++ [⟨src, k, d, s.clock, x⟩], s.handed.2) := rfl

theorem handed_handIncrement (src : Block) (d : Drum) (a : Fin 8) (s : State) :
    (handIncrement src d a s).handed = (s.handed.1, s.handed.2 ++ [⟨src, d, a⟩]) := rfl

@[simp] theorem handed_heatEnd (d : Drum) (r : Reason) (s : State) : (heatEnd d r s).handed = s.handed := by
  unfold heatEnd startCooling
  dsimp only
  split
  case h_1 => simp
  case h_2 | h_3 => split <;> simp
  all_goals rfl

@[simp] theorem handed_enterVacant (d : Drum) (s : State) : (enterVacant d s).handed = s.handed := by
  unfold enterVacant; simp

/-- Entry to PAUSED raises CYCLE_PAUSED with its cause (R79). -/
theorem handed_pauseCycle (d : Drum) (c : PauseCause) (s : State) :
    (pauseCycle d c s).handed =
      (s.handed.1 ++ [⟨.cycle d, .cyclePaused, d, s.clock, some (byte c.code)⟩], s.handed.2) := by
  have hclock : (pauseCycle d c s).clock = s.clock := clock_of_besides (besides_pauseCycle d c s)
  unfold pauseCycle at hclock ⊢
  dsimp only at hclock ⊢
  rw [handed_raise]
  split at hclock <;> split <;> simp_all [raise]

/-- Entry to DONE raises CYCLE_DONE, and counts a cycle that ended DRY or at its time limit (R78). -/
theorem handed_enterDone (d : Drum) (s : State) :
    (enterDone d s).handed =
      (s.handed.1 ++ [⟨.cycle d, .cycleDone, d, s.clock, some (byte (s.drum d).cycle.reason.code)⟩],
        s.handed.2 ++
          (if (s.drum d).cycle.reason = .dry ∨ (s.drum d).cycle.reason = .timeLimit then [⟨.cycle d, d, 7⟩] else [])) := by
  have hclock : (tumbleStop d (setCycle d .done Cycle.cleared s)).clock = s.clock :=
    (clock_of_besides (besides_tumbleStop d _)).trans (clock_of_besides (besides_setCycle d _ _ s))
  unfold enterDone
  dsimp only
  split
  next h => rw [handed_handIncrement, handed_raise, hclock]; simp
  next h => rw [handed_raise, hclock]; simp

/-! ### What becomes of the cycle -/

theorem cycle_enterStopped (h : (s.drum d).cycle.state ≠ .guarding) :
    ((enterStopped d s).drum d).cycle = (s.drum d).cycle :=
  ((guardTumbleReported_enterStopped d s).2.2.2 (.inr h)).1

theorem cycle_tumbleHold (h : (s.drum d).cycle.state ≠ .guarding) :
    ((tumbleHold d s).drum d).cycle = (s.drum d).cycle := by
  unfold tumbleHold setTarget
  dsimp only
  split
  case h_4 => split <;> simp [cycle_enterStopped h]
  all_goals simp [cycle_enterStopped h]

theorem cycle_tumbleStop (h : (s.drum d).cycle.state ≠ .guarding) :
    ((tumbleStop d s).drum d).cycle = (s.drum d).cycle := by
  unfold tumbleStop; simp [cycle_tumbleHold h]

/-- A paused cycle: state PAUSED, and its one cause (R79). -/
theorem cycle_pauseCycle (d : Drum) (c : PauseCause) (s : State) :
    ((pauseCycle d c s).drum d).cycle.state = .paused ∧ ((pauseCycle d c s).drum d).cycle.causes = [c] := by
  unfold pauseCycle
  dsimp only
  split <;> simp [cycle_tumbleHold, (setCycle_cycle d _ _ s).1]

theorem cycle_enterDone (d : Drum) (s : State) :
    ((enterDone d s).drum d).cycle = { (s.drum d).cycle.cleared with state := .done } := by
  unfold enterDone
  dsimp only
  split <;> simp [cycle_tumbleStop, (setCycle_cycle d _ _ s).1]

theorem cycle_enterVacant (d : Drum) (s : State) :
    ((enterVacant d s).drum d).cycle = { (s.drum d).cycle.cleared with state := .vacant, record := none } :=
  (setCycle_cycle d _ _ s).1

end

end Sys2Proof.Machine
end

section
/-! The burner of a drum whose cap is 0, and what the changes of a drum at rest leave of its burner, tumble controller and
DRIVE entry. -/

namespace Sys2Proof.Machine

/-- A burner recomputed at a cap of 0 (R144): no demand, no commanded stage, no view that calls for heat. -/
def Burner.unlit (b : Burner) : Burner :=
  { b with
    demand := 0
    commanded := 0
    view := if b.view = .lighting ∨ b.view = .burning then .idle else b.view
    trial := none
    stable := none }

section
variable {s t u : State} {d : Drum}

theorem unlit_unlit (b : Burner) : b.unlit.unlit = b.unlit := by
  unfold Burner.unlit
  cases b.view <;> rfl

theorem burnerNow_of_cap {D : DrumState} (h : D.permissiveCap = 0) (g : Nat) : D.burnerNow g = D.burner.unlit := by
  unfold DrumState.burnerNow DrumState.demandNow Burner.unlit
  rw [h]
  cases hv : D.burner.view <;> simp [View.follow]

theorem flameStage_zero (v : View) : v.flameStage 0 = 0 := by cases v <;> rfl

theorem cap_of_rest {D : DrumState} (h : D.burner.rest = false) : D.permissiveCap = 0 := by
  unfold DrumState.permissiveCap
  cases D.cycle.record <;> simp [h]

theorem cap_of_state {D : DrumState} (h : D.cycle.state ≠ .drying) : D.permissiveCap = 0 := by
  unfold DrumState.permissiveCap
  cases D.cycle.record <;> simp [h]

theorem not_drying_of_idle {D : DrumState} (h : D.cycle.state.idle = true) : D.cycle.state ≠ .drying := by
  intro hd; rw [hd] at h; cases h

/-- A recomputation at a cap of 0 (R144). -/
theorem burnerUpdate_of_cap (h : (s.drum d).permissiveCap = 0) :
    ((burnerUpdate d s).drum d).burner = (s.drum d).burner.unlit ∧
      ((burnerUpdate d s).drum d).port.image.flameStage = 0 := by
  obtain ⟨hb, hf, -⟩ := burnerUpdate_writes d s
  rw [burnerNow_of_cap h] at hb hf
  exact ⟨hb, hf.trans (flameStage_zero _)⟩

/-- A change of cycle state with the rest flag clear, or to a state other than DRYING: the burner's recomputation is at a cap of
0 (R71, R141). -/
theorem burner_setCycle {new : CycleState} {f : Cycle → Cycle} (h : (s.drum d).burner.rest = false ∨ new ≠ .drying) :
    ((setCycle d new f s).drum d).burner =
        ((s.drum d).burner.onCycleState (s.drum d).cycle.state new (s.drum d).config.starvation).unlit ∧
      ((setCycle d new f s).drum d).port.image.flameStage = 0 := by
  have hrest (b : Burner) (old : CycleState) (n : Nat) : (b.onCycleState old new n).rest = b.rest := by
    unfold Burner.onCycleState; (repeat' split) <;> rfl
  unfold setCycle
  dsimp only
  simp only [keeps_settleStandby]
  have hcap : ∀ D : DrumState, D.burner.rest = (s.drum d).burner.rest → D.cycle.state = new → D.permissiveCap = 0 :=
    fun D hr hc => h.elim (fun hs => cap_of_rest (hr.trans hs)) fun hn => cap_of_state (by rw [hc]; exact hn)
  refine (burnerUpdate_of_cap (hcap _ (by simp [hrest]) (by simp))).imp_left fun hb => hb.trans ?_
  have hconfig : ((writeFan d new.fanOnEntry (s.onCycle d fun c => { f c with state := new })).drum d).config =
      (s.drum d).config := by
    rw [config_of_besides (besides_writeFan d _ _) d]; simp
  simp [hconfig]

theorem onCycleState_same (b : Burner) (old new : CycleState) (n : Nat) :
    { b.onCycleState old new n with wanted := b.wanted, starvation := b.starvation } = b := by
  unfold Burner.onCycleState; (repeat' split) <;> rfl

theorem unlit_mod (b c : Burner) (h : { b with wanted := c.wanted, starvation := c.starvation } = c) :
    { b.unlit with wanted := c.wanted, starvation := c.starvation } = c.unlit := by
  rw [← h]; rfl

/-! ### Changes of a drum at rest -/

/-- From s to t, the DRIVE entry and the tangle monitor stand, the tumble controller stands but for a stall count cleared as a
DONE cycle ends, the burner was recomputed at a cap of 0 or not at all, and no increment was handed on. -/
structure AtRest (s t : State) (d : Drum) : Prop where
  idle : (t.drum d).cycle.state.idle = true
  cycle : ((t.drum d).cycle = (s.drum d).cycle ∧ (t.drum d).tumble = (s.drum d).tumble) ∨
    ((s.drum d).cycle.state = .done ∧ (t.drum d).cycle.state = .vacant)
  tumble : { (t.drum d).tumble with stalls := (s.drum d).tumble.stalls } = (s.drum d).tumble
  tangle : (t.drum d).tangle = (s.drum d).tangle
  drive : (t.drum d).port.image.drive = (s.drum d).port.image.drive
  flame : (s.drum d).port.image.flameStage = 0 → (t.drum d).port.image.flameStage = 0
  burner : (t.drum d).burner.unlit = (s.drum d).burner.unlit
  unlit : (s.drum d).burner.unlit = (s.drum d).burner → (t.drum d).burner.unlit = (t.drum d).burner
  increments : t.flight.increments = s.flight.increments

theorem AtRest.trans (h : AtRest s t d) (h' : AtRest t u d) : AtRest s u d where
  idle := h'.idle
  cycle := by
    rcases h.cycle with ⟨hc, ht⟩ | ⟨hdone, hvac⟩ <;> rcases h'.cycle with ⟨hc', ht'⟩ | ⟨hdone', hvac'⟩
    · exact .inl ⟨hc'.trans hc, ht'.trans ht⟩
    · exact .inr ⟨by rw [← hc]; exact hdone', hvac'⟩
    · exact .inr ⟨hdone, by rw [hc']; exact hvac⟩
    · rw [hvac] at hdone'; cases hdone'
  tumble := by rw [← h.tumble, ← h'.tumble]
  tangle := h'.tangle.trans h.tangle
  drive := h'.drive.trans h.drive
  flame hz := h'.flame (h.flame hz)
  burner := h'.burner.trans h.burner
  unlit hz := h'.unlit (h.unlit hz)
  increments := h'.increments.trans h.increments

/-- What leaves the cycle, the image and the other blocks alone leaves the drum at rest. -/
theorem atRest_of_same (hi : (s.drum d).cycle.state.idle = true) (hc : (t.drum d).cycle = (s.drum d).cycle)
    (ht : (t.drum d).tumble = (s.drum d).tumble) (hm : (t.drum d).tangle = (s.drum d).tangle)
    (hb : (t.drum d).burner = (s.drum d).burner) (hp : (t.drum d).port.image = (s.drum d).port.image)
    (hf : t.flight.increments = s.flight.increments) : AtRest s t d where
  idle := by rw [hc]; exact hi
  cycle := .inl ⟨hc, ht⟩
  tumble := by rw [ht]
  tangle := hm
  drive := by rw [hp]
  flame hz := by rw [hp]; exact hz
  burner := by rw [hb]
  unlit hz := by rw [hb]; exact hz
  increments := hf

theorem atRest_refl (hi : (s.drum d).cycle.state.idle = true) : AtRest s s d :=
  atRest_of_same hi rfl rfl rfl rfl rfl rfl

theorem atRest_setReading (hi : (s.drum d).cycle.state.idle = true) (x : Discrete) (v : Bool) :
    AtRest s (setReading d x v s) d := by
  have hcap : ((s.onPort d fun p => { p with readings := p.readings.set x v }).drum d).permissiveCap = 0 :=
    cap_of_state (not_drying_of_idle (by simpa using hi))
  obtain ⟨hb, hf⟩ := burnerUpdate_of_cap hcap
  unfold setReading
  have hbb : ((s.onPort d fun p => { p with readings := p.readings.set x v }).drum d).burner = (s.drum d).burner := by simp
  rw [hbb] at hb
  exact
    { idle := by simpa using hi
      cycle := .inl (by simp)
      tumble := by simp
      tangle := by simp
      drive := by simp
      flame := fun _ => hf
      burner := by rw [hb]; exact unlit_unlit _
      unlit := fun _ => by rw [hb]; exact unlit_unlit _
      increments := increments_of_handed (by simp) }

theorem atRest_enterVacant (hdone : (s.drum d).cycle.state = .done) : AtRest s (enterVacant d s) d := by
  obtain ⟨hb, hf⟩ := burner_setCycle (s := s) (d := d) (new := .vacant) (f := fun c => { c.cleared with record := none })
    (.inr nofun)
  have hsame : (s.drum d).burner.onCycleState (s.drum d).cycle.state .vacant (s.drum d).config.starvation =
      (s.drum d).burner := by
    rw [hdone]; rfl
  rw [hsame] at hb
  have hcycle : ((enterVacant d s).drum d).cycle.state = .vacant := by rw [cycle_enterVacant]
  exact
    { idle := by rw [hcycle]; rfl
      cycle := .inr ⟨hdone, hcycle⟩
      tumble := by
        unfold enterVacant setCycle
        simp
      tangle := by simp
      drive := by simp
      flame := fun _ => hf
      burner := (congrArg Burner.unlit hb).trans (unlit_unlit _)
      unlit := fun _ => by
        have hb' : ((enterVacant d s).drum d).burner = (s.drum d).burner.unlit := hb
        rw [hb']; exact unlit_unlit _
      increments := increments_of_handed (by simp) }

end

end Sys2Proof.Machine
end

section
/-! The service lane's loss: the forced changes, and what they leave of a port and of a drum at rest (R10). -/

namespace Sys2Proof.Machine

section
variable {s t u : State} {d : Drum} {x : Discrete}

/-! ### Lanes -/

theorem lanes_setReading (d : Drum) (x : Discrete) (v : Bool) (s : State) :
    (setReading d x v s).lanes d = { s.lanes d with readings := (s.drum d).port.readings.set x v } := by
  unfold setReading
  rw [lanes_of_links (links_burnerUpdate d d _)]
  simp [State.lanes]

/-- A change of a discrete up to the cycle controller's act (R12): its event, the reading, the standby timer, an accepted
trip's count. -/
def readingTaken (d : Drum) (x : Discrete) (safe accepted : Bool) (s : State) : State :=
  let s1 :=
    match changeEvent x safe with
    | some k => raise (.port d) k d none s
    | none => s
  let s2 := reloadStandby d (setReading d x safe s1)
  if accepted && x == .highlimit && safe then handIncrement (.burner d) d 2 s2 else s2

theorem changeReading_eq (d : Drum) (x : Discrete) (safe accepted : Bool) (s : State) :
    changeReading d x safe accepted s =
      if accepted && x == .door &&
          ((cycleOnChange d x safe (readingTaken d x safe accepted s)).drum d).port.state == .service then
        setPortState d .seek (cycleOnChange d x safe (readingTaken d x safe accepted s))
      else cycleOnChange d x safe (readingTaken d x safe accepted s) := rfl

theorem changeReading_forced (d : Drum) (x : Discrete) (safe : Bool) (s : State) :
    changeReading d x safe false s = cycleOnChange d x safe (readingTaken d x safe false s) := by
  rw [changeReading_eq]; rfl

theorem lanes_readingTaken (d : Drum) (x : Discrete) (safe accepted : Bool) (s : State) :
    (readingTaken d x safe accepted s).lanes d =
      { s.lanes d with readings := (s.drum d).port.readings.set x safe } := by
  have hreload (v : State) (hv : v.links d = s.links d) :
      (reloadStandby d (setReading d x safe v)).lanes d =
        { s.lanes d with readings := (s.drum d).port.readings.set x safe } := by
    rw [lanes_reloadStandby, lanes_setReading, lanes_of_links hv, readings_of_lanes (lanes_of_links hv)]
  have hraised := hreload _ (links_raise (.port d) (((changeEvent x safe).getD .doorOpened)) d d none s)
  unfold readingTaken
  dsimp only
  cases hk : changeEvent x safe with
  | none =>
    dsimp only
    split
    · rw [lanes_of_links (links_handIncrement _ _ _ _ _)]; exact hreload s rfl
    · exact hreload s rfl
  | some k =>
    rw [hk] at hraised
    dsimp only
    split
    · rw [lanes_of_links (links_handIncrement _ _ _ _ _)]; exact hraised
    · exact hraised

theorem set_of_get {r : Readings} (h : r.get x = true) : r.set x true = r := by
  obtain ⟨door, lint, airflow, highlimit⟩ := r
  cases x <;> simp_all [Readings.get, Readings.set]

theorem lanes_forceSafe (d : Drum) (x : Discrete) (s : State) :
    (forceSafe d x s).lanes d = { s.lanes d with readings := (s.drum d).port.readings.set x true } := by
  unfold forceSafe
  split
  next h => rw [set_of_get h]; rfl
  next h => rw [changeReading_forced, lanes_cycleOnChange, lanes_readingTaken]

theorem lanes_foldl_presenceChange (d : Drum) (old new : BitVec 16) (l : List Nat) (s : State) :
    (l.foldl (presenceChange d old new) s).lanes d = s.lanes d :=
  List.foldlRecOn (motive := fun t : State => t.lanes d = s.lanes d) l _ rfl fun t ht n _ => by
    rw [lanes_presenceChange, ht]

theorem lanes_setPresence (d : Drum) (report : BitVec 16) (s : State) :
    (setPresence d report s).lanes d = { s.lanes d with presence := report &&& 0x7FFE#16 } := by
  unfold setPresence
  dsimp only
  rw [lanes_foldl_presenceChange]
  simp [State.lanes]

/-- The service lane is down: no lock, no debounce under way, every reading safe, no node present (R10). -/
theorem lanes_serviceLaneDown (d : Drum) (s : State) :
    (serviceLaneDown d s).lanes d =
      { s.lanes d with
        serviceLock := false, debounce := {}, readings := ⟨true, true, true, true⟩, presence := 0 } := by
  have hmask : ((0 : BitVec 16) &&& 0x7FFE#16) = 0 := by decide
  have read (t : State) : (t.drum d).port.readings = (t.lanes d).readings := rfl
  unfold serviceLaneDown
  dsimp only
  rw [lanes_setPresence, hmask]
  simp only [lanes_forceSafe, read]
  simp [State.lanes, Readings.set]

/-! ### At rest -/

theorem idle_not_guarding {st : CycleState} (h : st.idle = true) :
    st ∈ [CycleState.vacant, .ready, .done, .halted] := by
  rw [idle_iff] at h
  simp only [List.mem_cons, List.not_mem_nil, or_false] at h ⊢
  tauto

theorem atRest_raise (hi : (s.drum d).cycle.state.idle = true) (k : EventKind) (y : Option Byte) :
    AtRest s (raise (.port d) k d y s) d :=
  atRest_of_same hi rfl rfl rfl rfl rfl rfl

theorem atRest_readingTaken (hi : (s.drum d).cycle.state.idle = true) (x : Discrete) :
    AtRest s (readingTaken d x true false s) d := by
  have hreload (v : State) (hv : (v.drum d).cycle.state.idle = true) :
      AtRest v (reloadStandby d (setReading d x true v)) d := by
    have hset := atRest_setReading hv x true
    exact hset.trans (atRest_of_same hset.idle (by simp) (by simp) (by simp) (by simp) (by simp) (by simp))
  unfold readingTaken
  dsimp only
  rw [Bool.false_and, Bool.false_and, if_neg Bool.false_ne_true]
  split
  next k _ =>
    have hraised := atRest_raise hi k none
    exact hraised.trans (hreload _ hraised.idle)
  next => exact hreload s hi

theorem atRest_cycleOnChange (hi : (s.drum d).cycle.state.idle = true) (x : Discrete) :
    AtRest s (cycleOnChange d x true s) d := by
  have hstates := idle_iff.mp hi
  simp only [List.mem_cons, List.not_mem_nil, or_false] at hstates
  have hsame {v : State} (hv : v = s) : AtRest s v d := by rw [hv]; exact atRest_refl hi
  cases x with
  | door =>
    show AtRest s (cycleDoorOpened d s) d
    unfold cycleDoorOpened
    rcases hstates with h | h | h <;> rw [h]
    · exact atRest_refl hi
    · exact atRest_enterVacant h
    · exact atRest_refl hi
  | lint => exact atRest_refl hi
  | airflow =>
    refine hsame ?_
    show cycleAirflowLost d s = s
    unfold cycleAirflowLost
    rcases hstates with h | h | h <;> simp only [h]
  | highlimit =>
    refine hsame ?_
    show heatEnd d .overtemp s = s
    unfold heatEnd
    rcases hstates with h | h | h <;> simp only [h]

theorem atRest_forceSafe (hi : (s.drum d).cycle.state.idle = true) (x : Discrete) : AtRest s (forceSafe d x s) d := by
  unfold forceSafe
  split
  · exact atRest_refl hi
  · rw [changeReading_forced]
    have htaken := atRest_readingTaken hi x
    exact htaken.trans (atRest_cycleOnChange htaken.idle x)

theorem atRest_setPresence_zero (hi : (s.drum d).cycle.state.idle = true) : AtRest s (setPresence d 0 s) d := by
  have hmask : ((0 : BitVec 16) &&& 0x7FFE#16) = 0#16 := by decide
  unfold setPresence
  dsimp only
  rw [hmask, foldl_presenceChange_quiet (by simpa using idle_not_guarding hi)]
  exact atRest_of_same hi (by simp) (by simp) (by simp) (by simp) (by simp) rfl

theorem atRest_serviceLaneDown (hi : (s.drum d).cycle.state.idle = true) : AtRest s (serviceLaneDown d s) d := by
  have h0 : AtRest s (s.onPort d fun p => { p with serviceLock := false, debounce := {} }) d :=
    atRest_of_same hi (by simp) (by simp) (by simp) (by simp) (by simp) rfl
  have h1 := h0.trans (atRest_forceSafe h0.idle .door)
  have h2 := h1.trans (atRest_forceSafe h1.idle .lint)
  have h3 := h2.trans (atRest_forceSafe h2.idle .airflow)
  have h4 := h3.trans (atRest_forceSafe h3.idle .highlimit)
  exact h4.trans (atRest_setPresence_zero h4.idle)

/-- After the notice the burner stands as a recomputation at a cap of 0 leaves it, the rest flag clear (R152). -/
theorem burner_of_noticeTaken (h : NoticeTaken s t d) :
    (t.drum d).burner.unlit = (t.drum d).burner ∧ (t.drum d).burner.rest = false := by
  obtain ⟨-, -, -, -, -, -, hburner⟩ := h
  have hmod : (t.drum d).burner =
      { ({ (s.drum d).burner with flame := none, rest := false } : Burner).unlit with
        wanted := (t.drum d).burner.wanted, starvation := (t.drum d).burner.starvation } :=
    congrArg (fun b : Burner =>
      { b with wanted := (t.drum d).burner.wanted, starvation := (t.drum d).burner.starvation }) hburner
  rw [hmod]
  refine ⟨?_, rfl⟩
  unfold Burner.unlit
  cases (s.drum d).burner.view <;> rfl

/-- After the notice, what leaves a drum at rest leaves the notice taken. -/
theorem noticeTaken_of_atRest (hc : (t.drum d).cycle = (s.drum d).cycle) (hi : (s.drum d).cycle.state.idle = true)
    (hn : NoticeTaken s t d) (hr : AtRest t u d) : NoticeTaken s u d := by
  obtain ⟨hdrive, hflame, htumble, hwindow, hkeep, hstalls, hburner⟩ := id hn
  have hguard : (s.drum d).cycle.state ≠ .guarding := fun h => by rw [h] at hi; cases hi
  obtain ⟨hmult, hred, hearly⟩ := hkeep hguard
  have hunlit := (burner_of_noticeTaken hn).1
  have hu : (u.drum d).burner = (t.drum d).burner := by
    rw [← hr.unlit hunlit, hr.burner, hunlit]
  have htu : (u.drum d).tumble = { (t.drum d).tumble with stalls := (u.drum d).tumble.stalls } := by
    rw [← hr.tumble]
  refine ⟨hr.drive.trans hdrive, hr.flame hflame, ?_, fun h => by rw [hr.tangle]; exact hwindow h, fun _ => ?_, fun hsame => ?_, ?_⟩
  · rw [← htumble, htu]
  · rw [hr.tangle, htu]; exact ⟨hmult, hred, hearly⟩
  · rcases hr.cycle with ⟨-, htt⟩ | ⟨hdone, hvac⟩
    · rw [htt]; exact hstalls hc
    · rw [hsame, ← hc, hdone] at hvac; cases hvac
  · rw [hu]; exact hburner

end

end Sys2Proof.Machine
end

section
/-! POWER_OFF, SERVICE_ONLY and BRING_UP; settles O30. -/

namespace Sys2Proof.Machine

section
variable {s t u : State} {r : Request} {rest : List Request} {d : Drum}

theorem canRest_iff {D : DrumState} :
    D.canRest = true ↔ D.cycle.state ∈ [CycleState.vacant, .done, .halted] ∧ D.port.state ≠ .test := by
  unfold DrumState.canRest
  rw [← idle_iff]
  simp

theorem cap_of_flameSafe (h : FlameSafe s) (hi : (s.drum d).cycle.state.idle = true) :
    (s.drum d).port.image.flameStage = 0 := by
  obtain ⟨hcap, -, -⟩ := h d
  rw [cap_of_state (not_drying_of_idle hi)] at hcap
  exact Nat.le_zero.mp hcap

/-- After a move of a drum at rest the FLAME entry is 0, if it was permitted before (R7, R144). -/
theorem flame_movePort (hsafe : FlameSafe s) (hi : (s.drum d).cycle.state.idle = true) (st : PortState) :
    ((movePort d st s).drum d).port.image.flameStage = 0 := by
  by_cases h : (s.drum d).port.state = .up ∨ (s.drum d).port.grace ≠ none
  · exact (noticeTaken_movePort h).2.1
  · rw [not_or, not_not] at h
    rw [(keeps_movePort_of_plain (st := st) h.1 h.2).2.2.2]
    exact cap_of_flameSafe hsafe hi

/-- POWER_OFF of a drum at rest whose port is not OFF (R3, R10). -/
theorem powerOff_spec (hi : (s.drum d).cycle.state.idle = true)
    (hd : t.drum d = (serviceLaneDown d (movePort d .off s)).drum d)
    (hf : t.flight = (serviceLaneDown d (movePort d .off s)).flight) :
    t.flight.increments = s.flight.increments ∧ (t.drum d).port.state = .off ∧
      (t.drum d).port.serviceLock = false ∧ (t.drum d).port.readings = ⟨true, true, true, true⟩ ∧
      (t.drum d).port.presence = 0 ∧ (t.drum d).port.debounce = {} ∧ (t.drum d).port.hold = (s.drum d).port.hold ∧
      (t.drum d).port.lineTest = (s.drum d).port.lineTest ∧
      (FlameSafe s → (t.drum d).port.image.flameStage = 0) ∧
      ((s.drum d).port.state = .up → (t.drum d).port.slot = none ∧ (t.drum d).port.refresh = none) ∧
      ((s.drum d).port.state = .up ∨ (s.drum d).port.grace ≠ none → NoticeTaken s t d) ∧
      ((s.drum d).port.state ≠ .up → (t.drum d).port.grace = none) ∧
      ((s.drum d).port.state ≠ .up → (s.drum d).port.grace = none →
        (t.drum d).tumble.status = (s.drum d).tumble.status ∧ (t.drum d).burner.flame = (s.drum d).burner.flame ∧
          (t.drum d).burner.rest = (s.drum d).burner.rest ∧
          (t.drum d).port.image.drive = (s.drum d).port.image.drive) := by
  have hcycle : ((movePort d .off s).drum d).cycle = (s.drum d).cycle := (keeps_movePort d .off s).2.2.2.1
  have hrest : AtRest (movePort d .off s) (serviceLaneDown d (movePort d .off s)) d :=
    atRest_serviceLaneDown (by rw [hcycle]; exact hi)
  obtain ⟨hst, hhold, hline, -, -, hup, hgrace⟩ := keeps_lanes_movePort d .off s
  have hl := lanes_serviceLaneDown d (movePort d .off s)
  have hnotice (h : (s.drum d).port.state = .up ∨ (s.drum d).port.grace ≠ none) : NoticeTaken s t d :=
    noticeTaken_congr_right (by rw [hd]) (by rw [hd]) (by rw [hd]) (by rw [hd]) (by rw [hd]) (by rw [hd])
      (noticeTaken_of_atRest hcycle hi (noticeTaken_movePort h) hrest)
  rw [hf, hd]
  refine ⟨hrest.increments.trans (flight_movePort d .off s).2, (congrArg Port.state hl :).trans hst,
    (congrArg Port.serviceLock hl :), (congrArg Port.readings hl :), (congrArg Port.presence hl :),
    (congrArg Port.debounce hl :), (congrArg Port.hold hl :).trans hhold, (congrArg Port.lineTest hl :).trans hline,
    fun hsafe => hrest.flame (flame_movePort hsafe hi .off),
    fun h => ⟨(congrArg Port.slot hl :).trans (hup h).1, (congrArg Port.refresh hl :).trans (hup h).2⟩, hnotice,
    fun h => (congrArg Port.grace hl :).trans (hgrace h), fun h hg => ?_⟩
  obtain ⟨htumble, hburner, -, himage⟩ := keeps_movePort_of_plain (st := .off) h hg
  have hstatus := congrArg Tumble.status hrest.tumble
  rw [htumble] at hstatus
  have hblock := hrest.burner
  rw [hburner] at hblock
  exact ⟨hstatus, (congrArg Burner.flame hblock :), (congrArg Burner.rest hblock :), hrest.drive.trans (by rw [himage])⟩

/-- SERVICE_ONLY of a drum at rest whose port is not in SERVICE (R3). -/
theorem serviceOnly_spec (hd : t.drum d = (movePort d .service s).drum d)
    (hf : t.flight = (movePort d .service s).flight) :
    t.flight.events = s.flight.events ∧ t.flight.increments = s.flight.increments ∧
      (t.drum d).port.state = .service ∧ (t.drum d).port.hold = (s.drum d).port.hold ∧
      (t.drum d).port.lineTest = (s.drum d).port.lineTest ∧ (t.drum d).port.readings = (s.drum d).port.readings ∧
      (t.drum d).cycle = (s.drum d).cycle ∧
      ((s.drum d).port.state = .up → (t.drum d).port.slot = none ∧ (t.drum d).port.refresh = none) ∧
      ((s.drum d).port.state = .up ∨ (s.drum d).port.grace ≠ none → NoticeTaken s t d) ∧
      ((s.drum d).port.state ≠ .up → (t.drum d).port.grace = none) ∧
      ((s.drum d).port.state ≠ .up → (s.drum d).port.grace = none →
        (t.drum d).tumble.status = (s.drum d).tumble.status ∧ (t.drum d).burner.flame = (s.drum d).burner.flame ∧
          (t.drum d).burner.rest = (s.drum d).burner.rest ∧
          (t.drum d).port.image.drive = (s.drum d).port.image.drive) := by
  obtain ⟨hst, hhold, hline, hread, -, hup, hgrace⟩ := keeps_lanes_movePort d .service s
  have hnotice (h : (s.drum d).port.state = .up ∨ (s.drum d).port.grace ≠ none) : NoticeTaken s t d :=
    noticeTaken_congr_right (by rw [hd]) (by rw [hd]) (by rw [hd]) (by rw [hd]) (by rw [hd]) (by rw [hd])
      (noticeTaken_movePort h)
  rw [hf, hd]
  refine ⟨(flight_movePort d _ s).1, (flight_movePort d _ s).2, hst, hhold, hline, hread,
    (keeps_movePort d .service s).2.2.2.1, hup, hnotice, hgrace, fun h hg => ?_⟩
  obtain ⟨htumble, hburner, -, himage⟩ := keeps_movePort_of_plain (st := .service) h hg
  rw [htumble, hburner, himage]
  exact ⟨rfl, rfl, rfl, rfl⟩

/-- A port brought to SEEK, from OFF or SERVICE (R2). -/
theorem drum_setPortState_seek (d : Drum) (s : State) :
    (setPortState d .seek s).drum d =
      { s.drum d with port := { (s.drum d).port with state := .seek, laneLocked := false, standby := none } } := by
  have hlock : ((s.drum d).port.laneLocked && PortState.seek == .test) = false := by
    rw [show (PortState.seek == .test) = false from rfl, Bool.and_false]
  have hruns (D : DrumState) (hD : D.port.state = .seek) : D.standbyRuns = false := by
    simp [DrumState.standbyRuns, hD]
  unfold setPortState settleStandby
  rw [drum_onDrum_self, drum_onPort_self]
  dsimp only
  rw [hlock, hruns _ rfl]
  rfl

/-! ### The owners -/

/-- A PORT_CONTROL that needs a drum at rest: refused BUSY otherwise (R3). -/
theorem exec_needsRest (ho : s.offers r rest) (hn : r.code.toNat = 18) {c : Instr} {a x : Byte} (h7 : a.toNat ≤ 7)
    (ha : r.args = [byte d.val, a, x]) {op : Drum → State → State}
    (hc : ownerOf c =
      some ⟨isPortAction a.toNat, onPortArg fun d s => if (s.drum d).canRest then ok (op d s) else refuse .busy s⟩)
    (hb : (op d (s.taken rest)).besides d = (s.taken rest).besides d) :
    ((s.drum d).cycle.state ∉ [CycleState.vacant, .done, .halted] ∨ (s.drum d).port.state = .test →
      exec c s = .next (s.answered r rest .busy [])) ∧
    ((s.drum d).cycle.state ∈ [CycleState.vacant, .done, .halted] → (s.drum d).port.state ≠ .test →
      (op d (s.taken rest) = s.taken rest → exec c s = .next (s.answered r rest .ok [])) ∧
        exec c s = .next (((op d (s.taken rest)).onCabinet fun _ => s.cabinet).answered r rest .ok []) ∧
        ((op d (s.taken rest)).onCabinet fun _ => s.cabinet).besides d = s.besides d) := by
  have hm : isPortAction a.toNat r = true := isPortAction_args hn ha
  have hserve : onPortArg (fun d s => if (s.drum d).canRest then ok (op d s) else refuse .busy s) r (s.taken rest) =
      if ((s.taken rest).drum d).canRest then ok (op d (s.taken rest)) else refuse .busy (s.taken rest) :=
    onPortArg_args ha h7
  refine ⟨fun hno => ?_, fun hstate hport => ?_⟩
  · have hcan : ¬((s.taken rest).drum d).canRest = true := by rw [canRest_iff, drum_taken]; tauto
    exact exec_refused hc ho hm (hserve.trans (if_neg hcan))
  · have hcan : ((s.taken rest).drum d).canRest = true := canRest_iff.mpr ⟨hstate, hport⟩
    have hok := hserve.trans (if_pos hcan)
    exact ⟨fun hsame => exec_idle hc ho hm (hok.trans (congrArg ok hsame)), exec_drumWork (op := op d) hc ho hm hok hb⟩

end

/-- Settles O30. -/
theorem portControlMovesThePort : Obligations.PortControlMovesThePort := by
  intro s r rest d x ho hcode
  have hn : r.code.toNat = 18 := code_toNat (by decide) hcode
  have hlist {l : List PortState} (h : (s.drum d).port.state ∈ l) (htest : .test ∉ l) : (s.drum d).port.state ≠ .test :=
    fun he => htest (he ▸ h)
  refine ⟨fun ha => ?_, fun ha => ?_, fun ha => ?_⟩
  · obtain ⟨hbusy, hgood⟩ := exec_needsRest ho hn (c := .powerOff) (a := 0) (by decide) ha (op := powerOff) rfl
      (besides_powerOff d _)
    refine ⟨hbusy, fun hstate => ⟨fun hoff => ?_, fun hport => ?_⟩⟩
    · exact (hgood hstate (by rw [hoff]; decide)).1 (if_pos hoff)
    · have hwork : powerOff d (s.taken rest) = serviceLaneDown d (movePort d .off (s.taken rest)) :=
        if_neg fun hoff : (s.drum d).port.state = .off => by rw [hoff] at hport; simp at hport
      obtain ⟨-, hexec, hbesides⟩ := hgood hstate (hlist hport (by decide))
      rw [hwork] at hexec hbesides
      exact ⟨_, hexec, hbesides, powerOff_spec (s := s.taken rest) (idle_iff.mpr hstate) rfl rfl⟩
  · obtain ⟨hbusy, hgood⟩ := exec_needsRest ho hn (c := .serviceOnly) (a := 1) (by decide) ha (op := serviceOnly) rfl
      (besides_serviceOnly d _)
    refine ⟨hbusy, fun hstate => ⟨fun hservice => ?_, fun hport => ?_⟩⟩
    · exact (hgood hstate (by rw [hservice]; decide)).1 (if_pos hservice)
    · have hwork : serviceOnly d (s.taken rest) = movePort d .service (s.taken rest) :=
        if_neg fun hservice : (s.drum d).port.state = .service => by rw [hservice] at hport; simp at hport
      obtain ⟨-, hexec, hbesides⟩ := hgood hstate (hlist hport (by decide))
      rw [hwork] at hexec hbesides
      exact ⟨_, hexec, hbesides, serviceOnly_spec (s := s.taken rest) rfl rfl⟩
  · have hm : isPortAction 2 r = true := isPortAction_args hn ha
    have hserve : onPortArg bringUp r (s.taken rest) = bringUp d (s.taken rest) := onPortArg_args ha (by decide)
    refine ⟨fun hport => ?_, fun hport => ?_, fun hport => ?_⟩
    · refine exec_idle rfl ho hm (hserve.trans ?_)
      simp only [List.mem_cons, List.not_mem_nil, or_false] at hport
      unfold bringUp
      rcases hport with h | h <;> rw [drum_taken, h]
    · refine exec_refused rfl ho hm (hserve.trans ?_)
      unfold bringUp
      rw [drum_taken, hport]
    · have hwork : bringUp d (s.taken rest) = ok (setPortState d .seek (s.taken rest)) := by
        simp only [List.mem_cons, List.not_mem_nil, or_false] at hport
        unfold bringUp
        rcases hport with h | h <;> rw [drum_taken, h]
      obtain ⟨hexec, hbesides⟩ := exec_drumWork (c := .bringUp) (op := setPortState d .seek) rfl ho hm
        (hserve.trans hwork) (besides_setPortState d _ _)
      exact ⟨_, hexec, hbesides, rfl, drum_setPortState_seek d (s.taken rest)⟩

end Sys2Proof.Machine
end

section
/-! The expiry of a grace interval: the notice and then the cycle controller, and what they leave of the sending marks (R5, R6,
R80). -/

namespace Sys2Proof.Machine

section
variable {s t u : State} {d : Drum}

/-! ### Sending marks outside UP -/

/-- The sending marks of a port's entries. -/
def State.marks (s : State) (d : Drum) : Marks × Marks × Marks :=
  ((s.drum d).port.image.driveMarks, (s.drum d).port.image.flameMarks, (s.drum d).port.image.fanMarks)

/-- From s to t, a port that does not send goes on not to send and its marks stand (R15). -/
def MarksKept (s t : State) (d : Drum) : Prop :=
  (s.drum d).port.sends = false → (t.drum d).port.sends = false ∧ t.marks d = s.marks d

theorem MarksKept.trans (h : MarksKept s t d) (h' : MarksKept t u d) : MarksKept s u d := fun hs =>
  ⟨(h' (h hs).1).1, (h' (h hs).1).2.trans (h hs).2⟩

theorem sends_of_lanes (h : t.lanes d = s.lanes d) : (t.drum d).port.sends = (s.drum d).port.sends := by
  unfold Port.sends; rw [state_of_lanes h, hold_of_lanes h]

theorem marksKept_of_image (hl : t.lanes d = s.lanes d) (h : (t.drum d).port.image = (s.drum d).port.image) :
    MarksKept s t d := fun hs => ⟨by rw [sends_of_lanes hl]; exact hs, by unfold State.marks; rw [h]⟩

theorem changed_of_unsent {p : Port} (h : p.sends = false) (n : Nat) (m : Marks) : p.changed n m = m := by
  simp [Port.changed, h]

theorem marksKept_writeDrive (d : Drum) (v : DriveCmd) (s : State) : MarksKept s (writeDrive d v s) d := fun hs => by
  refine ⟨by rw [sends_of_lanes (lanes_of_links (links_writeDrive d v s))]; exact hs, ?_⟩
  unfold writeDrive State.marks
  dsimp only
  split
  · rfl
  · simp [changed_of_unsent hs]

theorem marksKept_writeFlame (d : Drum) (n : Nat) (s : State) : MarksKept s (writeFlame d n s) d := fun hs => by
  refine ⟨by rw [sends_of_lanes (lanes_of_links (links_writeFlame d n s))]; exact hs, ?_⟩
  unfold writeFlame State.marks
  dsimp only
  split
  · rfl
  · simp [changed_of_unsent hs]

theorem marksKept_writeFan (d : Drum) (on : Bool) (s : State) : MarksKept s (writeFan d on s) d := fun hs => by
  refine ⟨by rw [sends_of_lanes (lanes_of_links (links_writeFan d on s))]; exact hs, ?_⟩
  unfold writeFan State.marks
  dsimp only
  split
  · rfl
  · simp [changed_of_unsent hs]

theorem marksKept_burnerUpdate (d : Drum) (s : State) : MarksKept s (burnerUpdate d s) d := by
  have hb (b : Burner) : MarksKept s (s.onBurner d fun _ => b) d :=
    marksKept_of_image (lanes_of_links (links_onBurner d _ s)) (by simp)
  unfold burnerUpdate
  dsimp only
  split
  · exact (hb _).trans (marksKept_writeFlame d _ _)
  · exact ((hb _).trans (marksKept_writeFlame d _ _)).trans
      (marksKept_of_image (lanes_of_links (links_handDemand d d _ _)) (by simp))

theorem marksKept_leaveRun (d : Drum) (f : Tumble → Tumble) (s : State) : MarksKept s (leaveRun d f s) d := by
  have h : MarksKept s ((s.onTumble d f).onTangle d Tangle.closed) d :=
    marksKept_of_image (lanes_of_links (by simp)) (by simp)
  unfold leaveRun
  exact h.trans (marksKept_burnerUpdate d _)

theorem marksKept_tumbleNotice (d : Drum) (s : State) : MarksKept s (tumbleNotice d s) d := by
  have h : MarksKept s (s.onTumble d fun t => { t with status := none }) d :=
    marksKept_of_image (lanes_of_links (by simp)) (by simp)
  have hw := h.trans (marksKept_writeDrive d .stop _)
  unfold tumbleNotice
  dsimp only
  split
  · exact hw
  all_goals exact hw.trans (marksKept_leaveRun d _ _)

theorem marksKept_linkLostNotice (d : Drum) (s : State) : MarksKept s (linkLostNotice d s) d := by
  have h (v : State) : MarksKept v ((v.onBurner d fun b => { b with flame := none }).onBurner d
      fun b => { b with rest := false }) d :=
    marksKept_of_image (lanes_of_links (by simp)) (by simp)
  unfold linkLostNotice burnerNotice setRest
  exact ((marksKept_tumbleNotice d s).trans (h _)).trans (marksKept_burnerUpdate d _)

theorem marksKept_setCycle (d : Drum) (new : CycleState) (f : Cycle → Cycle) (s : State) :
    MarksKept s (setCycle d new f s) d := by
  have hcycle (g : Cycle → Cycle) : MarksKept s (s.onCycle d g) d :=
    marksKept_of_image (lanes_onCycle d g s) (by simp)
  have hdrum (g : DrumState → DrumState) (hg : ∀ D, (g D).port = D.port) (v : State) : MarksKept v (v.onDrum d g) d :=
    marksKept_of_image (by simp [State.lanes, hg]) (by simp [hg])
  have hdone : MarksKept s _ d := (((hcycle fun c => { f c with state := new }).trans (marksKept_writeFan d new.fanOnEntry _)).trans
    (hdrum
      (fun D =>
        { D with
          tumble := { D.tumble with stalls := 0 }
          dryness := D.dryness.onCycleState new D.cycle.dryingElectrode D.config.starvation
          burner := D.burner.onCycleState (s.drum d).cycle.state new D.config.starvation })
      (fun _ => rfl) _)).trans (marksKept_burnerUpdate d _)
  have hsettle (v : State) : MarksKept v (settleStandby d v) d :=
    marksKept_of_image (lanes_settleStandby d v) (by simp)
  exact hdone.trans (hsettle _)

/-! ### A tumble controller at rest or on its way to rest -/

/-- STOPPED, or DECEL with target STOPPED: where the notice leaves the tumble controller (R105). -/
def Tumble.noticed (x : Tumble) : Prop := x.state = .stopped ∨ (x.state = .decel ∧ x.target = some .stopped)

theorem noticed_of_noticeTaken (h : NoticeTaken s t d) : (t.drum d).tumble.noticed := by
  obtain ⟨-, -, htumble, -⟩ := h
  have hstate := congrArg Tumble.state htumble
  have htarget := congrArg Tumble.target htumble
  unfold Tumble.noticed
  by_cases hs : (s.drum d).tumble.state = .stopped
  · rw [if_pos hs] at hstate
    exact .inl (hstate.trans hs)
  · rw [if_neg hs] at hstate htarget
    exact .inr ⟨hstate, htarget⟩

/-- HOLD of such a controller changes nothing of its drum (R103). -/
theorem drum_tumbleHold_noticed (h : (s.drum d).tumble.noticed) : (tumbleHold d s).drum d = s.drum d := by
  unfold tumbleHold
  dsimp only
  rcases h with hs | ⟨hs, ht⟩ <;> rw [hs]
  unfold setTarget
  have hsame : (s.drum d).tumble = { (s.drum d).tumble with target := some .stopped } := by rw [← ht]
  rw [State.onTumble, drum_onDrum_self, ← hsame]

theorem tumble_setCycle (d : Drum) (new : CycleState) (f : Cycle → Cycle) (s : State) :
    ((setCycle d new f s).drum d).tumble = { (s.drum d).tumble with stalls := 0 } := by
  unfold setCycle; simp

theorem noticed_setCycle (h : (s.drum d).tumble.noticed) (new : CycleState) (f : Cycle → Cycle) :
    ((setCycle d new f s).drum d).tumble.noticed := by
  unfold Tumble.noticed; rw [tumble_setCycle]; exact h

/-- What follows the notice within the cycle controller leaves it taken (log 45). -/
theorem noticeTaken_of_held (hn : NoticeTaken s u d) (hdrive : (t.drum d).port.image.drive = .stop)
    (hflame : (t.drum d).port.image.flameStage = 0)
    (htumble : { (t.drum d).tumble with
      multiplier := (u.drum d).tumble.multiplier
      reduction := (u.drum d).tumble.reduction
      stalls := (u.drum d).tumble.stalls } = (u.drum d).tumble)
    (hwindow : (t.drum d).tangle.windowOpen = (u.drum d).tangle.windowOpen)
    (hkeep : (s.drum d).cycle.state ≠ .guarding →
      (t.drum d).tumble.multiplier = (u.drum d).tumble.multiplier ∧
        (t.drum d).tumble.reduction = (u.drum d).tumble.reduction ∧
        (t.drum d).tangle.earlyRuns = (u.drum d).tangle.earlyRuns)
    (hcycle : (t.drum d).cycle ≠ (s.drum d).cycle)
    (hburner : { (t.drum d).burner with
      wanted := (u.drum d).burner.wanted, starvation := (u.drum d).burner.starvation } = (u.drum d).burner) :
    NoticeTaken s t d := by
  obtain ⟨-, -, htumble', hwindow', hkeep', -, hburner'⟩ := hn
  refine ⟨hdrive, hflame, ?_, fun h => hwindow.trans (hwindow' h), fun h => ?_, fun h => absurd h hcycle, ?_⟩
  · rw [← htumble', ← htumble]
  · obtain ⟨h1, h2, h3⟩ := hkeep h
    obtain ⟨h1', h2', h3'⟩ := hkeep' h
    exact ⟨h1.trans h1', h2.trans h2', h3.trans h3'⟩
  · rw [← hburner', ← hburner]

/-- The burner after a change of cycle state that follows the notice. -/
theorem burner_setCycle_noticed (hn : NoticeTaken s u d) (new : CycleState) (f : Cycle → Cycle) :
    { ((setCycle d new f u).drum d).burner with
        wanted := (u.drum d).burner.wanted, starvation := (u.drum d).burner.starvation } = (u.drum d).burner ∧
      ((setCycle d new f u).drum d).port.image.flameStage = 0 := by
  obtain ⟨hunlit, hrest⟩ := burner_of_noticeTaken hn
  obtain ⟨hb, hf⟩ := burner_setCycle (new := new) (f := f) (.inl hrest)
  refine ⟨?_, hf⟩
  rw [hb]
  exact (unlit_mod _ _ (onCycleState_same _ _ _ _)).trans hunlit

/-- The parts of a drum that the notice speaks of, but for its cycle. -/
def State.motion (s : State) (d : Drum) : Tumble × Tangle × Burner × DriveCmd × Nat :=
  ((s.drum d).tumble, (s.drum d).tangle, (s.drum d).burner, (s.drum d).port.image.drive, (s.drum d).port.image.flameStage)

@[simp] theorem motion_writeFan (d : Drum) (on : Bool) (s : State) : (writeFan d on s).motion d = s.motion d := by
  simp [State.motion]

@[simp] theorem motion_raise (src : Block) (k : EventKind) (d e : Drum) (x : Option Byte) (s : State) :
    (raise src k e x s).motion d = s.motion d := rfl

@[simp] theorem motion_handIncrement (src : Block) (d e : Drum) (a : Fin 8) (s : State) :
    (handIncrement src e a s).motion d = s.motion d := rfl

theorem motion_tumbleHold (h : (s.drum d).tumble.noticed) : (tumbleHold d s).motion d = s.motion d := by
  unfold State.motion; rw [drum_tumbleHold_noticed h]

theorem motion_pauseCycle (h : (s.drum d).tumble.noticed) (c : PauseCause) :
    ∃ f, (pauseCycle d c s).motion d = (setCycle d .paused f s).motion d := by
  have hhold (f : Cycle → Cycle) : (tumbleHold d (setCycle d .paused f s)).motion d = (setCycle d .paused f s).motion d :=
    motion_tumbleHold (noticed_setCycle h _ f)
  unfold pauseCycle
  dsimp only
  split
  · exact ⟨_, by rw [motion_raise, motion_writeFan, hhold]⟩
  · exact ⟨_, by rw [motion_raise, hhold]⟩

theorem motion_enterDone (h : (s.drum d).tumble.noticed) :
    (enterDone d s).motion d = (clearPersistence d (setCycle d .done Cycle.cleared s)).motion d := by
  have hstop : (tumbleStop d (setCycle d .done Cycle.cleared s)).motion d =
      (clearPersistence d (setCycle d .done Cycle.cleared s)).motion d := by
    have hhold := drum_tumbleHold_noticed (noticed_setCycle h .done Cycle.cleared)
    unfold tumbleStop clearPersistence State.motion
    simp [hhold]
  unfold enterDone
  dsimp only
  split <;> simp [hstop]

/-- A pause after the notice: its HOLD finds the tumble controller already on its way to rest (R79, R103). -/
theorem noticeTaken_pauseCycle (hn : NoticeTaken s u d) (hc : (s.drum d).cycle.state ≠ .paused) (c : PauseCause) :
    NoticeTaken s (pauseCycle d c u) d := by
  have hpaused := (cycle_pauseCycle d c u).1
  have hne : ((pauseCycle d c u).drum d).cycle ≠ (s.drum d).cycle := fun h => hc (by rw [← h]; exact hpaused)
  obtain ⟨f, hmotion⟩ := motion_pauseCycle (noticed_of_noticeTaken hn) c
  unfold State.motion at hmotion
  simp only [Prod.mk.injEq] at hmotion
  obtain ⟨htumble, htangle, hburner, hdrive, hflame⟩ := hmotion
  obtain ⟨hb, hf⟩ := burner_setCycle_noticed hn .paused f
  refine noticeTaken_of_held hn ?_ (hflame.trans hf) ?_ ?_ (fun _ => ?_) hne ?_
  · rw [hdrive]; simpa using hn.1
  · rw [htumble, tumble_setCycle]
  · rw [htangle]; simp
  · rw [htumble, htangle]; simp
  · rw [hburner]; exact hb

/-- The end of a guard after the notice: DONE, and STOP of a tumble controller already on its way to rest (R77, R103). -/
theorem noticeTaken_enterDone (hn : NoticeTaken s u d) (hc : (s.drum d).cycle.state = .guarding) :
    NoticeTaken s (enterDone d u) d := by
  have hdone : ((enterDone d u).drum d).cycle.state = .done := by rw [cycle_enterDone]
  have hne : ((enterDone d u).drum d).cycle ≠ (s.drum d).cycle := fun h => by rw [h, hc] at hdone; cases hdone
  have hmotion := motion_enterDone (noticed_of_noticeTaken hn)
  unfold State.motion at hmotion
  simp only [Prod.mk.injEq] at hmotion
  obtain ⟨htumble, htangle, hburner, hdrive, hflame⟩ := hmotion
  obtain ⟨hb, hf⟩ := burner_setCycle_noticed hn .done Cycle.cleared
  refine noticeTaken_of_held hn ?_ ?_ ?_ ?_ (fun h => absurd hc h) hne ?_
  · rw [hdrive]; simpa using hn.1
  · rw [hflame]; simpa using hf
  · rw [htumble]; simp [clearPersistence, tumble_setCycle]
  · rw [htangle]; simp [clearPersistence]
  · rw [hburner]; simpa using hb

end

end Sys2Proof.Machine
end

section
/-! Main-lane lock, its loss and the end of a grace interval; settles O39. -/

namespace Sys2Proof.Machine

section
variable {s t u : State} {d : Drum}

/-! ### Sending marks at the end of a grace interval -/

theorem marksKept_raise (src : Block) (k : EventKind) (d : Drum) (x : Option Byte) (s : State) :
    MarksKept s (raise src k d x s) d :=
  marksKept_of_image rfl rfl

theorem marksKept_handIncrement (src : Block) (d : Drum) (a : Fin 8) (s : State) :
    MarksKept s (handIncrement src d a s) d :=
  marksKept_of_image rfl rfl

theorem marksKept_enterStopped (d : Drum) (s : State) : MarksKept s (enterStopped d s) d := by
  have hinterval (v : State) (n : Timer) : MarksKept v (v.onCycle d fun c => { c with guardInterval := n }) d :=
    marksKept_of_image (lanes_onCycle d _ v) (by simp)
  have hleave := marksKept_leaveRun d (fun t => { t.timersOff with state := .stopped, target := none, guardLength := none }) s
  unfold enterStopped guardTumbleDone
  dsimp only
  split
  · split
    · exact (hleave.trans (hinterval _ _)).trans (marksKept_writeFan d false _)
    · exact hleave
  · exact hleave

theorem marksKept_tumbleHold (d : Drum) (s : State) : MarksKept s (tumbleHold d s) d := by
  have htarget : MarksKept s (setTarget d .stopped s) d :=
    marksKept_of_image (lanes_of_links (links_setTarget d .stopped s)) (by simp)
  unfold tumbleHold
  dsimp only
  split
  case h_1 | h_2 => exact (marksKept_writeDrive d .stop s).trans (marksKept_leaveRun d _ _)
  case h_3 => exact htarget
  case h_4 => split; exacts [marksKept_enterStopped d s, htarget]
  case h_5 => exact marksKept_enterStopped d s
  case h_6 => exact marksKept_of_image rfl rfl

theorem marksKept_tumbleStop (d : Drum) (s : State) : MarksKept s (tumbleStop d s) d :=
  (marksKept_tumbleHold d s).trans
    (marksKept_of_image (lanes_of_links (links_clearPersistence d _))
      (congrArg Port.image (keeps_clearPersistence d (tumbleHold d s)).1))

theorem marksKept_pauseCycle (d : Drum) (c : PauseCause) (s : State) : MarksKept s (pauseCycle d c s) d := by
  have hheld (f : Cycle → Cycle) : MarksKept s (tumbleHold d (setCycle d .paused f s)) d :=
    (marksKept_setCycle d .paused f s).trans (marksKept_tumbleHold d _)
  unfold pauseCycle
  dsimp only
  split
  · exact ((hheld _).trans (marksKept_writeFan d false _)).trans (marksKept_raise _ _ d _ _)
  · exact (hheld _).trans (marksKept_raise _ _ d _ _)

theorem marksKept_enterDone (d : Drum) (s : State) : MarksKept s (enterDone d s) d := by
  have hdone := ((marksKept_setCycle d .done Cycle.cleared s).trans (marksKept_tumbleStop d _)).trans
    (marksKept_raise (.cycle d) .cycleDone d (some (byte (s.drum d).cycle.reason.code)) _)
  unfold enterDone
  dsimp only
  split
  · exact hdone.trans (marksKept_handIncrement _ d _ _)
  · exact hdone

theorem marksKept_graceExpires (d : Drum) (s : State) : MarksKept s (graceExpires d s) d := by
  have hgrace : MarksKept s (s.onPort d fun p => { p with grace := none }) d := fun hs =>
    ⟨by simpa [Port.sends] using hs, by simp [State.marks]⟩
  have hnotice := hgrace.trans (marksKept_linkLostNotice d _)
  unfold graceExpires cycleGraceExpired
  split
  case h_1 | h_2 | h_3 => exact hnotice.trans (marksKept_pauseCycle d .link _)
  case h_4 => exact hnotice.trans (marksKept_enterDone d _)
  all_goals exact hnotice

/-! ### The end of a grace interval -/

/-- What the end of a grace interval makes of the cycle, and what it hands on (R5, R6, R80). -/
structure GraceEnded (s t : State) (d : Drum) : Prop where
  notice : NoticeTaken s t d
  paused : (s.drum d).cycle.state ∈ [CycleState.purge, .drying, .cooling] →
    (t.drum d).cycle.state = .paused ∧ (t.drum d).cycle.causes = [.link] ∧
      t.handed = (s.handed.1 ++ [⟨.cycle d, .cyclePaused, d, s.clock, some 3⟩], s.handed.2)
  done : (s.drum d).cycle.state = .guarding →
    (t.drum d).cycle = { (s.drum d).cycle.cleared with state := .done } ∧
      t.handed =
        (s.handed.1 ++ [⟨.cycle d, .cycleDone, d, s.clock, some (byte (s.drum d).cycle.reason.code)⟩],
          s.handed.2 ++
            (if (s.drum d).cycle.reason = .dry ∨ (s.drum d).cycle.reason = .timeLimit then [⟨.cycle d, d, 7⟩] else []))
  quiet : (s.drum d).cycle.state.active = false → (t.drum d).cycle = (s.drum d).cycle ∧ t.handed = s.handed

/-- The cycle controller's part, after the notice. -/
theorem graceEnded_cycleGraceExpired (hn : NoticeTaken s u d) (hcycle : (u.drum d).cycle = (s.drum d).cycle)
    (hhanded : u.handed = s.handed) (hclock : u.clock = s.clock) : GraceEnded s (cycleGraceExpired d u) d := by
  have hpause (hs : (s.drum d).cycle.state ∈ [CycleState.purge, .drying, .cooling])
      (he : cycleGraceExpired d u = pauseCycle d .link u) : GraceEnded s (cycleGraceExpired d u) d := by
    simp only [List.mem_cons, List.not_mem_nil, or_false] at hs
    have hnot : (s.drum d).cycle.state ≠ .paused ∧ (s.drum d).cycle.state ≠ .guarding ∧
        (s.drum d).cycle.state.active ≠ false := by
      rcases hs with h | h | h <;> rw [h] <;> exact ⟨nofun, nofun, nofun⟩
    obtain ⟨hnp, hng, hna⟩ := hnot
    obtain ⟨hstate, hcauses⟩ := cycle_pauseCycle d .link u
    rw [he]
    exact
      { notice := noticeTaken_pauseCycle hn hnp .link
        paused := fun _ => ⟨hstate, hcauses, by rw [handed_pauseCycle, hhanded, hclock]; rfl⟩
        done := fun h => absurd h hng
        quiet := fun h => absurd h hna }
  have hquiet (hs : (s.drum d).cycle.state.active = false) (he : cycleGraceExpired d u = u) :
      GraceEnded s (cycleGraceExpired d u) d := by
    rw [he]
    refine ⟨hn, fun h => ?_, fun h => ?_, fun _ => ⟨hcycle, hhanded⟩⟩
    · simp only [List.mem_cons, List.not_mem_nil, or_false] at h
      rcases h with h | h | h <;> rw [h] at hs <;> cases hs
    · rw [h] at hs; cases hs
  have he : cycleGraceExpired d u =
      match (s.drum d).cycle.state with
      | .purge | .drying | .cooling => pauseCycle d .link u
      | .guarding => enterDone d u
      | .vacant | .ready | .done | .paused | .halted => u := by
    rw [← hcycle]; rfl
  cases hs : (s.drum d).cycle.state <;> rw [hs] at he
  case purge | drying | cooling => exact hpause (by simp [hs]) he
  case guarding =>
    rw [he]
    refine ⟨noticeTaken_enterDone hn hs, fun h => by simp [hs] at h, fun _ => ⟨?_, ?_⟩, fun h => by rw [hs] at h; cases h⟩
    · rw [cycle_enterDone, hcycle]
    · rw [handed_enterDone, hhanded, hclock, hcycle]
  case vacant | ready | done | paused | halted => exact hquiet (by rw [hs]; rfl) he

theorem graceEnded_graceExpires (d : Drum) (s : State) : GraceEnded s (graceExpires d s) d := by
  have hn : NoticeTaken s (linkLostNotice d (s.onPort d fun p => { p with grace := none })) d :=
    noticeTaken_congr_left (by simp) (by simp) (by simp) (by simp) (noticeTaken_linkLostNotice d _)
  exact graceEnded_cycleGraceExpired hn (by simp) (by simp)
    (clock_of_besides ((besides_linkLostNotice d _).trans (by simp)))

/-! ### Lock of the main lane -/

theorem standby_settleStandby_of_none (h : (s.drum d).port.standby = none)
    (hr : ((settleStandby d s).drum d).standbyRuns = true) :
    ((settleStandby d s).drum d).port.standby = some ((settleStandby d s).drum d).fullStandby := by
  have hruns : (s.drum d).standbyRuns = true := by
    have hsame : ((settleStandby d s).drum d).standbyRuns = (s.drum d).standbyRuns := by
      simp [settleStandby, DrumState.standbyRuns]
    rw [← hsame]; exact hr
  simp [settleStandby, hruns, h, DrumState.fullStandby, standbyTime]

theorem config_enterUp (d : Drum) (s : State) : ((enterUp d s).drum d).config = (s.drum d).config :=
  config_of_besides (besides_enterUp d s) d

/-- What entry to UP writes of the port (R4, R17). -/
theorem enterUp_writes (d : Drum) (s : State) :
    ((enterUp d s).drum d).port.state = .up ∧ ((enterUp d s).drum d).port.grace = none ∧
      ((enterUp d s).drum d).port.image =
        (if (s.drum d).port.hold then (s.drum d).port.image else (s.drum d).port.image.markAll (s.drum d).config) ∧
      (enterUp d s).flight = { s.flight with events := s.flight.events ++ [⟨.port d, .linkUp, d, s.clock, none⟩] } := by
  unfold enterUp
  dsimp only
  refine ⟨?_, ?_, ?_, rfl⟩ <;> simp

theorem standby_enterUp (hr : ((enterUp d s).drum d).standbyRuns = true) (hn : (s.drum d).port.standby = none) :
    ((enterUp d s).drum d).port.standby = some (s.drum d).fullStandby := by
  have hfull := standby_settleStandby_of_none (d := d) (s := raise (.port d) .linkUp d none
    (s.onPort d fun p =>
      { p with
        state := .up
        laneLocked := true
        grace := none
        refresh := some ((s.drum d).config.refreshSteps * 10)
        image := if p.hold then p.image else p.image.markAll (s.drum d).config })) (by simp [hn]) hr
  have hsame : ((enterUp d s).drum d).fullStandby = (s.drum d).fullStandby := by
    unfold DrumState.fullStandby; rw [config_enterUp]
  rw [← hsame]
  exact hfull

/-! ### Loss of the main lane -/

/-- The loss of the main lane up to the cycle's part (R5): SEEK, LINK_LOST and its count. -/
def laneDropped (d : Drum) (s : State) : State :=
  handIncrement (.port d) d 6 (raise (.port d) .linkLost d none (leaveUp d .seek s))

theorem mainLaneLost_eq (d : Drum) (s : State) :
    mainLaneLost d s =
      if (s.drum d).cycle.state.active then
        if (s.drum d).config.graceSteps = 0 then graceExpires d (laneDropped d s)
        else (laneDropped d s).onPort d fun p => { p with grace := some ((s.drum d).config.graceSteps * 100) }
      else linkLostNotice d (laneDropped d s) := rfl

theorem keeps_laneDropped (d : Drum) (s : State) :
    ((laneDropped d s).drum d).cycle = (s.drum d).cycle ∧ ((laneDropped d s).drum d).tumble = (s.drum d).tumble ∧
      ((laneDropped d s).drum d).tangle = (s.drum d).tangle ∧
      ((laneDropped d s).drum d).burner = (s.drum d).burner := by
  unfold laneDropped; simp

theorem clock_laneDropped (d : Drum) (s : State) : (laneDropped d s).clock = s.clock :=
  clock_of_besides (besides_leaveUp d .seek s)

theorem handed_laneDropped (d : Drum) (s : State) :
    (laneDropped d s).handed =
      (s.handed.1 ++ [⟨.port d, .linkLost, d, s.clock, none⟩], s.handed.2 ++ [⟨.port d, d, 6⟩]) := by
  have hclock : (leaveUp d .seek s).clock = s.clock := clock_of_besides (besides_leaveUp d .seek s)
  have hsame : (leaveUp d .seek s).handed = s.handed := rfl
  unfold laneDropped
  rw [handed_handIncrement, handed_raise, hclock, hsame]

/-- A port that left UP sends nothing and has no marks (R5). -/
theorem marks_laneDropped (d : Drum) (s : State) :
    ((laneDropped d s).drum d).port.sends = false ∧ (laneDropped d s).marks d = ({}, {}, {}) := by
  unfold laneDropped leaveUp setPortState State.marks Port.sends
  simp [Image.unmarked]

theorem marks_mainLaneLost (d : Drum) (s : State) : (mainLaneLost d s).marks d = ({}, {}, {}) := by
  obtain ⟨hsends, hmarks⟩ := marks_laneDropped d s
  rw [mainLaneLost_eq, ← hmarks]
  split
  · split
    · exact (marksKept_graceExpires d _ hsends).2
    · simp [State.marks]
  · exact (marksKept_linkLostNotice d _ hsends).2

theorem state_mainLaneLost (d : Drum) (s : State) :
    ((mainLaneLost d s).drum d).port.state = .seek ∧ ((mainLaneLost d s).drum d).port.slot = none := by
  obtain ⟨g, h⟩ := lanes_mainLaneLost d s
  rw [lanes_leaveUp] at h
  exact ⟨(congrArg Port.state h :), (congrArg Port.slot h :)⟩

theorem standby_mainLaneLost (d : Drum) (s : State) : ((mainLaneLost d s).drum d).port.standby = none := by
  have hfollows := (linkKept_mainLaneLost (D₀ := s.drum d) (s := s) (d := d)).follows
  rw [DrumState.standbyRuns, (state_mainLaneLost d s).1] at hfollows
  have hno : (PortState.seek == PortState.up) = false := rfl
  rw [hno, Bool.false_and, Bool.false_and] at hfollows
  exact Option.isSome_eq_false_iff.mp hfollows |> Option.isNone_iff_eq_none.mp

theorem noticeTaken_of_laneDropped (h : NoticeTaken (laneDropped d s) t d) : NoticeTaken s t d := by
  obtain ⟨hcycle, htumble, htangle, hburner⟩ := keeps_laneDropped d s
  exact noticeTaken_congr_left htumble htangle hcycle hburner h

/-- What every loss of the main lane makes of the port, and the three ways the cycle takes it (R5, R6, R80). -/
theorem mainLaneLost_cases (d : Drum) (s : State) :
    ((s.drum d).cycle.state.active = true → (s.drum d).config.graceSteps ≠ 0 →
      ((mainLaneLost d s).drum d).port.grace = some ((s.drum d).config.graceSteps * 100) ∧
        ((mainLaneLost d s).drum d).cycle = (s.drum d).cycle ∧ ((mainLaneLost d s).drum d).tumble = (s.drum d).tumble ∧
        ((mainLaneLost d s).drum d).burner = (s.drum d).burner ∧ (mainLaneLost d s).handed = (laneDropped d s).handed) ∧
    ((s.drum d).cycle.state.active = true → (s.drum d).config.graceSteps = 0 →
      mainLaneLost d s = graceExpires d (laneDropped d s)) ∧
    ((s.drum d).cycle.state.active = false →
      NoticeTaken s (mainLaneLost d s) d ∧ ((mainLaneLost d s).drum d).cycle = (s.drum d).cycle ∧
        (mainLaneLost d s).handed = (laneDropped d s).handed) := by
  obtain ⟨hcycle, htumble, htangle, hburner⟩ := keeps_laneDropped d s
  rw [mainLaneLost_eq]
  refine ⟨fun ha hg => ?_, fun ha hg => by rw [if_pos ha, if_pos hg], fun ha => ?_⟩
  · rw [if_pos ha, if_neg hg]
    simp [hcycle, htumble, hburner]
  · rw [if_neg (by simp [ha])]
    exact ⟨noticeTaken_of_laneDropped (noticeTaken_linkLostNotice d _), by simp [hcycle], by simp⟩

theorem active_of_running {st : CycleState} (h : st ∈ [CycleState.purge, .drying, .cooling]) :
    st.active = true ∧ st ≠ .guarding := by
  simp only [List.mem_cons, List.not_mem_nil, or_false] at h
  rcases h with h | h | h <;> rw [h] <;> exact ⟨rfl, nofun⟩

theorem running_of_active {st : CycleState} (h : st.active = true) (hg : st ≠ .guarding) :
    st ∈ [CycleState.purge, .drying, .cooling] := by
  cases st <;> simp_all [CycleState.active]

theorem grace_graceExpires (d : Drum) (s : State) : ((graceExpires d s).drum d).port.grace = none := by
  rw [grace_of_lanes ((lanes_graceExpires d s).trans (lanes_onPort_grace d none s).symm)]
  simp

/-- With a grace interval of 0 the loss of lock is its end (R5). -/
theorem mainLaneLost_at_once (ha : (s.drum d).cycle.state.active = true) (hg : (s.drum d).config.graceSteps = 0) :
    GraceEnded (laneDropped d s) (mainLaneLost d s) d ∧ ((mainLaneLost d s).drum d).port.grace = none := by
  rw [(mainLaneLost_cases d s).2.1 ha hg]
  exact ⟨graceEnded_graceExpires d _, grace_graceExpires d _⟩

/-- LINK_LOST comes first and its count is handed on first (R5). -/
theorem events_laneDropped (d : Drum) (s : State) :
    (laneDropped d s).handed.1 = s.flight.events ++ [⟨.port d, .linkLost, d, s.clock, none⟩] ∧
      (laneDropped d s).handed.2 = s.flight.increments ++ [⟨.port d, d, 6⟩] := by
  rw [handed_laneDropped]; exact ⟨rfl, rfl⟩

/-- Where the loss of lock ends the grace interval at once: the pause and the end of a guard (R5, R80). -/
theorem mainLaneLost_ends (hg : (s.drum d).config.graceSteps = 0) :
    ((s.drum d).cycle.state.active = true → ((mainLaneLost d s).drum d).port.grace = none) ∧
    ((s.drum d).cycle.state ∈ [CycleState.purge, .drying, .cooling] →
      ((mainLaneLost d s).drum d).cycle.state = .paused ∧ ((mainLaneLost d s).drum d).cycle.causes = [.link] ∧
        (mainLaneLost d s).flight.events =
          s.flight.events ++
            [⟨.port d, .linkLost, d, s.clock, none⟩, ⟨.cycle d, .cyclePaused, d, s.clock, some 3⟩] ∧
        (mainLaneLost d s).flight.increments = s.flight.increments ++ [⟨.port d, d, 6⟩]) ∧
    ((s.drum d).cycle.state = .guarding →
      ((mainLaneLost d s).drum d).cycle = { (s.drum d).cycle.cleared with state := .done } ∧
        (mainLaneLost d s).flight.increments =
          s.flight.increments ++
            ⟨.port d, d, 6⟩ ::
              (if (s.drum d).cycle.reason = .dry ∨ (s.drum d).cycle.reason = .timeLimit then [⟨.cycle d, d, 7⟩] else []) ∧
        (mainLaneLost d s).flight.events =
          s.flight.events ++
            [⟨.port d, .linkLost, d, s.clock, none⟩,
              ⟨.cycle d, .cycleDone, d, s.clock, some (byte (s.drum d).cycle.reason.code)⟩]) := by
  obtain ⟨hcycle, -, -, -⟩ := keeps_laneDropped d s
  obtain ⟨hevents, hincrements⟩ := events_laneDropped d s
  have hclock := clock_laneDropped d s
  refine ⟨fun ha => (mainLaneLost_at_once ha hg).2, fun hs => ?_, fun hs => ?_⟩
  · obtain ⟨hended, -⟩ := mainLaneLost_at_once (active_of_running hs).1 hg
    obtain ⟨hstate, hcauses, hhanded⟩ := hended.paused (by rw [hcycle]; exact hs)
    rw [hevents, hincrements, hclock] at hhanded
    exact ⟨hstate, hcauses, (congrArg Prod.fst hhanded).trans (by simp), congrArg Prod.snd hhanded⟩
  · obtain ⟨hended, -⟩ := mainLaneLost_at_once (by rw [hs]; rfl) hg
    obtain ⟨hdone, hhanded⟩ := hended.done (by rw [hcycle]; exact hs)
    rw [hevents, hincrements, hclock, hcycle] at hhanded
    rw [hcycle] at hdone
    exact ⟨hdone, (congrArg Prod.snd hhanded).trans (by simp), (congrArg Prod.fst hhanded).trans (by simp)⟩

/-- The port after the loss of the main lane, the notice, and what is handed on where no grace interval ends (R5). -/
theorem mainLaneLost_spec (d : Drum) (s : State) :
    ((mainLaneLost d s).drum d).port.state = .seek ∧ ((mainLaneLost d s).drum d).port.standby = none ∧
      ((mainLaneLost d s).drum d).port.slot = none ∧ ((mainLaneLost d s).drum d).port.refresh = none ∧
      (mainLaneLost d s).marks d = ({}, {}, {}) ∧
      ((s.drum d).cycle.state.active = false ∨ (s.drum d).config.graceSteps = 0 → NoticeTaken s (mainLaneLost d s) d) ∧
      ((s.drum d).cycle.state.active = false ∨ (s.drum d).config.graceSteps ≠ 0 →
        ((mainLaneLost d s).drum d).cycle = (s.drum d).cycle ∧
        (mainLaneLost d s).flight.events = s.flight.events ++ [⟨.port d, .linkLost, d, s.clock, none⟩] ∧
        (mainLaneLost d s).flight.increments = s.flight.increments ++ [⟨.port d, d, 6⟩]) := by
  obtain ⟨hgiven, -, hrest⟩ := mainLaneLost_cases d s
  obtain ⟨hevents, hincrements⟩ := events_laneDropped d s
  obtain ⟨hstate, hslot⟩ := state_mainLaneLost d s
  refine ⟨hstate, standby_mainLaneLost d s, hslot, refresh_mainLaneLost d s, marks_mainLaneLost d s, fun h => ?_,
    fun h => ?_⟩
  · cases ha : (s.drum d).cycle.state.active with
    | false => exact (hrest ha).1
    | true =>
      have hg := h.resolve_left (by simp [ha])
      exact noticeTaken_of_laneDropped (mainLaneLost_at_once ha hg).1.notice
  · cases ha : (s.drum d).cycle.state.active with
    | false =>
      obtain ⟨-, hcycle, hhanded⟩ := hrest ha
      exact ⟨hcycle, (congrArg Prod.fst hhanded).trans hevents, (congrArg Prod.snd hhanded).trans hincrements⟩
    | true =>
      have hg := h.resolve_left (by simp [ha])
      obtain ⟨-, hcycle, -, -, hhanded⟩ := hgiven ha hg
      exact ⟨hcycle, (congrArg Prod.fst hhanded).trans hevents, (congrArg Prod.snd hhanded).trans hincrements⟩

/-- The count of the loss comes alone but where it ends a guard (R5, R78). -/
theorem increments_mainLaneLost (h : (s.drum d).cycle.state ≠ .guarding ∨ (s.drum d).config.graceSteps ≠ 0) :
    (mainLaneLost d s).flight.increments = s.flight.increments ++ [⟨.port d, d, 6⟩] := by
  obtain ⟨-, -, -, -, -, -, hkept⟩ := mainLaneLost_spec d s
  by_cases ha : (s.drum d).cycle.state.active = true
  · by_cases hg : (s.drum d).config.graceSteps = 0
    · have hguard := h.resolve_right (by simp [hg])
      exact ((mainLaneLost_ends hg).2.1 (running_of_active ha hguard)).2.2.2
    · exact (hkept (.inr hg)).2.2
  · exact (hkept (.inl (by simpa using ha))).2.2

/-! ### The commands -/

theorem exec_graceExpiry (hrun : s.resetHeld = false) :
    ((s.drum d).port.state = .seek → (s.drum d).port.grace = some 0 → exec (.graceExpiry d) s = .next (graceExpires d s)) ∧
    ((s.drum d).port.state ≠ .seek ∨ (s.drum d).port.grace ≠ some 0 → exec (.graceExpiry d) s = .next s) := by
  have h : exec (.graceExpiry d) s = execGraceExpiry d s := rfl
  rw [h, execGraceExpiry, running_released _ hrun]
  dsimp only
  refine ⟨fun hseek hdue => ?_, fun hno => ?_⟩
  · rw [onlyIf_pos (by rw [Bool.and_eq_true, beq_iff_eq, due_iff]; exact ⟨hseek, hdue⟩)]
  · rw [onlyIf_neg (by rw [Bool.and_eq_true, beq_iff_eq, due_iff]; tauto)]

theorem exec_standbyExpiry (hrun : s.resetHeld = false) :
    ((s.drum d).port.state = .up → (s.drum d).port.standby = some 0 →
      exec (.standbyExpiry d) s = .next (movePort d .service s)) ∧
    ((s.drum d).port.state ≠ .up ∨ (s.drum d).port.standby ≠ some 0 → exec (.standbyExpiry d) s = .next s) := by
  have h : exec (.standbyExpiry d) s = execStandbyExpiry d s := rfl
  rw [h, execStandbyExpiry, running_released _ hrun]
  refine ⟨fun hup hdue => ?_, fun hno => ?_⟩
  · rw [onlyIf_pos (by rw [Bool.and_eq_true, portUp_iff, due_iff]; exact ⟨hup, hdue⟩)]
  · rw [onlyIf_neg (by rw [Bool.and_eq_true, portUp_iff, due_iff]; tauto)]

/-- A port that a move takes out of UP has no standby time (R19). -/
theorem standby_movePort_of_up {st : PortState} (hup : (s.drum d).port.state = .up) (hst : st ≠ .up) :
    ((movePort d st s).drum d).port.standby = none := by
  have hleft : ((leaveUp d st s).drum d).port.standby = none := by
    simp [leaveUp, setPortState, settleStandby, DrumState.standbyRuns, hst]
  rw [movePort_of_up hup, standby_of_links (links_linkLostNotice d _)]
  exact hleft

/-- LINK_UP (R4, R17, R19). -/
theorem enterUp_spec (d : Drum) (s : State) :
    (enterUp d s).besides d = s.besides d ∧
      (enterUp d s).flight = { s.flight with events := s.flight.events ++ [⟨.port d, .linkUp, d, s.clock, none⟩] } ∧
      ((enterUp d s).drum d).cycle = (s.drum d).cycle ∧ ((enterUp d s).drum d).tumble = (s.drum d).tumble ∧
      ((enterUp d s).drum d).burner = (s.drum d).burner ∧ ((enterUp d s).drum d).port.state = .up ∧
      ((enterUp d s).drum d).port.grace = none ∧
      ((enterUp d s).drum d).port.refresh = some ((s.drum d).config.refreshSteps * 10) ∧
      ((s.drum d).port.hold = true → ((enterUp d s).drum d).port.image = (s.drum d).port.image) ∧
      ((s.drum d).port.hold = false →
        ((s.drum d).config.motorNode ≠ 0 → ((enterUp d s).drum d).port.image.driveMarks.change = true) ∧
        ((s.drum d).config.burnerNode ≠ 0 → ((enterUp d s).drum d).port.image.flameMarks.change = true) ∧
        ((s.drum d).config.fanNode ≠ 0 → ((enterUp d s).drum d).port.image.fanMarks.change = true) ∧
        ((enterUp d s).drum d).port.image.drive = (s.drum d).port.image.drive) ∧
      (((enterUp d s).drum d).standbyRuns = true → (s.drum d).port.standby = none →
        ((enterUp d s).drum d).port.standby = some (s.drum d).fullStandby) := by
  obtain ⟨hstate, hgrace, himage, hflight⟩ := enterUp_writes d s
  refine ⟨besides_enterUp d s, hflight, by simp, by simp, by simp, hstate, hgrace, refresh_enterUp d s, fun hhold => ?_,
    fun hhold => ?_, standby_enterUp⟩
  · rw [himage, if_pos hhold]
  · rw [himage, if_neg (by simp [hhold])]
    simp +contextual [Image.markAll, markIf_change]

end

/-- Settles O39: the notice by its own law, the rest case by case of the port and of the cycle. -/
theorem linkLossAndStandbyGiveTheNotice : Obligations.LinkLossAndStandbyGiveTheNotice := by
  refine ⟨fun s d hrun => ?_, fun s d hrun => ?_⟩
  · obtain ⟨hlockIdle, hlockTest, hlockSeek⟩ := exec_mainLaneLock (d := d) hrun
    obtain ⟨hlostIdle, hlostTest, hlostUp⟩ := exec_mainLaneLockLost (d := d) hrun
    obtain ⟨hdue, hnotDue⟩ := exec_graceExpiry (d := d) hrun
    refine ⟨hlockIdle, hlockTest, fun hseek => ⟨_, hlockSeek hseek, enterUp_spec d s⟩, hlostIdle, hlostTest,
      fun hup => ⟨_, hlostUp hup, besides_mainLaneLost d s, ?_⟩,
      fun hseek hgrace => ⟨_, hdue hseek hgrace, besides_graceExpires d s, ?_⟩, hnotDue⟩
    · obtain ⟨hstate, hstandby, hslot, hrefresh, hmarks, hnotice, hkept⟩ := mainLaneLost_spec d s
      obtain ⟨hgiven, -, -⟩ := mainLaneLost_cases d s
      refine ⟨hstate, hstandby, hslot, hrefresh, congrArg (·.1) hmarks, congrArg (·.2.1) hmarks, congrArg (·.2.2) hmarks,
        fun ha hg => ?_, hnotice, fun ha => (hkept (.inl ha)).1, fun h => (hkept h).2.1, increments_mainLaneLost,
        fun hg => ?_⟩
      · obtain ⟨hgrace, hcycle, htumble, hburner, -⟩ := hgiven ha hg
        exact ⟨hgrace, hcycle, htumble, hburner⟩
      · obtain ⟨hended, hpaused, hdone⟩ := mainLaneLost_ends (d := d) hg
        refine ⟨hended, fun h => ?_, hdone⟩
        obtain ⟨hstate, hcauses, hevents, -⟩ := hpaused h
        exact ⟨hstate, hcauses, hevents⟩
    obtain ⟨hnotice, hpaused, hdone, hquiet⟩ := graceEnded_graceExpires d s
    refine ⟨(keeps_graceExpires d s).1.trans hseek, grace_graceExpires d s, hnotice, fun h => ?_, fun h => ?_,
      fun h => ?_⟩
    · obtain ⟨hstate, hcauses, hhanded⟩ := hpaused h
      exact ⟨hstate, hcauses, congrArg Prod.fst hhanded⟩
    · obtain ⟨hcycle, hhanded⟩ := hdone h
      exact ⟨hcycle, congrArg Prod.fst hhanded⟩
    · obtain ⟨hcycle, hhanded⟩ := hquiet h
      exact ⟨hcycle, events_of_handed hhanded⟩
  · obtain ⟨hdue, hnotDue⟩ := exec_standbyExpiry (d := d) hrun
    refine ⟨hnotDue, fun hup hstandby => ⟨_, hdue hup hstandby, besides_movePort d .service s, ?_⟩⟩
    obtain ⟨hstate, -, -, hreadings, -, hleft, -⟩ := keeps_lanes_movePort d .service s
    obtain ⟨hevents, hincrements⟩ := flight_movePort d .service s
    obtain ⟨hslot, hrefresh⟩ := hleft hup
    exact ⟨hevents, hincrements, hstate, standby_movePort_of_up hup nofun, hslot, hrefresh, hreadings,
      noticeTaken_movePort (.inl hup), by simp⟩

end Sys2Proof.Machine
end

section
/-! The service lane: its loss and the presence set; settles O40. -/

namespace Sys2Proof.Machine

section
variable {s t u : State} {d : Drum}

/-! ### Events stay -/

theorem eventsGrow_of_handed (h : t.handed = s.handed) : s.flight.events <+: t.flight.events :=
  ⟨[], by rw [List.append_nil]; exact (events_of_handed h).symm⟩

theorem eventsGrow_raise (src : Block) (k : EventKind) (d : Drum) (x : Option Byte) (s : State) :
    s.flight.events <+: (raise src k d x s).flight.events :=
  List.prefix_append _ _

theorem mem_raise (src : Block) (k : EventKind) (d : Drum) (x : Option Byte) (s : State) :
    (⟨src, k, d, s.clock, x⟩ : Event) ∈ (raise src k d x s).flight.events :=
  List.mem_append_right _ (List.mem_singleton_self _)

theorem eventsGrow_pauseCycle (d : Drum) (c : PauseCause) (s : State) :
    s.flight.events <+: (pauseCycle d c s).flight.events := by
  have h : (pauseCycle d c s).flight.events = s.flight.events ++ _ := congrArg Prod.fst (handed_pauseCycle d c s)
  rw [h]; exact List.prefix_append _ _

theorem eventsGrow_enterDone (d : Drum) (s : State) : s.flight.events <+: (enterDone d s).flight.events := by
  have h : (enterDone d s).flight.events = s.flight.events ++ _ := congrArg Prod.fst (handed_enterDone d s)
  rw [h]; exact List.prefix_append _ _

theorem eventsGrow_pauseOrJoin (d : Drum) (c : PauseCause) (s : State) :
    s.flight.events <+: (pauseOrJoin d c s).flight.events := by
  unfold pauseOrJoin
  split
  case h_1 | h_2 | h_3 => exact eventsGrow_pauseCycle d c s
  all_goals exact List.prefix_rfl

theorem eventsGrow_cycleDoorOpened (d : Drum) (s : State) : s.flight.events <+: (cycleDoorOpened d s).flight.events := by
  unfold cycleDoorOpened
  split
  case h_1 | h_2 | h_3 | h_4 => exact eventsGrow_pauseOrJoin d .door s
  case h_5 => exact (eventsGrow_enterDone d s).trans (eventsGrow_of_handed (handed_enterVacant d _))
  case h_6 => exact eventsGrow_of_handed (handed_enterVacant d s)
  all_goals exact List.prefix_rfl

theorem eventsGrow_cycleAirflowLost (d : Drum) (s : State) : s.flight.events <+: (cycleAirflowLost d s).flight.events := by
  unfold cycleAirflowLost
  dsimp only
  split
  case h_1 | h_2 => exact eventsGrow_pauseCycle d .airflow s
  all_goals exact List.prefix_rfl

theorem eventsGrow_cycleOnChange (d : Drum) (x : Discrete) (safe : Bool) (s : State) :
    s.flight.events <+: (cycleOnChange d x safe s).flight.events := by
  unfold cycleOnChange
  split
  case h_1 => exact eventsGrow_cycleDoorOpened d s
  case h_2 => exact eventsGrow_cycleAirflowLost d s
  case h_3 =>
    unfold cycleAirflowProven
    dsimp only
    split <;> exact List.prefix_rfl
  case h_4 => exact eventsGrow_of_handed (handed_heatEnd d .overtemp s)
  all_goals exact List.prefix_rfl

theorem eventsGrow_cycleNodeLost (d : Drum) (n : Nat) (s : State) :
    s.flight.events <+: (cycleNodeLost d n s).flight.events := by
  unfold cycleNodeLost
  split
  · split
    case h_1 | h_2 | h_3 | h_4 => exact eventsGrow_pauseOrJoin d .node s
    case h_5 => exact eventsGrow_enterDone d s
    all_goals exact List.prefix_rfl
  · exact List.prefix_rfl

/-! ### The change of a discrete -/

/-- The events that a change of a discrete raises, and the count of an accepted trip (R12, R75). -/
theorem handed_readingTaken (d : Drum) (x : Discrete) (safe accepted : Bool) (s : State) :
    (readingTaken d x safe accepted s).handed =
      (s.handed.1 ++ ((changeEvent x safe).map fun k => ⟨.port d, k, d, s.clock, none⟩).toList,
        s.handed.2 ++ (if accepted && x == .highlimit && safe then [⟨.burner d, d, 2⟩] else [])) := by
  unfold readingTaken
  dsimp only
  cases changeEvent x safe <;> dsimp only <;> split <;> simp_all [handed_raise, handed_handIncrement]

/-- A change of a discrete up to the cycle controller's act touches neither cycle nor tumble controller. -/
theorem keeps_readingTaken (d : Drum) (x : Discrete) (safe accepted : Bool) (s : State) :
    ((readingTaken d x safe accepted s).drum d).cycle = (s.drum d).cycle ∧
      ((readingTaken d x safe accepted s).drum d).tumble = (s.drum d).tumble := by
  unfold readingTaken
  dsimp only
  cases changeEvent x safe <;> dsimp only <;> split <;> simp

theorem events_readingTaken {x : Discrete} {safe : Bool} {k : EventKind} (hk : changeEvent x safe = some k)
    (d : Drum) (accepted : Bool) (s : State) :
    (readingTaken d x safe accepted s).flight.events = s.flight.events ++ [⟨.port d, k, d, s.clock, none⟩] := by
  refine (congrArg Prod.fst (handed_readingTaken d x safe accepted s)).trans ?_
  rw [hk]; rfl

/-- The event of a change is the first that the change adds (R12). -/
theorem eventsGrow_changeReading {x : Discrete} {safe : Bool} {k : EventKind} (hk : changeEvent x safe = some k)
    (d : Drum) (accepted : Bool) (s : State) :
    s.flight.events ++ [⟨.port d, k, d, s.clock, none⟩] <+: (changeReading d x safe accepted s).flight.events := by
  have hacted := eventsGrow_cycleOnChange d x safe (readingTaken d x safe accepted s)
  rw [events_readingTaken hk] at hacted
  rw [changeReading_eq]
  split
  · exact hacted
  · exact hacted

/-- A discrete forced to its safe reading reports the change (R10, R12). -/
theorem eventsGrow_forceSafe (d : Drum) (x : Discrete) (s : State) : s.flight.events <+: (forceSafe d x s).flight.events := by
  unfold forceSafe
  split
  · exact List.prefix_rfl
  · cases x <;> exact (List.prefix_append _ _).trans (eventsGrow_changeReading rfl d false s)

theorem mem_forceSafe {x : Discrete} {k : EventKind} (hk : changeEvent x true = some k)
    (h : (s.drum d).port.readings.get x = false) :
    (⟨.port d, k, d, s.clock, none⟩ : Event) ∈ (forceSafe d x s).flight.events := by
  unfold forceSafe
  rw [if_neg (by simp [h])]
  exact (eventsGrow_changeReading hk d false s).subset (List.mem_append_right _ (List.mem_singleton_self _))

/-! ### The presence set -/

section
variable {old new : BitVec 16} {n : Nat}

theorem presenceChange_found (h : new.getLsbD n = true) (ho : old.getLsbD n = false) :
    presenceChange d old new s n = raise (.port d) .nodePresent d (some (byte n)) s := by
  simp [presenceChange, h, ho]

theorem presenceChange_lost (h : new.getLsbD n = false) (ho : old.getLsbD n = true) :
    presenceChange d old new s n = cycleNodeLost d n (raise (.port d) .nodeLost d (some (byte n)) s) := by
  simp [presenceChange, h, ho]

theorem presenceChange_same (h : new.getLsbD n = old.getLsbD n) : presenceChange d old new s n = s := by
  simp [presenceChange, h]

/-- The three things a replaced presence set can mean for an address. -/
theorem presenceChange_cases (old new : BitVec 16) (n : Nat) :
    (new.getLsbD n = true ∧ old.getLsbD n = false) ∨ (new.getLsbD n = false ∧ old.getLsbD n = true) ∨
      new.getLsbD n = old.getLsbD n := by
  cases new.getLsbD n <;> cases old.getLsbD n <;> simp

theorem eventsGrow_presenceChange (d : Drum) (old new : BitVec 16) (s : State) (n : Nat) :
    s.flight.events <+: (presenceChange d old new s n).flight.events := by
  rcases presenceChange_cases old new n with ⟨h, ho⟩ | ⟨h, ho⟩ | h
  · rw [presenceChange_found h ho]; exact eventsGrow_raise _ _ _ _ _
  · rw [presenceChange_lost h ho]; exact (eventsGrow_raise _ _ _ _ _).trans (eventsGrow_cycleNodeLost d n _)
  · rw [presenceChange_same h]

theorem eventsGrow_foldl_presenceChange (d : Drum) (old new : BitVec 16) (l : List Nat) (s : State) :
    s.flight.events <+: (l.foldl (presenceChange d old new) s).flight.events :=
  List.foldlRecOn (motive := fun t : State => s.flight.events <+: t.flight.events) l _ List.prefix_rfl
    fun t ht n _ => ht.trans (eventsGrow_presenceChange d old new t n)

/-- An event that the change of one address raises, whatever the state, stands after the changes of all. -/
theorem mem_foldl_presenceChange {l : List Nat} {e : Event} (hn : n ∈ l)
    (he : ∀ u : State, u.clock = s.clock → e ∈ (presenceChange d old new u n).flight.events) :
    e ∈ (l.foldl (presenceChange d old new) s).flight.events := by
  induction l generalizing s with
  | nil => cases hn
  | cons m l ih =>
    rw [List.foldl_cons]
    rcases List.mem_cons.mp hn with rfl | hn
    · exact (eventsGrow_foldl_presenceChange d old new l _).subset (he s rfl)
    · have hclock : (presenceChange d old new s m).clock = s.clock := clock_of_besides (besides_presenceChange d old new s m)
      exact ih hn fun u hu => he u (hu.trans hclock)

theorem mem_presenceChange_found (h : new.getLsbD n = true) (ho : old.getLsbD n = false) (hu : u.clock = s.clock) :
    (⟨.port d, .nodePresent, d, s.clock, some (byte n)⟩ : Event) ∈ (presenceChange d old new u n).flight.events := by
  rw [presenceChange_found h ho, ← hu]
  exact mem_raise _ _ _ _ _

theorem mem_presenceChange_lost (h : new.getLsbD n = false) (ho : old.getLsbD n = true) (hu : u.clock = s.clock) :
    (⟨.port d, .nodeLost, d, s.clock, some (byte n)⟩ : Event) ∈ (presenceChange d old new u n).flight.events := by
  rw [presenceChange_lost h ho, ← hu]
  exact (eventsGrow_cycleNodeLost d n _).subset (mem_raise _ _ _ _ _)

theorem mem_nodeAddresses : n ∈ nodeAddresses ↔ 1 ≤ n ∧ n ≤ 14 := by
  simp only [nodeAddresses, List.mem_cons, List.not_mem_nil, or_false]
  omega

/-- Addresses 0 and 15 are no nodes (R13). -/
theorem getLsbD_presenceMask (report : BitVec 16) (n : Nat) :
    (report &&& 0x7FFE#16).getLsbD n = (report.getLsbD n && decide (1 ≤ n) && decide (n ≤ 14)) := by
  have hmask : ∀ n < 16, (0x7FFE#16).getLsbD n = (decide (1 ≤ n) && decide (n ≤ 14)) := by decide
  rw [BitVec.getLsbD_and, Bool.and_assoc]
  by_cases h : n < 16
  · rw [hmask n h]
  · rw [BitVec.getLsbD_of_ge report n (not_lt.mp h), Bool.false_and, Bool.false_and]

theorem getLsbD_presenceMask_node (report : BitVec 16) (h : n ∈ nodeAddresses) :
    (report &&& 0x7FFE#16).getLsbD n = report.getLsbD n := by
  obtain ⟨h1, h14⟩ := mem_nodeAddresses.mp h
  rw [getLsbD_presenceMask]
  simp [h1, h14]

/-! ### The loss of a node and the cycle -/

/-- The cycle's bindings are read from its record and the drum's configuration (R80). -/
theorem boundNodes_congr {D D' : DrumState} (hc : D'.cycle = D.cycle) (hf : D'.config = D.config) :
    D'.boundNodes = D.boundNodes := by
  unfold DrumState.boundNodes; rw [hc, hf]

theorem cycleNodeLost_unbound (h : n ∉ (s.drum d).boundNodes) : cycleNodeLost d n s = s := if_neg h

theorem cycleNodeLost_running (h : n ∈ (s.drum d).boundNodes)
    (hs : (s.drum d).cycle.state ∈ [CycleState.purge, .drying, .cooling]) :
    cycleNodeLost d n s = pauseCycle d .node s := by
  simp only [List.mem_cons, List.not_mem_nil, or_false] at hs
  unfold cycleNodeLost pauseOrJoin
  rw [if_pos h]
  rcases hs with hs | hs | hs <;> rw [hs]

theorem cycleNodeLost_guarding (h : n ∈ (s.drum d).boundNodes) (hs : (s.drum d).cycle.state = .guarding) :
    cycleNodeLost d n s = enterDone d s := by
  unfold cycleNodeLost
  rw [if_pos h, hs]

/-- The cycle is paused, its causes as given (R79). -/
def PausedBy (p : List PauseCause → Prop) (s : State) (d : Drum) : Prop :=
  (s.drum d).cycle.state = .paused ∧ p (s.drum d).cycle.causes

theorem pausedBy_congr {p : List PauseCause → Prop} (hs : (t.drum d).cycle.state = (s.drum d).cycle.state)
    (hc : (t.drum d).cycle.causes = (s.drum d).cycle.causes) (h : PausedBy p s d) : PausedBy p t d :=
  ⟨hs.trans h.1, by rw [hc]; exact h.2⟩

/-- A further loss of a node leaves a paused cycle paused, and at most adds its cause (R79). -/
theorem pausedBy_cycleNodeLost {p : List PauseCause → Prop} (h : PausedBy p s d)
    (hp : ∀ l, p l → PauseCause.node ∉ l → p (l ++ [.node])) : PausedBy p (cycleNodeLost d n s) d := by
  obtain ⟨hs, hc⟩ := h
  have hjoin : PausedBy p (joinCause d .node s) d := by
    unfold joinCause PausedBy
    rw [drum_onCycle_self]
    dsimp only
    split
    next => exact ⟨hs, hc⟩
    next hnot => exact ⟨hs, hp _ hc hnot⟩
  unfold cycleNodeLost pauseOrJoin
  rw [hs]
  dsimp only
  split
  · exact hjoin
  · exact ⟨hs, hc⟩

theorem pausedBy_presenceChange {p : List PauseCause → Prop} (h : PausedBy p s d)
    (hp : ∀ l, p l → PauseCause.node ∉ l → p (l ++ [.node])) (m : Nat) : PausedBy p (presenceChange d old new s m) d := by
  rcases presenceChange_cases old new m with ⟨hn, ho⟩ | ⟨hn, ho⟩ | hn
  · rw [presenceChange_found hn ho]; exact h
  · rw [presenceChange_lost hn ho]; exact pausedBy_cycleNodeLost h hp
  · rw [presenceChange_same hn]; exact h

theorem done_presenceChange (h : (s.drum d).cycle.state = .done) (m : Nat) :
    ((presenceChange d old new s m).drum d).cycle.state = .done := by
  rcases presenceChange_cases old new m with ⟨hn, ho⟩ | ⟨hn, ho⟩ | hn
  · rw [presenceChange_found hn ho]; exact h
  · rw [presenceChange_lost hn ho, cycleNodeLost_quiet]
    · exact h
    · rw [(keeps_raise _ _ _ _ _ _).2.1, h]; decide
  · rw [presenceChange_same hn]; exact h

/-- A cycle not yet touched by the changes of the presence set. -/
def Untouched (D : DrumState) (s : State) (d : Drum) : Prop :=
  (s.drum d).cycle = D.cycle ∧ (s.drum d).config = D.config

theorem untouched_raise {D : DrumState} (h : Untouched D s d) (k : EventKind) (x : Option Byte) :
    Untouched D (raise (.port d) k d x s) d := h

/-- The change of an address that is not the loss of a bound node leaves the cycle alone (R80). -/
theorem untouched_presenceChange {D : DrumState} (h : Untouched D s d)
    (hb : n ∈ D.boundNodes → old.getLsbD n = true → new.getLsbD n = true) :
    Untouched D (presenceChange d old new s n) d := by
  rcases presenceChange_cases old new n with ⟨hn, ho⟩ | ⟨hn, ho⟩ | hn
  · rw [presenceChange_found hn ho]; exact h
  · have hu : n ∉ D.boundNodes := fun hm => by rw [hb hm ho] at hn; cases hn
    have hraised := untouched_raise h .nodeLost (some (byte n))
    rw [presenceChange_lost hn ho, cycleNodeLost_unbound (by rw [boundNodes_congr hraised.1 hraised.2]; exact hu)]
    exact hraised
  · rw [presenceChange_same hn]; exact h

theorem untouched_setPresence {report : BitVec 16}
    (hb : ∀ n ∈ (s.drum d).boundNodes, (s.drum d).port.nodePresent n = true → report.getLsbD n = true) :
    ((setPresence d report s).drum d).cycle = (s.drum d).cycle := by
  have h : Untouched (s.drum d) (setPresence d report s) d :=
    List.foldlRecOn (motive := fun u : State => Untouched (s.drum d) u d) nodeAddresses _ ⟨by simp, by simp⟩
      fun u hu n hn => untouched_presenceChange hu fun hm ho => by
        rw [getLsbD_presenceMask_node report hn]; exact hb n hm ho
  exact h.1

/-- What the loss of a bound node makes of the cycle stands after the whole presence set is replaced: `P` is what it makes of
it, which no further change of an address undoes. -/
theorem foldl_presenceChange_reaches {D : DrumState} {P : State → Prop} {l : List Nat}
    (hkeep : ∀ (u : State) (m : Nat), P u → P (presenceChange d old new u m))
    (hreach : ∀ (u : State) (m : Nat), Untouched D u d → m ∈ D.boundNodes → P (cycleNodeLost d m u))
    (h : Untouched D s d ∨ P s) :
    (Untouched D (l.foldl (presenceChange d old new) s) d ∨ P (l.foldl (presenceChange d old new) s)) ∧
      (n ∈ l → n ∈ D.boundNodes → old.getLsbD n = true → new.getLsbD n = false →
        P (l.foldl (presenceChange d old new) s)) := by
  have hlost (u : State) (m : Nat) (hu : Untouched D u d ∨ P u) (hm : m ∈ D.boundNodes) (ho : old.getLsbD m = true)
      (hn : new.getLsbD m = false) : P (presenceChange d old new u m) := by
    rcases hu with hu | hu
    · rw [presenceChange_lost hn ho]
      exact hreach _ m (untouched_raise hu .nodeLost (some (byte m))) hm
    · exact hkeep u m hu
  have hstep (u : State) (m : Nat) (hu : Untouched D u d ∨ P u) :
      Untouched D (presenceChange d old new u m) d ∨ P (presenceChange d old new u m) := by
    by_cases hl : m ∈ D.boundNodes ∧ old.getLsbD m = true ∧ new.getLsbD m = false
    · exact .inr (hlost u m hu hl.1 hl.2.1 hl.2.2)
    · rcases hu with hu | hu
      · exact .inl (untouched_presenceChange hu fun hm ho => by simpa [hm, ho] using hl)
      · exact .inr (hkeep u m hu)
  have hall (l : List Nat) (u : State) (hu : P u) : P (l.foldl (presenceChange d old new) u) :=
    List.foldlRecOn (motive := P) l _ hu fun v hv m _ => hkeep v m hv
  induction l generalizing s with
  | nil => exact ⟨h, nofun⟩
  | cons m l ih =>
    rw [List.foldl_cons]
    obtain ⟨hfold, hmem⟩ := ih (hstep s m h)
    refine ⟨hfold, fun hn hb ho hnew => ?_⟩
    rcases List.mem_cons.mp hn with rfl | hn
    · exact hall l _ (hlost s _ h hb ho hnew)
    · exact hmem hn hb ho hnew

/-- The loss of a bound node pauses a running cycle and ends a guard (R80, R81). -/
theorem setPresence_node_lost {report : BitVec 16} {P : State → Prop}
    (hkeep : ∀ (new : BitVec 16) (u : State) (m : Nat),
      P u → P (presenceChange d (s.drum d).port.presence new u m))
    (hreach : ∀ (u : State) (m : Nat), Untouched (s.drum d) u d → m ∈ (s.drum d).boundNodes → P (cycleNodeLost d m u))
    (hlost : ∃ n ∈ (s.drum d).boundNodes, 1 ≤ n ∧ n ≤ 14 ∧ (s.drum d).port.nodePresent n = true ∧
      report.getLsbD n = false) :
    P (setPresence d report s) := by
  obtain ⟨n, hb, h1, h14, hp, hr⟩ := hlost
  have hn : n ∈ nodeAddresses := mem_nodeAddresses.mpr ⟨h1, h14⟩
  have hbase : Untouched (s.drum d) (s.onPort d fun p => { p with presence := report &&& 0x7FFE#16 }) d :=
    ⟨by simp, by simp⟩
  exact (foldl_presenceChange_reaches (n := n) (hkeep _) hreach (.inl hbase)).2 hn hb hp
    (by rw [getLsbD_presenceMask_node report hn]; exact hr)

theorem setPresence_pauses {report : BitVec 16} (hs : (s.drum d).cycle.state ∈ [CycleState.purge, .drying, .cooling])
    (hlost : ∃ n ∈ (s.drum d).boundNodes, 1 ≤ n ∧ n ≤ 14 ∧ (s.drum d).port.nodePresent n = true ∧
      report.getLsbD n = false) :
    PausedBy (· = [.node]) (setPresence d report s) d := by
  refine setPresence_node_lost (P := fun u => PausedBy (· = [.node]) u d)
    (fun new u m hu => pausedBy_presenceChange hu ?_ m) (fun u m hu hm => ?_) hlost
  · rintro l rfl hnot
    exact absurd (List.mem_singleton_self _) hnot
  · rw [cycleNodeLost_running (by rw [boundNodes_congr hu.1 hu.2]; exact hm) (by rw [hu.1]; exact hs)]
    exact cycle_pauseCycle d .node u

theorem setPresence_ends_guard {report : BitVec 16} (hs : (s.drum d).cycle.state = .guarding)
    (hlost : ∃ n ∈ (s.drum d).boundNodes, 1 ≤ n ∧ n ≤ 14 ∧ (s.drum d).port.nodePresent n = true ∧
      report.getLsbD n = false) :
    ((setPresence d report s).drum d).cycle.state = .done := by
  refine setPresence_node_lost (P := fun u => (u.drum d).cycle.state = .done)
    (fun new u m hu => done_presenceChange hu m) (fun u m hu hm => ?_) hlost
  rw [cycleNodeLost_guarding (by rw [boundNodes_congr hu.1 hu.2]; exact hm) (by rw [hu.1]; exact hs), cycle_enterDone]

end

/-! ### The loss of the service lane and the cycle -/

/-- A running cycle whose door reading is forced to open is paused by DOOR (R10, R79). -/
theorem pausedBy_forceSafe_door (h : (s.drum d).port.readings.doorOpen = false)
    (hs : (s.drum d).cycle.state ∈ [CycleState.purge, .drying, .cooling]) :
    PausedBy (PauseCause.door ∈ ·) (forceSafe d .door s) d := by
  have hread : ¬((s.drum d).port.readings.get .door) = true := by simp [Readings.get, h]
  have hcycle := (keeps_readingTaken d .door true false s).1
  unfold forceSafe
  rw [if_neg hread, changeReading_forced]
  have hpause : cycleOnChange d .door true (readingTaken d .door true false s) =
      pauseCycle d .door (readingTaken d .door true false s) := by
    simp only [List.mem_cons, List.not_mem_nil, or_false] at hs
    show cycleDoorOpened d _ = _
    unfold cycleDoorOpened pauseOrJoin
    rw [hcycle]
    rcases hs with hs | hs | hs <;> rw [hs]
  rw [hpause]
  obtain ⟨hstate, hcauses⟩ := cycle_pauseCycle d .door (readingTaken d .door true false s)
  exact ⟨hstate, by rw [hcauses]; exact List.mem_singleton_self _⟩

/-- A forced change other than that of DOOR adds no cause and leaves a paused cycle paused (R10, R79). -/
theorem pausedBy_forceSafe {p : List PauseCause → Prop} (h : PausedBy p s d) {x : Discrete} (hx : x ≠ .door) :
    PausedBy p (forceSafe d x s) d := by
  have hcycle := (keeps_readingTaken d x true false s).1
  have htaken : PausedBy p (readingTaken d x true false s) d := pausedBy_congr (by rw [hcycle]) (by rw [hcycle]) h
  have hpaused := htaken.1
  unfold forceSafe
  split
  · exact h
  · rw [changeReading_forced]
    cases x with
    | door => exact absurd rfl hx
    | lint => exact htaken
    | airflow =>
      show PausedBy p (cycleAirflowLost d _) d
      unfold cycleAirflowLost
      dsimp only
      rw [hpaused]
      exact htaken
    | highlimit =>
      show PausedBy p (heatEnd d .overtemp _) d
      unfold heatEnd
      dsimp only
      rw [hpaused]
      dsimp only
      split
      · exact pausedBy_congr (by simp) (by simp) htaken
      · exact htaken

/-- A replaced presence set leaves a paused cycle paused, and at most adds the cause NODE (R79, R80). -/
theorem pausedBy_setPresence {p : List PauseCause → Prop} (h : PausedBy p s d)
    (hp : ∀ l, p l → PauseCause.node ∉ l → p (l ++ [.node])) (report : BitVec 16) :
    PausedBy p (setPresence d report s) d := by
  have hbase : PausedBy p (s.onPort d fun q => { q with presence := report &&& 0x7FFE#16 }) d :=
    pausedBy_congr (by simp) (by simp) h
  exact List.foldlRecOn (motive := fun u : State => PausedBy p u d) nodeAddresses _ hbase
    fun u hu n _ => pausedBy_presenceChange hu hp n

/-- The service lane with its lock gone and its debounce timers stopped. -/
def laneUnlocked (d : Drum) (s : State) : State := s.onPort d fun p => { p with serviceLock := false, debounce := {} }

/-- The loss of the service lane, its forced changes in their order (R10). -/
theorem serviceLaneDown_eq (d : Drum) (s : State) :
    serviceLaneDown d s =
      setPresence d 0
        (forceSafe d .highlimit (forceSafe d .airflow (forceSafe d .lint (forceSafe d .door (laneUnlocked d s))))) := rfl

theorem keeps_laneUnlocked (d : Drum) (s : State) :
    ((laneUnlocked d s).drum d).port.readings = (s.drum d).port.readings ∧
      ((laneUnlocked d s).drum d).port.presence = (s.drum d).port.presence ∧
      ((laneUnlocked d s).drum d).cycle = (s.drum d).cycle := by
  unfold laneUnlocked; simp

theorem pausedBy_serviceLaneDown (h : (s.drum d).port.readings.doorOpen = false)
    (hs : (s.drum d).cycle.state ∈ [CycleState.purge, .drying, .cooling]) :
    PausedBy (PauseCause.door ∈ ·) (serviceLaneDown d s) d := by
  obtain ⟨hreadings, -, hcycle⟩ := keeps_laneUnlocked d s
  have hdoor := pausedBy_forceSafe_door (d := d) (s := laneUnlocked d s) (by rw [hreadings]; exact h) (by rw [hcycle]; exact hs)
  have hlint := pausedBy_forceSafe hdoor (x := .lint) nofun
  have hairflow := pausedBy_forceSafe hlint (x := .airflow) nofun
  have hhighlimit := pausedBy_forceSafe hairflow (x := .highlimit) nofun
  rw [serviceLaneDown_eq]
  exact pausedBy_setPresence hhighlimit (fun l hl _ => List.mem_append_left _ hl) 0

/-! ### What the loss of the service lane reports -/

theorem readings_forceSafe (d : Drum) (x : Discrete) (s : State) :
    ((forceSafe d x s).drum d).port.readings = (s.drum d).port.readings.set x true := by
  have h := lanes_forceSafe d x s
  exact (congrArg Port.readings h :)

theorem get_set_ne {r : Readings} {x y : Discrete} (h : y ≠ x) (v : Bool) : (r.set x v).get y = r.get y := by
  revert h
  cases x <;> cases y <;> simp [Readings.set, Readings.get]

theorem get_forceSafe_ne {x y : Discrete} (h : y ≠ x) :
    ((forceSafe d x s).drum d).port.readings.get y = (s.drum d).port.readings.get y := by
  rw [readings_forceSafe, get_set_ne h]

theorem clock_forceSafe (d : Drum) (x : Discrete) (s : State) : (forceSafe d x s).clock = s.clock :=
  clock_of_besides (besides_forceSafe d x s)

theorem eventsGrow_setPresence (d : Drum) (report : BitVec 16) (s : State) :
    s.flight.events <+: (setPresence d report s).flight.events :=
  eventsGrow_foldl_presenceChange d (s.drum d).port.presence (report &&& 0x7FFE#16) nodeAddresses
    (s.onPort d fun p => { p with presence := report &&& 0x7FFE#16 })

/-- Every address that enters the presence set is reported (R13). -/
theorem mem_setPresence_found {report : BitVec 16} {n : Nat} (h1 : 1 ≤ n) (h14 : n ≤ 14) (h : report.getLsbD n = true)
    (ho : (s.drum d).port.nodePresent n = false) :
    (⟨.port d, .nodePresent, d, s.clock, some (byte n)⟩ : Event) ∈ (setPresence d report s).flight.events := by
  have hn := mem_nodeAddresses.mpr ⟨h1, h14⟩
  exact mem_foldl_presenceChange (s := s.onPort d fun p => { p with presence := report &&& 0x7FFE#16 }) hn
    fun u hu => mem_presenceChange_found (by rw [getLsbD_presenceMask_node report hn]; exact h) ho hu

/-- Every address that leaves the presence set is reported (R13). -/
theorem mem_setPresence_lost {report : BitVec 16} {n : Nat} (h1 : 1 ≤ n) (h14 : n ≤ 14) (h : report.getLsbD n = false)
    (ho : (s.drum d).port.nodePresent n = true) :
    (⟨.port d, .nodeLost, d, s.clock, some (byte n)⟩ : Event) ∈ (setPresence d report s).flight.events := by
  have hn := mem_nodeAddresses.mpr ⟨h1, h14⟩
  exact mem_foldl_presenceChange (s := s.onPort d fun p => { p with presence := report &&& 0x7FFE#16 }) hn
    fun u hu => mem_presenceChange_lost (by rw [getLsbD_presenceMask_node report hn]; exact h) ho hu

theorem nodePresent_setPresence (d : Drum) (report : BitVec 16) (s : State) (n : Nat) :
    ((setPresence d report s).drum d).port.nodePresent n =
      (report.getLsbD n && decide (1 ≤ n) && decide (n ≤ 14)) := by
  have h := lanes_setPresence d report s
  have hpresence : ((setPresence d report s).drum d).port.presence = report &&& 0x7FFE#16 := (congrArg Port.presence h :)
  unfold Port.nodePresent
  rw [hpresence, getLsbD_presenceMask]

/-- Each reading that falls to safe with the lane is reported (R10, R12). -/
theorem mem_serviceLaneDown_reading (x : Discrete) {k : EventKind} (hk : changeEvent x true = some k)
    (h : (s.drum d).port.readings.get x = false) :
    (⟨.port d, k, d, s.clock, none⟩ : Event) ∈ (serviceLaneDown d s).flight.events := by
  have hclock : (laneUnlocked d s).clock = s.clock := rfl
  have hread : ((laneUnlocked d s).drum d).port.readings.get x = false := by rw [(keeps_laneUnlocked d s).1]; exact h
  rw [serviceLaneDown_eq]
  generalize laneUnlocked d s = s0 at hclock hread
  refine (eventsGrow_setPresence d 0 _).subset ?_
  cases x with
  | door =>
    have hmem := mem_forceSafe hk hread
    rw [hclock] at hmem
    exact (((eventsGrow_forceSafe d .lint _).trans (eventsGrow_forceSafe d .airflow _)).trans
      (eventsGrow_forceSafe d .highlimit _)).subset hmem
  | lint =>
    have hmem := mem_forceSafe (d := d) (s := forceSafe d .door s0) hk (by rw [get_forceSafe_ne (by decide)]; exact hread)
    rw [clock_forceSafe, hclock] at hmem
    exact ((eventsGrow_forceSafe d .airflow _).trans (eventsGrow_forceSafe d .highlimit _)).subset hmem
  | airflow =>
    have hmem := mem_forceSafe (d := d) (s := forceSafe d .lint (forceSafe d .door s0)) hk
      (by rw [get_forceSafe_ne (by decide), get_forceSafe_ne (by decide)]; exact hread)
    rw [clock_forceSafe, clock_forceSafe, hclock] at hmem
    exact (eventsGrow_forceSafe d .highlimit _).subset hmem
  | highlimit =>
    have hmem := mem_forceSafe (d := d) (s := forceSafe d .airflow (forceSafe d .lint (forceSafe d .door s0))) hk
      (by rw [get_forceSafe_ne (by decide), get_forceSafe_ne (by decide), get_forceSafe_ne (by decide)]; exact hread)
    rw [clock_forceSafe, clock_forceSafe, clock_forceSafe, hclock] at hmem
    exact hmem

/-- Each node present is reported lost with the lane (R10, R13). -/
theorem mem_serviceLaneDown_node {n : Nat} (h1 : 1 ≤ n) (h14 : n ≤ 14) (h : (s.drum d).port.nodePresent n = true) :
    (⟨.port d, .nodeLost, d, s.clock, some (byte n)⟩ : Event) ∈ (serviceLaneDown d s).flight.events := by
  have hpresent : ((forceSafe d .highlimit (forceSafe d .airflow (forceSafe d .lint
      (forceSafe d .door (laneUnlocked d s))))).drum d).port.nodePresent n = true := by
    unfold Port.nodePresent
    simp only [keeps_forceSafe, keeps_laneUnlocked]
    exact h
  have hmem := mem_setPresence_lost (report := 0) h1 h14 (BitVec.getLsbD_zero) hpresent
  simp only [clock_forceSafe] at hmem
  rw [serviceLaneDown_eq]
  exact hmem

/-- The port after the loss of the service lane (R10). -/
theorem port_serviceLaneDown (d : Drum) (s : State) :
    ((serviceLaneDown d s).drum d).port.serviceLock = false ∧
      ((serviceLaneDown d s).drum d).port.readings = ⟨true, true, true, true⟩ ∧
      ((serviceLaneDown d s).drum d).port.presence = 0 ∧ ((serviceLaneDown d s).drum d).port.debounce = {} ∧
      ((serviceLaneDown d s).drum d).port.state = (s.drum d).port.state ∧
      ((serviceLaneDown d s).drum d).port.hold = (s.drum d).port.hold := by
  have h := lanes_serviceLaneDown d s
  exact ⟨(congrArg Port.serviceLock h :), (congrArg Port.readings h :), (congrArg Port.presence h :),
    (congrArg Port.debounce h :), (congrArg Port.state h :), (congrArg Port.hold h :)⟩

/-! ### The commands -/

theorem exec_serviceLaneLock (hrun : s.resetHeld = false) :
    ((s.drum d).port.state = .off → exec (.serviceLaneLock d) s = .next s) ∧
    ((s.drum d).port.state ≠ .off →
      exec (.serviceLaneLock d) s = .next (s.onPort d fun p => { p with serviceLock := true })) := by
  have h : exec (.serviceLaneLock d) s = execServiceLaneLock d s := rfl
  rw [h, execServiceLaneLock, running_released _ hrun]
  refine ⟨fun hoff => ?_, fun hon => ?_⟩
  · rw [onlyIf_neg (by simp [hoff])]
  · rw [onlyIf_pos (by simpa using hon)]

theorem exec_serviceLaneLockLost (hrun : s.resetHeld = false) :
    ((s.drum d).port.serviceLock = false → exec (.serviceLaneLockLost d) s = .next s) ∧
    ((s.drum d).port.serviceLock = true → exec (.serviceLaneLockLost d) s = .next (serviceLaneDown d s)) := by
  have h : exec (.serviceLaneLockLost d) s = execServiceLaneLockLost d s := rfl
  rw [h, execServiceLaneLockLost, running_released _ hrun]
  exact ⟨fun hno => by rw [onlyIf_neg (by simp [hno])], fun hlock => by rw [onlyIf_pos hlock]⟩

theorem exec_presenceReport {report : BitVec 16} (hrun : s.resetHeld = false) :
    ((s.drum d).port.serviceLock = false ∨ (s.drum d).port.hold = true → exec (.presenceReport d report) s = .next s) ∧
    ((s.drum d).port.serviceLock = true → (s.drum d).port.hold = false →
      exec (.presenceReport d report) s = .next (setPresence d report s)) := by
  have h : exec (.presenceReport d report) s = execPresenceReport d report s := rfl
  rw [h, execPresenceReport, running_released _ hrun]
  refine ⟨fun hno => ?_, fun hlock hhold => ?_⟩
  · rw [onlyIf_neg (by rcases hno with hno | hno <;> simp [hno])]
  · rw [onlyIf_pos (by simp [hlock, hhold])]

end

/-- Settles O40: the events by what each change raises and none takes away, the pause by the first change that causes it. -/
theorem serviceLaneReportsReadingsAndPresence : Obligations.ServiceLaneReportsReadingsAndPresence := by
  refine ⟨fun s d hrun => ?_, fun s d report hrun => ?_⟩
  · obtain ⟨hoff, hlock⟩ := exec_serviceLaneLock (d := d) hrun
    obtain ⟨hidle, hlost⟩ := exec_serviceLaneLockLost (d := d) hrun
    refine ⟨hoff, hlock, hidle, fun hlocked => ⟨_, hlost hlocked, besides_serviceLaneDown d s, ?_⟩⟩
    obtain ⟨hdown, hreadings, hpresence, hdebounce, hstate, hhold⟩ := port_serviceLaneDown d s
    refine ⟨hdown, hreadings, hpresence, hdebounce, hstate, hhold, ?_, fun n h1 h14 hn => mem_serviceLaneDown_node h1 h14 hn,
      fun hdoor hs => pausedBy_serviceLaneDown hdoor hs⟩
    simp only [List.forall_mem_cons, List.not_mem_nil, false_implies, implies_true, and_true]
    exact ⟨mem_serviceLaneDown_reading .door rfl, mem_serviceLaneDown_reading .lint rfl,
      mem_serviceLaneDown_reading .airflow rfl, mem_serviceLaneDown_reading .highlimit rfl⟩
  · obtain ⟨hidle, hreport⟩ := exec_presenceReport (d := d) (report := report) hrun
    exact ⟨hidle, fun hlocked hfree => ⟨_, hreport hlocked hfree, besides_setPresence d report s,
      nodePresent_setPresence d report s, fun n => mem_setPresence_found, fun n => mem_setPresence_lost,
      untouched_setPresence,
      fun hnode => ⟨fun hs => setPresence_pauses hs hnode, fun hs => setPresence_ends_guard hs hnode⟩⟩⟩

end Sys2Proof.Machine
end

section
/-! The debounced change of a discrete: the flame, the cycle and the standby timer; settles O41. -/

namespace Sys2Proof.Machine

section
variable {s t : State} {d : Drum} {x : Discrete}

/-! ### The flame under a reading that forbids heat -/

/-- A reading that forbids heat (R141). -/
def Barred (r : Readings) : Prop :=
  r.doorOpen = true ∨ r.airflowNotProven = true ∨ r.highlimitTripped = true

/-- Heat is forbidden by a reading, and the flame is out. -/
def Dark (s : State) (d : Drum) : Prop :=
  Barred (s.drum d).port.readings ∧ (s.drum d).port.image.flameStage = 0

theorem cap_of_barred {D : DrumState} (h : Barred D.port.readings) : D.permissiveCap = 0 := by
  unfold DrumState.permissiveCap
  cases D.cycle.record with
  | none => rfl
  | some r => rcases h with h | h | h <;> simp [h]

theorem barred_set (hx : x ≠ .lint) (r : Readings) : Barred (r.set x true) := by
  cases x with
  | door => exact .inl rfl
  | lint => exact absurd rfl hx
  | airflow => exact .inr (.inl rfl)
  | highlimit => exact .inr (.inr rfl)

theorem dark_of_same (hr : (t.drum d).port.readings = (s.drum d).port.readings)
    (hf : (t.drum d).port.image.flameStage = (s.drum d).port.image.flameStage) (h : Dark s d) : Dark t d :=
  ⟨by rw [hr]; exact h.1, hf.trans h.2⟩

theorem dark_raise (h : Dark s d) (src : Block) (k : EventKind) (y : Option Byte) : Dark (raise src k d y s) d := h

theorem dark_handIncrement (h : Dark s d) (src : Block) (a : Fin 8) : Dark (handIncrement src d a s) d := h

/-- A recomputation under a reading that forbids heat puts the flame out (R141, R144). -/
theorem dark_burnerUpdate (h : Barred (s.drum d).port.readings) : Dark (burnerUpdate d s) d :=
  ⟨by rw [(keeps_burnerUpdate d s).2.1]; exact h, (burnerUpdate_of_cap (cap_of_barred h)).2⟩

theorem dark_setReading (hx : x ≠ .lint) (s : State) : Dark (setReading d x true s) d := by
  unfold setReading
  exact dark_burnerUpdate (by rw [drum_onPort_self]; exact barred_set hx _)

theorem dark_readingTaken (hx : x ≠ .lint) (d : Drum) (accepted : Bool) (s : State) :
    Dark (readingTaken d x true accepted s) d := by
  have hreload (v : State) : Dark (reloadStandby d (setReading d x true v)) d :=
    dark_of_same (by simp) (by simp) (dark_setReading hx v)
  unfold readingTaken
  dsimp only
  split
  · exact dark_handIncrement (hreload _) _ _
  · exact hreload _

theorem dark_leaveRun (h : Dark s d) (f : Tumble → Tumble) : Dark (leaveRun d f s) d := by
  unfold leaveRun
  exact dark_burnerUpdate (by simpa using h.1)

theorem dark_enterStopped (h : Dark s d) : Dark (enterStopped d s) d := by
  have hleft := dark_leaveRun h fun t => { t.timersOff with state := .stopped, target := none, guardLength := none }
  have hguard (v : State) (hv : Dark v d) : Dark (guardTumbleDone d v) d := by
    unfold guardTumbleDone
    split
    · exact dark_of_same (by simp) (by simp) hv
    · exact hv
  unfold enterStopped
  dsimp only
  split
  · exact hguard _ hleft
  · exact hleft

theorem dark_tumbleHold (h : Dark s d) : Dark (tumbleHold d s) d := by
  have htarget : Dark (setTarget d .stopped s) d := dark_of_same (by simp) (by simp) h
  unfold tumbleHold
  dsimp only
  split
  case h_1 | h_2 => exact dark_leaveRun (dark_of_same (by simp) (by simp) h) _
  case h_3 => exact htarget
  case h_4 => split; exacts [dark_enterStopped h, htarget]
  case h_5 => exact dark_enterStopped h
  case h_6 => exact h

theorem dark_tumbleStop (h : Dark s d) : Dark (tumbleStop d s) d := by
  have hport := (keeps_clearPersistence d (tumbleHold d s)).1
  exact dark_of_same (congrArg Port.readings hport) (congrArg (fun p : Port => p.image.flameStage) hport) (dark_tumbleHold h)

theorem dark_setCycle (h : Dark s d) (new : CycleState) (f : Cycle → Cycle) : Dark (setCycle d new f s) d := by
  have hsettle (v : State) (hv : Barred (v.drum d).port.readings) : Dark (settleStandby d (burnerUpdate d v)) d :=
    dark_of_same (by simp) (by simp) (dark_burnerUpdate hv)
  unfold setCycle
  exact hsettle _ (by simpa using h.1)

theorem dark_pauseCycle (h : Dark s d) (c : PauseCause) : Dark (pauseCycle d c s) d := by
  have hheld (f : Cycle → Cycle) : Dark (tumbleHold d (setCycle d .paused f s)) d := dark_tumbleHold (dark_setCycle h .paused f)
  have hfan (v : State) (hv : Dark v d) : Dark (writeFan d false v) d := dark_of_same (by simp) (by simp) hv
  unfold pauseCycle
  dsimp only
  refine dark_raise ?_ _ _ _
  split
  · exact hfan _ (hheld _)
  · exact hheld _

theorem dark_enterDone (h : Dark s d) : Dark (enterDone d s) d := by
  have hdone := dark_raise (dark_tumbleStop (dark_setCycle h .done Cycle.cleared)) (.cycle d) .cycleDone
    (some (byte (s.drum d).cycle.reason.code))
  unfold enterDone
  dsimp only
  split
  · exact dark_handIncrement hdone _ _
  · exact hdone

theorem dark_onCycle (h : Dark s d) (f : Cycle → Cycle) : Dark (s.onCycle d f) d := dark_of_same (by simp) (by simp) h

theorem dark_pauseOrJoin (h : Dark s d) (c : PauseCause) : Dark (pauseOrJoin d c s) d := by
  unfold pauseOrJoin
  split
  case h_1 | h_2 | h_3 => exact dark_pauseCycle h c
  case h_4 => exact dark_onCycle h _
  all_goals exact h

theorem dark_heatEnd (h : Dark s d) (r : Reason) : Dark (heatEnd d r s) d := by
  unfold heatEnd
  dsimp only
  split
  case h_1 => exact dark_setCycle h _ _
  case h_2 | h_3 => split; exacts [dark_onCycle h _, h]
  all_goals exact h

/-- What the cycle controller does of a change leaves the flame out under a reading that forbids heat (R12, R141). -/
theorem dark_cycleOnChange (h : Dark s d) (x : Discrete) : Dark (cycleOnChange d x true s) d := by
  cases x with
  | door =>
    show Dark (cycleDoorOpened d s) d
    unfold cycleDoorOpened
    split
    case h_1 | h_2 | h_3 | h_4 => exact dark_pauseOrJoin h .door
    case h_5 => exact dark_setCycle (dark_enterDone h) _ _
    case h_6 => exact dark_setCycle h _ _
    all_goals exact h
  | lint => exact h
  | airflow =>
    show Dark (cycleAirflowLost d s) d
    unfold cycleAirflowLost
    dsimp only
    split
    case h_1 | h_2 => exact dark_pauseCycle h .airflow
    case h_3 => exact dark_onCycle h _
    all_goals exact h
  | highlimit => exact dark_heatEnd h .overtemp

/-! ### The standby timer after a change -/

/-- The standby timer is loaded in full, or it is stopped and its conditions do not hold (R19). -/
def StandbyFull (D : DrumState) : Prop :=
  D.port.standby = some D.fullStandby ∨ (D.port.standby = none ∧ D.standbyRuns = false)

theorem standbyFull_of_links (hl : t.links d = s.links d) (h : StandbyFull (s.drum d)) : StandbyFull (t.drum d) := by
  unfold StandbyFull DrumState.fullStandby DrumState.standbyRuns at h ⊢
  rw [standby_of_links hl, config_of_links hl, portState_of_links hl, cycleState_of_links hl]
  exact h

theorem standbyFull_settleStandby
    (h : (s.drum d).port.standby = none ∨ (s.drum d).port.standby = some (s.drum d).fullStandby) :
    StandbyFull ((settleStandby d s).drum d) := by
  have hfull : standbyTime (s.drum d).config.standbyCode = (s.drum d).fullStandby := rfl
  unfold settleStandby
  rw [drum_onDrum_self]
  cases hruns : (s.drum d).standbyRuns
  case false => exact .inr ⟨rfl, hruns⟩
  case true => rcases h with h | h <;> rw [h] <;> exact .inl rfl

theorem stopped_or_full {D : DrumState} (h : StandbyFull D) :
    D.port.standby = none ∨ D.port.standby = some D.fullStandby :=
  h.symm.imp_left And.left

theorem standbyFull_setCycle (h : StandbyFull (s.drum d)) (new : CycleState) (f : Cycle → Cycle) :
    StandbyFull ((setCycle d new f s).drum d) := by
  have hw := links_writeFan d new.fanOnEntry (s.onCycle d fun c => { f c with state := new })
  have hc := config_of_links hw
  have hb := standby_of_links hw
  simp only [drum_onCycle_self] at hc hb
  unfold setCycle
  refine standbyFull_settleStandby ?_
  rw [standby_of_links (links_burnerUpdate d d _), DrumState.fullStandby, config_of_links (links_burnerUpdate d d _),
    drum_onDrum_self]
  simp only [hc, hb]
  exact stopped_or_full h

theorem standbyFull_pauseCycle (h : StandbyFull (s.drum d)) (c : PauseCause) :
    StandbyFull ((pauseCycle d c s).drum d) := by
  unfold pauseCycle
  dsimp only
  refine standbyFull_of_links (links_raise _ _ d d _ _) ?_
  split
  · exact standbyFull_of_links (links_writeFan d _ _)
      (standbyFull_of_links (links_tumbleHold d _) (standbyFull_setCycle h _ _))
  · exact standbyFull_of_links (links_tumbleHold d _) (standbyFull_setCycle h _ _)

theorem standbyFull_enterDone (h : StandbyFull (s.drum d)) : StandbyFull ((enterDone d s).drum d) := by
  have hdone : StandbyFull ((tumbleStop d (setCycle d .done Cycle.cleared s)).drum d) :=
    standbyFull_of_links (links_tumbleStop d _) (standbyFull_setCycle h _ _)
  unfold enterDone
  dsimp only
  split <;> exact standbyFull_of_links (by simp) hdone

theorem standbyFull_pauseOrJoin (h : StandbyFull (s.drum d)) (c : PauseCause) :
    StandbyFull ((pauseOrJoin d c s).drum d) := by
  unfold pauseOrJoin
  split
  case h_1 | h_2 | h_3 => exact standbyFull_pauseCycle h c
  case h_4 => exact standbyFull_of_links (links_joinCause d c s) h
  all_goals exact h

theorem standbyFull_onCycle {f : Cycle → Cycle} (h : StandbyFull (s.drum d))
    (hf : (f (s.drum d).cycle).state = (s.drum d).cycle.state) : StandbyFull ((s.onCycle d f).drum d) :=
  standbyFull_of_links (links_onCycle hf) h

theorem standbyFull_cycleOnChange (h : StandbyFull (s.drum d)) (x : Discrete) (safe : Bool) :
    StandbyFull ((cycleOnChange d x safe s).drum d) := by
  unfold cycleOnChange
  split
  case h_1 =>
    unfold cycleDoorOpened
    split
    case h_1 | h_2 | h_3 | h_4 => exact standbyFull_pauseOrJoin h .door
    case h_5 => exact standbyFull_setCycle (standbyFull_enterDone h) _ _
    case h_6 => exact standbyFull_setCycle h _ _
    all_goals exact h
  case h_2 =>
    unfold cycleAirflowLost
    dsimp only
    split
    case h_1 | h_2 => exact standbyFull_pauseCycle h .airflow
    case h_3 => exact standbyFull_onCycle h rfl
    all_goals exact h
  case h_3 => exact standbyFull_of_links (links_cycleAirflowProven d s) h
  case h_4 =>
    unfold heatEnd
    dsimp only
    split
    case h_1 => exact standbyFull_setCycle h _ _
    case h_2 | h_3 => split; exacts [standbyFull_onCycle h rfl, h]
    all_goals exact h
  all_goals exact h

theorem standbyFull_setPortState (h : StandbyFull (s.drum d)) (st : PortState) :
    StandbyFull ((setPortState d st s).drum d) := by
  have hready := stopped_or_full h
  refine standbyFull_settleStandby ?_
  rw [drum_onPort_self]
  exact hready

/-- A change of a discrete reloads a running standby timer (R12, R19). -/
theorem standbyFull_readingTaken (h : (s.drum d).port.standby ≠ none) (x : Discrete) (safe accepted : Bool) :
    StandbyFull ((readingTaken d x safe accepted s).drum d) := by
  have hreload (v : State) (hv : v.links d = s.links d) :
      StandbyFull ((reloadStandby d (setReading d x safe v)).drum d) := by
    have hl : (setReading d x safe v).links d = (v.onPort d fun p => { p with readings := p.readings.set x safe }).links d :=
      links_burnerUpdate d d _
    have hb := standby_of_links hl
    rw [drum_onPort_self] at hb
    have hsome : ((setReading d x safe v).drum d).port.standby ≠ none := by
      rw [hb]; exact (standby_of_links hv).symm ▸ h
    obtain ⟨n, hn⟩ := Option.ne_none_iff_exists'.mp hsome
    unfold reloadStandby
    rw [drum_onDrum_self, hn]
    exact .inl rfl
  have hmatch : StandbyFull ((reloadStandby d (setReading d x safe
      (match changeEvent x safe with | some k => raise (.port d) k d none s | none => s))).drum d) := by
    cases changeEvent x safe with
    | none => exact hreload s rfl
    | some k => exact hreload _ (links_raise (.port d) k d d none s)
  unfold readingTaken
  dsimp only
  split
  · exact standbyFull_of_links (links_handIncrement _ _ _ _ _) hmatch
  · exact hmatch

end

end Sys2Proof.Machine
end

section
/-! A debounce timer from report to expiry; settles O41. -/

namespace Sys2Proof.Machine

section
variable {s t : State} {d : Drum} {x : Discrete}

/-! ### What the cycle controller does of a change -/

theorem cycle_startCooling (d : Drum) (r : Reason) (s : State) :
    ((startCooling d r s).drum d).cycle.state = .cooling ∧ ((startCooling d r s).drum d).cycle.reason = r := by
  unfold startCooling
  rw [(setCycle_cycle d _ _ s).1]
  exact ⟨rfl, rfl⟩

theorem cycleDoorOpened_running (hs : (s.drum d).cycle.state ∈ [CycleState.purge, .drying, .cooling]) :
    cycleDoorOpened d s = pauseCycle d .door s := by
  simp only [List.mem_cons, List.not_mem_nil, or_false] at hs
  unfold cycleDoorOpened pauseOrJoin
  rcases hs with hs | hs | hs <;> rw [hs]

/-- The door ends a guard or a DONE cycle as VACANT (R75, R79). -/
theorem cycle_cycleDoorOpened_ended (hs : (s.drum d).cycle.state ∈ [CycleState.guarding, .done]) :
    ((cycleDoorOpened d s).drum d).cycle.state = .vacant ∧ ((cycleDoorOpened d s).drum d).cycle.record = none := by
  simp only [List.mem_cons, List.not_mem_nil, or_false] at hs
  unfold cycleDoorOpened
  rcases hs with hs | hs <;> rw [hs] <;> dsimp only <;> rw [cycle_enterVacant] <;> exact ⟨rfl, rfl⟩

theorem cycleAirflowLost_heating (hs : (s.drum d).cycle.state ∈ [CycleState.drying, .cooling]) :
    cycleAirflowLost d s = pauseCycle d .airflow s := by
  simp only [List.mem_cons, List.not_mem_nil, or_false] at hs
  unfold cycleAirflowLost
  dsimp only
  rcases hs with hs | hs <;> rw [hs]

theorem cycleAirflowLost_purge (hs : (s.drum d).cycle.state = .purge) :
    cycleAirflowLost d s =
      s.onCycle d fun c => { c with air := none, prove := seconds (s.drum d).config.proveTimeout } := by
  unfold cycleAirflowLost
  dsimp only
  rw [hs]

theorem cycleAirflowProven_purge (hs : (s.drum d).cycle.state = .purge) :
    cycleAirflowProven d s =
      s.onCycle d fun c => { c with prove := none, air := seconds (s.drum d).config.minAir } := by
  unfold cycleAirflowProven
  dsimp only
  rw [hs]

theorem heatEnd_drying (hs : (s.drum d).cycle.state = .drying) (r : Reason) : heatEnd d r s = startCooling d r s := by
  unfold heatEnd
  dsimp only
  rw [hs]

/-! ### The accepted change -/

/-- The drum with one debounce timer stopped. -/
def debounced (d : Drum) (x : Discrete) (s : State) : State :=
  s.onPort d fun p => { p with debounce := p.debounce.set x none }

/-- An accepted change up to the cycle controller's act. -/
def changeAccepted (d : Drum) (x : Discrete) (s : State) : State :=
  readingTaken d x (!(s.drum d).port.readings.get x) true (debounced d x s)

/-- An accepted change and the cycle controller's act, before the wake of a port in SERVICE (R20). -/
def actedOn (d : Drum) (x : Discrete) (s : State) : State :=
  cycleOnChange d x (!(s.drum d).port.readings.get x) (changeAccepted d x s)

theorem debounceExpires_eq (d : Drum) (x : Discrete) (s : State) :
    debounceExpires d x s =
      if x == .door && ((actedOn d x s).drum d).port.state == .service then setPortState d .seek (actedOn d x s)
      else actedOn d x s := by
  unfold debounceExpires
  dsimp only
  rw [changeReading_eq, Bool.true_and]
  rfl

theorem besides_changeAccepted (d : Drum) (x : Discrete) (s : State) : (changeAccepted d x s).besides d = s.besides d := by
  unfold changeAccepted readingTaken debounced
  dsimp only
  cases changeEvent x (!(s.drum d).port.readings.get x) <;> dsimp only <;> split <;> simp

theorem keeps_changeAccepted (d : Drum) (x : Discrete) (s : State) :
    ((changeAccepted d x s).drum d).cycle = (s.drum d).cycle ∧ ((changeAccepted d x s).drum d).tumble = (s.drum d).tumble ∧
      ((changeAccepted d x s).drum d).config = (s.drum d).config := by
  obtain ⟨hcycle, htumble⟩ := keeps_readingTaken d x (!(s.drum d).port.readings.get x) true (debounced d x s)
  refine ⟨hcycle.trans ?_, htumble.trans ?_, config_of_besides (besides_changeAccepted d x s) d⟩ <;> simp [debounced]

theorem lanes_debounced (d : Drum) (x : Discrete) (s : State) :
    (debounced d x s).lanes d = { s.lanes d with debounce := (s.drum d).port.debounce.set x none } := by
  simp [State.lanes, debounced]

theorem lanes_actedOn (d : Drum) (x : Discrete) (s : State) :
    (actedOn d x s).lanes d =
      { s.lanes d with
        debounce := (s.drum d).port.debounce.set x none
        readings := (s.drum d).port.readings.set x (!(s.drum d).port.readings.get x) } := by
  have hreadings : ((debounced d x s).drum d).port.readings = (s.drum d).port.readings := by simp [debounced]
  unfold actedOn changeAccepted
  rw [lanes_cycleOnChange, lanes_readingTaken, lanes_debounced, hreadings]

theorem state_actedOn (d : Drum) (x : Discrete) (s : State) :
    ((actedOn d x s).drum d).port.state = (s.drum d).port.state := by
  have h := lanes_actedOn d x s
  exact (congrArg Port.state h :)

/-- What the wake of the port leaves of the accepted change: all but the port's state and its standby timer (R20). -/
theorem keeps_debounceExpires_actedOn (d : Drum) (x : Discrete) (s : State) :
    ((debounceExpires d x s).drum d).port.readings = ((actedOn d x s).drum d).port.readings ∧
      ((debounceExpires d x s).drum d).port.debounce = ((actedOn d x s).drum d).port.debounce ∧
      ((debounceExpires d x s).drum d).port.image = ((actedOn d x s).drum d).port.image ∧
      ((debounceExpires d x s).drum d).cycle = ((actedOn d x s).drum d).cycle ∧
      ((debounceExpires d x s).drum d).tumble = ((actedOn d x s).drum d).tumble ∧
      (debounceExpires d x s).handed = (actedOn d x s).handed := by
  rw [debounceExpires_eq]
  split
  · have h := lanes_setPortState d .seek (actedOn d x s)
    exact ⟨(congrArg Port.readings h :), (congrArg Port.debounce h :), by simp, by simp, by simp,
      handed_of_flight (by simp)⟩
  · exact ⟨rfl, rfl, rfl, rfl, rfl, rfl⟩

/-- The port in the ways the accepted change writes it (R11, R20). -/
theorem port_debounceExpires (d : Drum) (x : Discrete) (s : State) :
    ((debounceExpires d x s).drum d).port.readings =
        (s.drum d).port.readings.set x (!(s.drum d).port.readings.get x) ∧
      ((debounceExpires d x s).drum d).port.debounce = (s.drum d).port.debounce.set x none ∧
      (x = .door → (s.drum d).port.state = .service → ((debounceExpires d x s).drum d).port.state = .seek) ∧
      (x ≠ .door ∨ (s.drum d).port.state ≠ .service →
        ((debounceExpires d x s).drum d).port.state = (s.drum d).port.state) := by
  have h := lanes_actedOn d x s
  obtain ⟨hreadings, hdebounce, -⟩ := keeps_debounceExpires_actedOn d x s
  have hstate := state_actedOn d x s
  refine ⟨hreadings.trans (congrArg Port.readings h :), hdebounce.trans (congrArg Port.debounce h :), fun hx hs => ?_,
    fun hno => ?_⟩
  · have hseek := lanes_setPortState d .seek (actedOn d x s)
    rw [debounceExpires_eq, if_pos (by rw [hstate, hs, hx]; rfl)]
    exact (congrArg Port.state hseek :)
  · rw [debounceExpires_eq, if_neg, hstate]
    rw [hstate, Bool.and_eq_true, beq_iff_eq, beq_iff_eq]
    tauto

/-- The event of an accepted change comes first (R11, R12). -/
theorem events_debounceExpires {k : EventKind} (hk : changeEvent x (!(s.drum d).port.readings.get x) = some k) :
    ∃ more, (debounceExpires d x s).flight.events =
      s.flight.events ++ ⟨.port d, k, d, s.clock, none⟩ :: more := by
  obtain ⟨more, h⟩ := eventsGrow_changeReading hk d true (debounced d x s)
  exact ⟨more, h.symm.trans (List.append_assoc _ _ _)⟩

/-- A running standby timer is reloaded by the change (R12, R19). -/
theorem standby_debounceExpires (h : (s.drum d).port.standby ≠ none)
    (hr : ((debounceExpires d x s).drum d).standbyRuns = true) :
    ((debounceExpires d x s).drum d).port.standby = some (s.drum d).fullStandby := by
  have hbase : ((debounced d x s).drum d).port.standby ≠ none := by simpa [debounced] using h
  have hacted : StandbyFull ((actedOn d x s).drum d) :=
    standbyFull_cycleOnChange (standbyFull_readingTaken hbase x _ true) x _
  have hfull : StandbyFull ((debounceExpires d x s).drum d) := by
    rw [debounceExpires_eq]
    split
    · exact standbyFull_setPortState hacted .seek
    · exact hacted
  have hsame : ((debounceExpires d x s).drum d).fullStandby = (s.drum d).fullStandby := by
    unfold DrumState.fullStandby; rw [config_of_besides (besides_debounceExpires d x s) d]
  rw [← hsame]
  rcases hfull with hstands | ⟨-, hstops⟩
  · exact hstands
  · rw [hr] at hstops; cases hstops

/-- A reading that falls to safe puts the flame out, but for LINT (R12, R141). -/
theorem flame_debounceExpires (hx : x ≠ .lint) (hs : (s.drum d).port.readings.get x = false) :
    ((debounceExpires d x s).drum d).port.image.flameStage = 0 := by
  obtain ⟨-, -, himage, -⟩ := keeps_debounceExpires_actedOn d x s
  have hdark : Dark (actedOn d x s) d := by
    unfold actedOn changeAccepted
    rw [hs]
    exact dark_cycleOnChange (dark_readingTaken hx d true (debounced d x s)) x
  rw [himage]
  exact hdark.2

/-! ### The cycle after an accepted change -/

theorem handed_changeAccepted (d : Drum) (x : Discrete) (s : State) :
    (changeAccepted d x s).handed =
      (s.handed.1 ++
          ((changeEvent x (!(s.drum d).port.readings.get x)).map fun k => ⟨.port d, k, d, s.clock, none⟩).toList,
        s.handed.2 ++
          (if x == .highlimit && !(s.drum d).port.readings.get x then [⟨.burner d, d, 2⟩] else [])) := by
  have h := handed_readingTaken d x (!(s.drum d).port.readings.get x) true (debounced d x s)
  rw [Bool.true_and] at h
  exact h

section
variable (hs : (s.drum d).port.readings.get x = false)
include hs

theorem actedOn_safe : actedOn d x s = cycleOnChange d x true (changeAccepted d x s) := by
  unfold actedOn; rw [hs]; rfl

/-- An accepted trip is counted, and ends the heat of a DRYING cycle (R75, R79). -/
theorem highlimit_debounceExpires (hx : x = .highlimit) :
    (debounceExpires d x s).flight.increments = s.flight.increments ++ [⟨.burner d, d, 2⟩] ∧
      ((s.drum d).cycle.state = .drying →
        ((debounceExpires d x s).drum d).cycle.state = .cooling ∧
          ((debounceExpires d x s).drum d).cycle.reason = .overtemp) := by
  obtain ⟨-, -, -, hcycle, -, hhanded⟩ := keeps_debounceExpires_actedOn d x s
  have hacted : actedOn d x s = heatEnd d .overtemp (changeAccepted d x s) := by rw [actedOn_safe hs, hx]; rfl
  have hcounted := handed_changeAccepted d x s
  rw [hs, hx] at hcounted
  refine ⟨?_, fun hdrying => ?_⟩
  · rw [increments_of_handed hhanded, hacted, increments_of_handed (handed_heatEnd d .overtemp _), hx]
    exact congrArg Prod.snd hcounted
  · rw [hcycle, hacted, heatEnd_drying (by rw [(keeps_changeAccepted d x s).1]; exact hdrying)]
    exact cycle_startCooling d .overtemp _

/-- An opened door pauses a running cycle, and ends a guard or a DONE cycle (R79). -/
theorem door_debounceExpires (hx : x = .door) :
    ((s.drum d).cycle.state ∈ [CycleState.purge, .drying, .cooling] →
      ((debounceExpires d x s).drum d).cycle.state = .paused ∧
        ((debounceExpires d x s).drum d).cycle.causes = [.door]) ∧
    ((s.drum d).cycle.state ∈ [CycleState.guarding, .done] →
      ((debounceExpires d x s).drum d).cycle.state = .vacant ∧
        ((debounceExpires d x s).drum d).cycle.record = none) := by
  obtain ⟨-, -, -, hcycle, -, -⟩ := keeps_debounceExpires_actedOn d x s
  have hacted : actedOn d x s = cycleDoorOpened d (changeAccepted d x s) := by rw [actedOn_safe hs, hx]; rfl
  have hsame := (keeps_changeAccepted d x s).1
  rw [hcycle, hacted]
  refine ⟨fun hrun => ?_, fun hend => cycle_cycleDoorOpened_ended (by rw [hsame]; exact hend)⟩
  rw [cycleDoorOpened_running (by rw [hsame]; exact hrun)]
  exact cycle_pauseCycle d .door _

/-- Airflow lost pauses a cycle that heats or cools, and starts the proof of a PURGE again without a pause (R73, R79). -/
theorem airflowLost_debounceExpires (hx : x = .airflow) :
    ((s.drum d).cycle.state ∈ [CycleState.drying, .cooling] →
      ((debounceExpires d x s).drum d).cycle.state = .paused ∧
        ((debounceExpires d x s).drum d).cycle.causes = [.airflow]) ∧
    ((s.drum d).cycle.state = .purge →
      ((debounceExpires d x s).drum d).cycle =
          { (s.drum d).cycle with air := none, prove := seconds (s.drum d).config.proveTimeout } ∧
        (debounceExpires d x s).flight.events = s.flight.events ++ [⟨.port d, .airflowLost, d, s.clock, none⟩] ∧
        ((debounceExpires d x s).drum d).tumble = (s.drum d).tumble) := by
  obtain ⟨-, -, -, hcycle, htumble, hhanded⟩ := keeps_debounceExpires_actedOn d x s
  have hacted : actedOn d x s = cycleAirflowLost d (changeAccepted d x s) := by rw [actedOn_safe hs, hx]; rfl
  obtain ⟨hsame, hmotor, hconfig⟩ := keeps_changeAccepted d x s
  rw [hcycle, htumble, events_of_handed hhanded, hacted]
  refine ⟨fun hrun => ?_, fun hpurge => ?_⟩
  · rw [cycleAirflowLost_heating (by rw [hsame]; exact hrun)]
    exact cycle_pauseCycle d .airflow _
  · have hevents := congrArg Prod.fst (handed_changeAccepted d x s)
    rw [hs, hx] at hevents
    rw [cycleAirflowLost_purge (by rw [hsame]; exact hpurge), drum_onCycle_self, hsame, hconfig, hx]
    rw [hx] at hmotor
    exact ⟨rfl, hevents, hmotor⟩

end

/-- Airflow proven in PURGE starts the air time (R73). -/
theorem airflowProven_debounceExpires (hx : x = .airflow) (hs : (s.drum d).port.readings.get x = true)
    (hpurge : (s.drum d).cycle.state = .purge) :
    ((debounceExpires d x s).drum d).cycle.air = seconds (s.drum d).config.minAir ∧
      ((debounceExpires d x s).drum d).cycle.prove = none := by
  obtain ⟨-, -, -, hcycle, -, -⟩ := keeps_debounceExpires_actedOn d x s
  have hacted : actedOn d x s = cycleAirflowProven d (changeAccepted d x s) := by
    unfold actedOn; rw [hs, hx]; rfl
  obtain ⟨hsame, -, hconfig⟩ := keeps_changeAccepted d x s
  rw [hcycle, hacted, cycleAirflowProven_purge (by rw [hsame]; exact hpurge), drum_onCycle_self, hconfig]
  exact ⟨rfl, rfl⟩

/-! ### The raw report -/

/-- Each debounce timer follows its own raw value (R11). -/
theorem get_takeDiscretes (d : Drum) (raw : Readings) (s : State) (x : Discrete) :
    ((takeDiscretes d raw s).drum d).port.debounce.get x =
      debounceReport ((s.drum d).port.debounce.get x) (raw.get x != (s.drum d).port.readings.get x)
        (s.drum d).config.debounceSteps := by
  unfold takeDiscretes
  rw [drum_onPort_self]
  cases x <;> rfl

theorem debounceReport_cases (t : Timer) (a b : Bool) (n : Nat) :
    (a = b → debounceReport t (a != b) n = none) ∧
      (a ≠ b →
        (t = none → debounceReport t (a != b) n = some (n * 10)) ∧ (t ≠ none → debounceReport t (a != b) n = t)) := by
  unfold debounceReport
  refine ⟨fun h => by simp [h], fun h => ?_⟩
  rw [if_pos (by simpa using h)]
  cases t <;> simp

/-- A raw report changes the debounce timers of its drum and nothing else (R11). -/
theorem takeDiscretes_port (d : Drum) (raw : Readings) (s : State) :
    { (takeDiscretes d raw s).drum d with
        port := { ((takeDiscretes d raw s).drum d).port with debounce := (s.drum d).port.debounce } } = s.drum d := by
  unfold takeDiscretes
  dsimp only
  rw [drum_onPort_self]

/-! ### The commands -/

theorem exec_discreteReport {raw : Readings} (hrun : s.resetHeld = false) :
    ((s.drum d).port.serviceLock = false → exec (.discreteReport d raw) s = .next s) ∧
    ((s.drum d).port.serviceLock = true → exec (.discreteReport d raw) s = .next (takeDiscretes d raw s)) := by
  have h : exec (.discreteReport d raw) s = execDiscreteReport d raw s := rfl
  rw [h, execDiscreteReport, running_released _ hrun]
  exact ⟨fun hno => by rw [onlyIf_neg (by simp [hno])], fun hlock => by rw [onlyIf_pos hlock]⟩

theorem exec_debounceExpiry (hrun : s.resetHeld = false) :
    ((s.drum d).port.debounce.get x ≠ some 0 → exec (.debounceExpiry d x) s = .next s) ∧
    ((s.drum d).port.debounce.get x = some 0 → exec (.debounceExpiry d x) s = .next (debounceExpires d x s)) := by
  have h : exec (.debounceExpiry d x) s = execDebounceExpiry d x s := rfl
  rw [h, execDebounceExpiry, running_released _ hrun]
  exact ⟨fun hno => by rw [onlyIf_neg (by rw [due_iff]; exact hno)],
    fun hdue => by rw [onlyIf_pos (due_iff.mpr hdue)]⟩

end

/-- Settles O41: the report timer by timer, the expiry as an accepted change and the cycle controller's act on it. -/
theorem discretesAreDebouncedAndActedOn : Obligations.DiscretesAreDebouncedAndActedOn := by
  intro s d hrun
  refine ⟨fun raw => ?_, fun x => ?_⟩
  · obtain ⟨hidle, hreport⟩ := exec_discreteReport (d := d) (raw := raw) hrun
    refine ⟨hidle, fun hlock => ⟨_, hreport hlock, besides_takeDiscretes d raw s, rfl, by simp, takeDiscretes_port d raw s,
      fun x => ?_⟩⟩
    rw [get_takeDiscretes]
    exact debounceReport_cases _ _ _ _
  · obtain ⟨hidle, hdue⟩ := exec_debounceExpiry (d := d) (x := x) hrun
    refine ⟨hidle, fun hexpired => ⟨_, hdue hexpired, besides_debounceExpires d x s, ?_⟩⟩
    obtain ⟨hreadings, hdebounce, hwake, hstate⟩ := port_debounceExpires d x s
    refine ⟨hreadings, hdebounce, (keeps_debounceExpires d x s).1, ?_, flame_debounceExpires,
      fun hx hs => highlimit_debounceExpires hs hx, fun hx hs => (door_debounceExpires hs hx).1,
      fun hx hs => (door_debounceExpires hs hx).2, fun hx hs => (airflowLost_debounceExpires hs hx).1,
      fun hx hs hpurge _ => (airflowLost_debounceExpires hs hx).2 hpurge, standby_debounceExpires,
      airflowProven_debounceExpires, hwake, hstate⟩
    simp only [List.forall_mem_cons, List.not_mem_nil, false_implies, implies_true, and_true]
    refine ⟨?_, ?_, ?_, ?_, ?_⟩ <;>
    · intro hx hs
      subst hx
      exact events_debounceExpires (by rw [hs]; rfl)

end Sys2Proof.Machine
end

section
/-! The settings of the part: which operations leave them alone (R30, R31, R57, R67, R91, R171, R182). -/

namespace Sys2Proof.Machine

/-! ### Settings -/

/-- A classification entry without its hit count: the fields that CLASS_ADD gives it. -/
def ClassEntry.binding (e : ClassEntry) : ClassEntry := { e with hits := 0 }

/-- What a command leaves alone unless it is the request that sets it: the clock and the level of RESETn, the settings of the
part, and the classification entries without their hit counts. -/
structure Settings where
  clock : Clock
  resetHeld : Bool
  routes : Vector Route 32
  profiles : Vector Profile 8
  bucketSpread : BitVec 32
  signatureSpread : BitVec 32
  miss : Vector MissAction 4
  configs : Drum → DrumConfig
  valid : Bool
  revision : Nat
  table : Vector Threshold 8
  budget : Nat
  bypassLimit : Nat
  waitLimit : Nat
  bindings : List ClassEntry

def State.settings (s : State) : Settings where
  clock := s.clock
  resetHeld := s.resetHeld
  routes := s.router.routes
  profiles := s.profiles
  bucketSpread := s.classifier.bucketSpread
  signatureSpread := s.classifier.signatureSpread
  miss := s.classifier.miss
  configs := fun d => (s.drum d).config
  valid := s.attributes.valid
  revision := s.attributes.revision
  table := s.attributes.table
  budget := s.heat.budget
  bypassLimit := s.heat.bypassLimit
  waitLimit := s.heat.waitLimit
  bindings := s.classifier.entries.map ClassEntry.binding

theorem settings_of_besides {s t : State} {d : Drum} (h : t.besides d = s.besides d) : t.settings = s.settings := by
  have hconfigs : (fun e => (t.drum e).config) = fun e => (s.drum e).config := funext (config_of_besides h)
  have hheld : t.resetHeld = s.resetHeld := congrArg Besides.resetHeld h
  unfold State.settings
  rw [clock_of_besides h, hheld, router_of_besides h, profiles_of_besides h, classifier_of_besides h, hconfigs,
    attributes_of_besides h, heat_of_besides h]

@[simp] theorem settings_onCabinet (f : Cabinet → Cabinet) (s : State) : (s.onCabinet f).settings = s.settings := rfl

@[simp] theorem settings_onFlight (f : Flight → Flight) (s : State) : (s.onFlight f).settings = s.settings := rfl

@[simp] theorem settings_raise (src : Block) (k : EventKind) (d : Drum) (x : Option Byte) (s : State) :
    (raise src k d x s).settings = s.settings := rfl

@[simp] theorem settings_handIncrement (src : Block) (d : Drum) (a : Fin 8) (s : State) :
    (handIncrement src d a s).settings = s.settings := rfl

@[simp] theorem settings_onAttr (d : Drum) (a : Fin 8) (f : AttrRecord → AttrRecord) (s : State) :
    (s.onAttr d a f).settings = s.settings := rfl

@[simp] theorem settings_onShare (d : Drum) (f : HeatShare → HeatShare) (s : State) :
    (s.onShare d f).settings = s.settings := rfl

theorem settings_onlyIf {c : Bool} {f : State → State} {s : State} (h : (f s).settings = s.settings) :
    (onlyIf c f s).settings = s.settings := by
  unfold onlyIf
  split
  · exact h
  · rfl

/-! ### The allocator -/

@[simp] theorem settings_burnerUpdate (d : Drum) (s : State) : (burnerUpdate d s).settings = s.settings :=
  settings_of_besides (besides_burnerUpdate d s)

@[simp] theorem settings_setGranted (d : Drum) (g : Nat) (s : State) : (setGranted d g s).settings = s.settings :=
  settings_burnerUpdate d _

@[simp] theorem settings_dropCopy (d : Drum) (s : State) : (dropCopy d s).settings = s.settings := by
  unfold dropCopy; split <;> rfl

@[simp] theorem settings_lowerGrant (d : Drum) (g : Nat) (s : State) : (lowerGrant d g s).settings = s.settings := by
  unfold lowerGrant
  rw [settings_setGranted]
  split <;> rfl

@[simp] theorem settings_grantEntry (e : HeatEntry) (s : State) : (grantEntry e s).settings = s.settings :=
  settings_setGranted e.drum e.wanted _

theorem settings_grantRound {s t : State} (h : grantRound s = some t) : t.settings = s.settings := by
  unfold grantRound at h
  split at h
  · cases h
  · split at h
    · cases h; exact settings_grantEntry _ s
    · split at h
      · split at h
        · cases h
        · cases h; exact settings_grantEntry _ _
      · cases h

@[simp] theorem settings_grantRounds (n : Nat) (s : State) : (grantRounds n s).settings = s.settings := by
  induction n generalizing s with
  | zero => rfl
  | succ n ih =>
    unfold grantRounds
    split
    next => rfl
    next h => rw [ih, settings_grantRound h]

@[simp] theorem settings_grantAttempt (s : State) : (grantAttempt s).settings = s.settings := settings_grantRounds _ s

@[simp] theorem settings_raisedDemand (d : Drum) (w : Nat) (s : State) : (raisedDemand d w s).settings = s.settings := by
  unfold raisedDemand; split <;> rfl

@[simp] theorem settings_loweredDemand (d : Drum) (w : Nat) (s : State) :
    (loweredDemand d w s).settings = s.settings := by
  unfold loweredDemand
  dsimp only
  rw [settings_dropCopy]
  split
  · exact settings_lowerGrant d w _
  · rfl

@[simp] theorem settings_takeDemand (d : Drum) (w : Nat) (s : State) : (takeDemand d w s).settings = s.settings := by
  have hplaced (v : Nat) (u : State) :
      (if (s.share d).granted < v then raisedDemand d v u else loweredDemand d v u).settings = u.settings := by
    split
    · exact settings_raisedDemand d v u
    · exact settings_loweredDemand d v u
  unfold takeDemand
  dsimp only
  rw [settings_grantAttempt, hplaced, settings_onShare]

@[simp] theorem settings_releaseDrum (d : Drum) (s : State) : (releaseDrum d s).settings = s.settings := by
  unfold releaseDrum
  dsimp only
  rw [settings_grantAttempt, settings_onShare]
  split
  · rfl
  · exact settings_lowerGrant d 0 _

@[simp] theorem settings_requeue (d : Drum) (s : State) : (requeue d s).settings = s.settings := by
  unfold requeue; dsimp only; split <;> rfl

@[simp] theorem settings_revokeStep (d : Drum) (s : State) : (revokeStep d s).settings = s.settings := by
  unfold revokeStep
  rw [settings_requeue, settings_raise, settings_lowerGrant]

@[simp] theorem settings_revokeTo (b n : Nat) (s : State) : (revokeTo b n s).settings = s.settings := by
  induction n generalizing s with
  | zero => rfl
  | succ n ih =>
    unfold revokeTo
    split
    · rfl
    · split
      · rfl
      · rw [ih, settings_revokeStep]

@[simp] theorem settings_judgeWait (d : Drum) (s : State) : (judgeWait d s).settings = s.settings := by
  unfold judgeWait
  split
  · rfl
  · split <;> rfl

theorem settings_judgeWaits (l : List Drum) (s : State) :
    (l.foldl (fun s d => judgeWait d s) s).settings = s.settings :=
  List.foldlRecOn (motive := fun t : State => t.settings = s.settings) l _ rfl fun t ht d _ => by
    rw [settings_judgeWait, ht]

/-- A new budget is in force and nothing else is set (R129). -/
theorem settings_setBudget (b : Nat) (s : State) : (setBudget b s).settings = { s.settings with budget := b } := by
  unfold setBudget
  rw [settings_grantAttempt]
  exact congrArg (fun x : Settings => { x with budget := b }) (settings_revokeTo b 8 s)

/-- A new wait limit is in force and nothing else is set (R128). -/
theorem settings_setWaitLimit (n : Nat) (s : State) : (setWaitLimit n s).settings = { s.settings with waitLimit := n } := by
  unfold setWaitLimit
  split
  next h => rw [h]; rfl
  next => exact settings_judgeWaits _ _

/-! ### Lockouts, flame status and crossings -/

@[simp] theorem settings_lockOut (d : Drum) (p : LockoutPath) (s : State) : (lockOut d p s).settings = s.settings := by
  have hset : (setLockout d p s).settings = s.settings := settings_of_besides (d := d) (by simp [setLockout])
  have hend (t : State) : (heatEnd d .heatFault t).settings = t.settings := settings_of_besides (besides_heatEnd d _ t)
  unfold lockOut
  dsimp only
  split
  · rfl
  · rw [hend]
    split <;> simp [hset]

@[simp] theorem settings_failedAttempt (d : Drum) (s : State) : (failedAttempt d s).settings = s.settings := by
  unfold failedAttempt
  dsimp only
  split
  · exact settings_of_besides (d := d) (by simp)
  · exact settings_lockOut d _ s

theorem settings_onBurner (d : Drum) (f : Burner → Burner) (s : State) : (s.onBurner d f).settings = s.settings :=
  settings_of_besides (besides_onBurner d f s)

@[simp] theorem settings_flameLost (d : Drum) (s : State) : (flameLost d s).settings = s.settings := by
  unfold flameLost
  rw [settings_failedAttempt, settings_raise, settings_onBurner]

theorem settings_flameByView (d : Drum) (x : FlameState) (s : State) : (flameByView d x s).settings = s.settings := by
  unfold flameByView
  dsimp only
  split
  case h_1 => exact settings_of_besides (besides_enterBurning d s)
  case h_2 | h_3 => exact settings_failedAttempt d s
  case h_4 | h_5 | h_6 => split; exacts [settings_flameLost d s, rfl]
  case h_7 => rfl

@[simp] theorem settings_takeFlameStat (d : Drum) (st : FlameStatus) (s : State) :
    (takeFlameStat d st s).settings = s.settings := by
  have hview : (flameByView d st.flame (s.onBurner d fun b => { b with flame := some st })).settings = s.settings := by
    rw [settings_flameByView, settings_onBurner]
  unfold takeFlameStat
  dsimp only
  split
  · rw [settings_of_besides (besides_setRest d true _), hview]
  · exact hview

@[simp] theorem settings_cross (d : Drum) (a : Fin 8) (s : State) : (cross d a s).settings = s.settings := by
  unfold cross
  dsimp only
  split
  · rfl
  · exact settings_lockOut d _ _
  · rfl

@[simp] theorem settings_takeIncrement (d : Drum) (a : Fin 8) (s : State) : (takeIncrement d a s).settings = s.settings := by
  unfold takeIncrement
  dsimp only
  split
  · rw [settings_cross, settings_onAttr]
  · rfl

@[simp] theorem settings_evaluate (order : List (Drum × Fin 8)) (s : State) : (evaluate order s).1.settings = s.settings :=
  List.foldlRecOn (motive := fun p : State × Nat => p.1.settings = s.settings) order _ rfl fun p hp r _ => by
    split
    · exact (settings_cross r.1 r.2 p.1).trans hp
    · exact hp

@[simp] theorem settings_resetDrum (d : Drum) (s : State) : (resetDrum d s).settings = s.settings := by
  have hpurge (t : State) : (purgeAlerts d t).settings = t.settings := rfl
  unfold resetDrum
  dsimp only
  rw [hpurge, settings_releaseDrum, settings_onFlight]
  exact settings_of_besides (d := d) (by simp)

/-! ### Events and lookups -/

theorem settings_enterAlert (ev : Event) (s : State) : (enterAlert ev s).settings = s.settings := by
  unfold enterAlert
  dsimp only
  split
  · rfl
  · split
    · rfl
    · split <;> rfl

@[simp] theorem settings_takeEvent (ev : Event) (s : State) : (takeEvent ev s).settings = s.settings := by
  unfold takeEvent
  rw [settings_enterAlert, settings_of_besides (besides_routedAction ev.drum _ s)]

/-- A hit changes no field of an entry but its hit count (R33). -/
theorem binding_hit (c : Classifier) (n : Nat) : (c.hit n).entries.map ClassEntry.binding = c.entries.map .binding := by
  unfold Classifier.hit
  rw [List.map_map]
  refine List.map_congr_left fun e _ => ?_
  dsimp only [Function.comp_apply]
  split <;> rfl

theorem settings_hit (n : Nat) (s : State) : (s.onClassifier fun c => c.hit n).settings = s.settings := by
  unfold State.settings
  rw [classifier_onClassifier, binding_hit]
  rfl

theorem settings_handStatus (f : HandedFrame) (bound : Nat) (a : Option Absorbed) (s : State) :
    (handStatus f bound a s).settings = s.settings := by
  unfold handStatus
  split
  · rfl
  · split <;> rfl

theorem settings_absorbPart (e : ClassEntry) (f : HandedFrame) (s : State) : (absorbPart e f s).settings = s.settings := by
  unfold absorbPart
  dsimp only
  split
  case h_1 => rfl
  case h_2 | h_3 => exact settings_handStatus f _ _ s
  all_goals split <;> rfl

theorem settings_forwardPart (n : Option Nat) (f : HandedFrame) (s : State) :
    (forwardPart n f s).settings = s.settings := by
  unfold forwardPart; split <;> rfl

theorem settings_matched (e : ClassEntry) (f : HandedFrame) (s : State) : (matched e f s).settings = s.settings := by
  have habsorb : (if f.passed = true then absorbPart e f s else s).settings = s.settings := by
    split
    · exact settings_absorbPart e f s
    · rfl
  unfold matched
  split
  · exact habsorb
  · exact settings_forwardPart _ f s
  · rw [settings_forwardPart]; exact habsorb
  · rfl

theorem settings_missed (f : HandedFrame) (s : State) : (missed f s).settings = s.settings := by
  unfold missed
  dsimp only
  split
  · exact settings_forwardPart none f _
  · rfl

/-- A lookup counts a hit and hands work on; it sets nothing (R34). -/
@[simp] theorem settings_lookUp (f : HandedFrame) (s : State) : (lookUp f s).settings = s.settings := by
  unfold lookUp
  split
  · rw [settings_matched, settings_hit]
  · exact settings_missed f s

/-! ### The cabinet link -/

theorem settings_cabinetLost (s : State) : (cabinetLost s).settings = s.settings := by
  unfold cabinetLost cutAlert; split <;> rfl

theorem settings_takeCabinetFrame (bytes : List Byte) (s : State) : (takeCabinetFrame bytes s).settings = s.settings := by
  unfold takeCabinetFrame offerRequest
  split
  · split <;> rfl
  · rfl

theorem settings_choose (s : State) : (choose s).settings = s.settings := by
  have hhead : (beginHead s).settings = s.settings := by unfold beginHead; split <;> rfl
  unfold choose
  split
  · rfl
  · split
    · exact hhead
    · split
      · rfl
      · exact hhead

theorem settings_takeFrame (d : Drum) (bytes : List Byte) (s : State) : (takeFrame d bytes s).settings = s.settings := by
  have hcount (f : Port → Port) : (s.onPort d f).settings = s.settings := settings_of_besides (besides_onPort d f s)
  unfold takeFrame
  dsimp only
  split
  · exact hcount _
  · rw [settings_onFlight]
    split
    · rfl
    · exact hcount _

end Sys2Proof.Machine
end

section
/-! What each command may set (R30, R31, R57, R67, R91, R171, R182): the settings are its own request's; settles O55. -/

namespace Sys2Proof.Machine

/-- What command c leaves alone of the settings, from x to y: all but the one that c sets. -/
structure Settings.Kept (c : Instr) (x y : Settings) : Prop where
  clock : y.clock = x.clock
  resetHeld : y.resetHeld = x.resetHeld
  routes : c ≠ .routeWrite → y.routes = x.routes
  profiles : c ≠ .profileWrite → y.profiles = x.profiles
  bucketSpread : c ≠ .configWriteBucketSpread → y.bucketSpread = x.bucketSpread
  signatureSpread : c ≠ .configWriteSignatureSpread → y.signatureSpread = x.signatureSpread
  miss : c ≠ .configWriteMissAction → y.miss = x.miss
  configs : c ≠ .drumConfigWrite → y.configs = x.configs
  attributes : c ≠ .attrLoad → y.valid = x.valid ∧ y.revision = x.revision ∧ y.table = x.table
  budget : c ≠ .configWriteHeatBudget → y.budget = x.budget
  bypassLimit : c ≠ .configWriteBypassLimit → y.bypassLimit = x.bypassLimit
  waitLimit : c ≠ .configWriteHeatWaitLimit → y.waitLimit = x.waitLimit
  bindings : c ≠ .classAdd → c ≠ .classRemove → y.bindings = x.bindings

theorem Settings.Kept.refl (c : Instr) (x : Settings) : x.Kept c x := by
  constructor <;> simp

/-- What command c leaves alone of the settings, from state s to state t. -/
def SettingsKept (c : Instr) (s t : State) : Prop := s.settings.Kept c t.settings

section
variable {s t u v : State} {c : Instr} {r : Request} {d : Drum}

theorem settingsKept_of_settings (h : t.settings = s.settings) : SettingsKept c s t := by
  unfold SettingsKept
  rw [h]
  exact .refl c _

theorem settingsKept_refl : SettingsKept c s s := .refl c _

theorem settingsKept_of_besides (h : t.besides d = s.besides d) : SettingsKept c s t :=
  settingsKept_of_settings (settings_of_besides h)

/-- A command that sets one thing. -/
theorem settingsKept_of_set {x : Settings} (h : t.settings = x) (hx : s.settings.Kept c x) : SettingsKept c s t := by
  subst h; exact hx

/-! ### Answers -/

theorem settingsKept_ok (h : SettingsKept c u v) : SettingsKept c u (ok v).state := h

theorem settingsKept_check {p : Prop} [Decidable p] {st : Status} {a : Answer} (h : ¬p → SettingsKept c u a.state) :
    SettingsKept c u (if p then refuse st u else a).state := by
  split
  · exact settingsKept_refl
  next hp => exact h hp

theorem settingsKept_admit {p : Prop} [Decidable p] {st : Status} {a : Answer} (h : p → SettingsKept c u a.state) :
    SettingsKept c u (if p then a else refuse st u).state := by
  split
  next hp => exact h hp
  · exact settingsKept_refl

theorem settingsKept_onDrumArg {h : Drum → State → Answer} (hh : ∀ d, SettingsKept c u (h d u).state) :
    SettingsKept c u (onDrumArg h r u).state := by
  unfold onDrumArg
  split
  · exact hh _
  · exact settingsKept_refl

theorem settingsKept_onPortArg {h : Drum → State → Answer} (hh : ∀ d, SettingsKept c u (h d u).state) :
    SettingsKept c u (onPortArg h r u).state := by
  unfold onPortArg
  split
  · exact settingsKept_check fun _ => hh _
  · exact settingsKept_refl

theorem settingsKept_serveItem {w : Nat → State → Answer} (hw : ∀ v, SettingsKept c u (w v u).state) :
    SettingsKept c u (serveItem w r u).state :=
  settingsKept_admit fun _ => hw _

theorem settingsKept_onScopePart {report : State → List Byte} : SettingsKept c u (onScopePart report r u).state :=
  settingsKept_check fun _ => settingsKept_refl

theorem settingsKept_onScopeDrum {report : Drum → State → List Byte} :
    SettingsKept c u (onScopeDrum report r u).state := by
  unfold onScopeDrum
  split
  · exact settingsKept_check fun _ => settingsKept_refl
  · exact settingsKept_refl

/-- The engine sets nothing of its own: taking a request and queueing its reply change the cabinet record and a standby
timer. -/
theorem settings_answer (rest : List Request) (h : State → Answer) (s : State) :
    (answer r rest h s).settings = (h (s.taken rest)).state.settings := by
  unfold answer
  dsimp only
  rw [settings_onCabinet]
  split
  · exact settings_of_besides (besides_reloadStandby _ _)
  · rfl

theorem settingsKept_serve {mine : Request → Bool} {h : Request → State → Answer}
    (hh : ∀ r u, SettingsKept c u (h r u).state) : SettingsKept c s (serve mine h s) := by
  unfold serve
  split
  · exact settingsKept_refl
  next r rest _ =>
    split
    · exact settingsKept_of_set (settings_answer rest (h r) s) (hh r (s.taken rest))
    · exact settingsKept_refl

theorem settingsKept_running {f : State → State} (hf : SettingsKept c s (f s)) (h : running f s = .next t) :
    SettingsKept c s t := by
  unfold running at h
  split at h <;> cases h
  · exact settingsKept_refl
  · exact hf

/-! ### The requests that set something -/

theorem settingsKept_writeBudget {n : Nat} : SettingsKept .configWriteHeatBudget u (writeBudget n u).state :=
  settingsKept_check fun _ => settingsKept_of_set (settings_setBudget n u) (by constructor <;> simp)

theorem settingsKept_writeBypass {n : Nat} : SettingsKept .configWriteBypassLimit u (writeBypass n u).state :=
  settingsKept_check fun _ =>
    settingsKept_of_set (x := { u.settings with bypassLimit := n }) (settings_grantAttempt _) (by constructor <;> simp)

theorem settingsKept_writeWaitLimit {n : Nat} : SettingsKept .configWriteHeatWaitLimit u (writeWaitLimit n u).state :=
  settingsKept_check fun _ => settingsKept_of_set (settings_setWaitLimit n u) (by constructor <;> simp)

theorem settingsKept_writeBucketSpread {n : Nat} :
    SettingsKept .configWriteBucketSpread u (writeBucketSpread n u).state :=
  settingsKept_admit fun _ =>
    settingsKept_of_set (x := { u.settings with bucketSpread := BitVec.ofNat 32 n }) rfl (by constructor <;> simp)

theorem settingsKept_writeSignatureSpread {n : Nat} :
    SettingsKept .configWriteSignatureSpread u (writeSignatureSpread n u).state :=
  settingsKept_admit fun _ =>
    settingsKept_of_set (x := { u.settings with signatureSpread := BitVec.ofNat 32 n }) rfl (by constructor <;> simp)

theorem settingsKept_writeMissAction : SettingsKept .configWriteMissAction u (writeMissAction r u).state := by
  unfold writeMissAction
  split
  next p m _ _ =>
    exact settingsKept_of_set (x := { u.settings with miss := u.classifier.miss.set p m }) rfl (by constructor <;> simp)
  · exact settingsKept_refl

theorem settings_replaceConfig (d : Drum) (x : DrumConfig) (u : State) :
    (replaceConfig d x u).settings = { u.settings with configs := (replaceConfig d x u).settings.configs } := by
  have hb := replaceConfig_besides (s := u) d x
  simp only [State.besides, Besides.mk.injEq] at hb
  simp [State.settings, hb]

theorem settingsKept_replaceConfig (d : Drum) (x : DrumConfig) (u : State) :
    SettingsKept .drumConfigWrite u (replaceConfig d x u) :=
  settingsKept_of_set (settings_replaceConfig d x u) (by constructor <;> simp)

theorem settingsKept_writeDrumConfig : SettingsKept .drumConfigWrite u (writeDrumConfig r u).state := by
  refine settingsKept_onDrumArg fun d => ?_
  split
  · exact settingsKept_refl
  · exact settingsKept_admit fun _ => settingsKept_replaceConfig d _ u

theorem settingsKept_writeProfile : SettingsKept .profileWrite u (writeProfile r u).state := by
  unfold writeProfile
  split
  next hn =>
    split
    next p _ =>
      exact settingsKept_of_set (x := { u.settings with profiles := u.profiles.set (natAt r.args 0) p hn }) rfl
        (by constructor <;> simp)
    · exact settingsKept_refl
  · exact settingsKept_refl

theorem settingsKept_writeRoute : SettingsKept .routeWrite u (writeRoute r u).state := by
  unfold writeRoute
  split
  next e x _ _ =>
    exact settingsKept_of_set (x := { u.settings with routes := u.router.routes.set e x }) rfl (by constructor <;> simp)
  · exact settingsKept_refl

theorem settingsKept_addEntry : SettingsKept .classAdd u (addEntry r u).state := by
  unfold addEntry
  split
  · exact settingsKept_refl
  next e _ =>
    refine settingsKept_check fun _ => settingsKept_check fun _ => settingsKept_check fun _ => ?_
    exact settingsKept_of_set (x := { u.settings with bindings := (u.classifier.entries ++ [e]).map .binding }) rfl
      (by constructor <;> simp)

theorem settingsKept_removeEntry : SettingsKept .classRemove u (removeEntry r u).state := by
  unfold removeEntry
  refine settingsKept_check fun _ => ?_
  split
  · exact settingsKept_refl
  · refine settingsKept_check fun _ => ?_
    exact settingsKept_of_set
      (x :=
        { u.settings with
          bindings := (u.classifier.entries.filter fun x => x.number != nat16At r.args 0).map .binding })
      rfl (by constructor <;> simp)

theorem settingsKept_attrLoad : SettingsKept .attrLoad u (attrLoad r u).state := by
  unfold attrLoad
  refine settingsKept_check fun _ => settingsKept_check fun _ => ?_
  split
  · exact settingsKept_refl
  next table _ =>
    unfold loadTable
    generalize attrOrder = order
    exact settingsKept_of_set (x := { u.settings with valid := true, revision := 2, table := table })
      (settings_evaluate order _) (by constructor <;> simp)

/-! ### The requests that set nothing -/

theorem settingsKept_queryTuple : SettingsKept c u (queryTuple r u).state := by
  unfold queryTuple
  split <;> exact settingsKept_refl

theorem settingsKept_cycleLoad : SettingsKept c u (cycleLoad r u).state := by
  refine settingsKept_onDrumArg fun d => ?_
  split
  · exact settingsKept_refl
  · exact settingsKept_check fun _ => settingsKept_check fun _ => settingsKept_check fun _ => settingsKept_check fun _ =>
      settingsKept_of_besides (besides_loadCycle d _ u)

theorem settingsKept_cycleUnload : SettingsKept c u (cycleUnload r u).state :=
  settingsKept_onDrumArg fun d => settingsKept_admit fun _ => settingsKept_of_besides (besides_enterVacant d u)

theorem settingsKept_cycleStart : SettingsKept c u (cycleStart r u).state := by
  unfold cycleStart
  refine settingsKept_onDrumArg fun d => ?_
  dsimp only
  refine settingsKept_check fun _ => settingsKept_check fun _ => settingsKept_check fun _ => settingsKept_check fun _ =>
    settingsKept_check fun _ => settingsKept_check fun _ => ?_
  exact settingsKept_ok (settingsKept_of_besides (besides_startCycle d u))

theorem settingsKept_cyclePause : SettingsKept c u (cyclePause r u).state := by
  refine settingsKept_onDrumArg fun d => ?_
  split
  case h_1 | h_2 | h_3 | h_4 => exact settingsKept_of_besides (besides_pauseOrJoin d _ u)
  all_goals exact settingsKept_refl

theorem settingsKept_cycleResume : SettingsKept c u (cycleResume r u).state := by
  unfold cycleResume
  refine settingsKept_onDrumArg fun d => ?_
  dsimp only
  refine settingsKept_check fun _ => settingsKept_check fun _ => ?_
  exact settingsKept_ok (settingsKept_of_besides (besides_resumeCycle d u))

theorem settingsKept_cycleEndHeat : SettingsKept c u (cycleEndHeat r u).state := by
  refine settingsKept_onDrumArg fun d => ?_
  split
  case h_1 | h_2 | h_3 | h_4 | h_5 => exact settingsKept_of_besides (besides_heatEnd d _ u)
  all_goals exact settingsKept_refl

theorem settingsKept_cycleAbort : SettingsKept c u (cycleAbort r u).state :=
  settingsKept_onDrumArg fun d => settingsKept_check fun _ => settingsKept_of_besides (besides_abortCycle d u)

theorem settingsKept_drumReset : SettingsKept c u (onDrumArg (fun d s => ok (resetDrum d s)) r u).state :=
  settingsKept_onDrumArg fun d => settingsKept_of_settings (settings_resetDrum d u)

theorem settingsKept_lockoutClear :
    SettingsKept c u
      (onDrumArg (fun d s => if (s.drum d).burner.lockout.isSome then ok (clearLockout d s) else refuse .state s) r
        u).state :=
  settingsKept_onDrumArg fun d => settingsKept_admit fun _ => settingsKept_of_besides (besides_clearLockout d u)

/-- A PORT_CONTROL that does an operation on its drum where a condition on the drum admits it. -/
theorem settingsKept_portWork {p : DrumState → Bool} {op : Drum → State → State}
    (hop : ∀ d, (op d u).besides d = u.besides d) :
    SettingsKept c u (onPortArg (fun d s => if p (s.drum d) then ok (op d s) else refuse .busy s) r u).state :=
  settingsKept_onPortArg fun d => settingsKept_admit fun _ => settingsKept_of_besides (hop d)

theorem settingsKept_bringUp : SettingsKept c u (bringUp d u).state := by
  unfold bringUp
  split
  case h_1 | h_2 => exact settingsKept_of_besides (besides_setPortState d _ u)
  all_goals exact settingsKept_refl

theorem settingsKept_holdNodes : SettingsKept c u (holdNodes d u).state := by
  refine settingsKept_admit fun _ => ?_
  dsimp only [ok]
  split
  · exact settingsKept_refl
  · exact settingsKept_of_besides (besides_setHold d u)

theorem settingsKept_releaseNodes : SettingsKept c u (releaseNodes d u).state := by
  dsimp only [releaseNodes, ok]
  split
  · exact settingsKept_of_besides (besides_clearHold d u)
  · exact settingsKept_refl

theorem settingsKept_testRequest {dir : TestDirection} : SettingsKept c u (testRequest dir r u).state := by
  refine settingsKept_onPortArg fun d => ?_
  split
  · exact settingsKept_refl
  · exact settingsKept_admit fun _ => settingsKept_of_besides (besides_startTest d dir _ u)

theorem settingsKept_testEnd : SettingsKept c u (onPortArg (fun d s => ok (endTest d s)) r u).state :=
  settingsKept_onPortArg fun d => settingsKept_of_besides (besides_endTest d u)

theorem settingsKept_gate {f : PassFrame} : SettingsKept c u (gate d f u).state := by
  have hdrive : SettingsKept c u (passDrive d f u).state := by
    unfold passDrive
    split
    · exact settingsKept_refl
    · exact settingsKept_check fun _ => settingsKept_admit fun _ => settingsKept_of_besides (besides_writeDrive d _ u)
  have hfan : SettingsKept c u (passFan d f u).state := by
    unfold passFan
    split
    · exact settingsKept_refl
    · exact settingsKept_admit fun _ => settingsKept_of_besides (besides_writeFan d _ u)
  unfold gate
  split
  · split
    · exact settingsKept_refl
    · split
      · exact hdrive
      · exact settingsKept_admit fun _ => hfan
  · exact settingsKept_check fun _ => settingsKept_of_besides (besides_onPort d _ u)

theorem settingsKept_passThrough : SettingsKept c u (passThrough r u).state :=
  settingsKept_onDrumArg fun _ => settingsKept_check fun _ => settingsKept_check fun _ => settingsKept_gate

theorem settingsKept_alertAck : SettingsKept c u (alertAck r u).state := by
  unfold alertAck ackAlert
  split
  · split
    · exact settingsKept_refl
    · split <;> exact settingsKept_of_settings rfl
  · exact settingsKept_refl

theorem settingsKept_attrClear : SettingsKept c u (attrClear r u).state := by
  refine settingsKept_onDrumArg fun d => ?_
  split
  · exact settingsKept_of_settings rfl
  · exact settingsKept_admit fun _ => settingsKept_of_settings rfl

end

/-- Every owner keeps the settings that are not its own. -/
theorem settingsKept_owner {c : Instr} {o : Owner} (hc : ownerOf c = some o) (r : Request) (u : State) :
    SettingsKept c u (o.serves r u).state := by
  cases c <;> cases hc
  case badRequest | partReset => exact settingsKept_refl
  case configWriteHeatBudget => exact settingsKept_serveItem fun _ => settingsKept_writeBudget
  case configWriteBypassLimit => exact settingsKept_serveItem fun _ => settingsKept_writeBypass
  case configWriteHeatWaitLimit => exact settingsKept_serveItem fun _ => settingsKept_writeWaitLimit
  case configWriteBucketSpread => exact settingsKept_serveItem fun _ => settingsKept_writeBucketSpread
  case configWriteSignatureSpread => exact settingsKept_serveItem fun _ => settingsKept_writeSignatureSpread
  case configWriteMissAction => exact settingsKept_serveItem fun _ => settingsKept_writeMissAction
  case drumConfigWrite => exact settingsKept_writeDrumConfig
  case profileWrite => exact settingsKept_writeProfile
  case routeWrite => exact settingsKept_writeRoute
  case classAdd => exact settingsKept_addEntry
  case classRemove => exact settingsKept_removeEntry
  case classQuery => exact settingsKept_queryTuple
  case classRead => exact settingsKept_check fun _ => settingsKept_refl
  case cycleLoad => exact settingsKept_cycleLoad
  case cycleUnload => exact settingsKept_cycleUnload
  case cycleStart => exact settingsKept_cycleStart
  case cyclePause => exact settingsKept_cyclePause
  case cycleResume => exact settingsKept_cycleResume
  case cycleEndHeat => exact settingsKept_cycleEndHeat
  case cycleAbort => exact settingsKept_cycleAbort
  case drumReset => exact settingsKept_drumReset
  case heatLockoutClear => exact settingsKept_lockoutClear
  case powerOff => exact settingsKept_portWork fun d => besides_powerOff d u
  case serviceOnly => exact settingsKept_portWork fun d => besides_serviceOnly d u
  case bringUp => exact settingsKept_onPortArg fun _ => settingsKept_bringUp
  case holdNodes => exact settingsKept_onPortArg fun _ => settingsKept_holdNodes
  case releaseNodes => exact settingsKept_onPortArg fun _ => settingsKept_releaseNodes
  case testSend | testReceive => exact settingsKept_testRequest
  case testEnd => exact settingsKept_testEnd
  case passThrough => exact settingsKept_passThrough
  case alertAck => exact settingsKept_alertAck
  case attrLoad => exact settingsKept_attrLoad
  case attrRead => exact settingsKept_onDrumArg fun _ => settingsKept_refl
  case attrClear => exact settingsKept_attrClear
  case statusReadPart | statusReadHeat => exact settingsKept_onScopePart
  case statusReadDrum | statusReadPort => exact settingsKept_onScopeDrum

section
variable {s t : State} {c : Instr} {d : Drum}

/-! ### The commands that no request asks for -/

theorem settingsKept_of_running {f : State → State} (hf : (f s).settings = s.settings) (h : running f s = .next t) :
    SettingsKept c s t :=
  settingsKept_running (settingsKept_of_settings hf) h

theorem settingsKept_request {o : Owner} (hc : ownerOf c = some o) (h : exec c s = .next t) : SettingsKept c s t := by
  rw [exec_of_owner hc] at h
  exact settingsKept_running (settingsKept_serve (settingsKept_owner hc)) h

theorem settingsKept_execCabinetLock (h : execCabinetLock s = .next t) : SettingsKept c s t :=
  settingsKept_of_running (settings_onCabinet _ s) h

theorem settingsKept_execCabinetLockLost (h : execCabinetLockLost s = .next t) : SettingsKept c s t :=
  settingsKept_of_running (settings_cabinetLost s) h

theorem settingsKept_execCabinetFrameReceived {bytes : List Byte} (h : execCabinetFrameReceived bytes s = .next t) :
    SettingsKept c s t :=
  settingsKept_of_running (settings_onlyIf (settings_takeCabinetFrame bytes s)) h

theorem settingsKept_execTransmitChoice (h : execTransmitChoice s = .next t) : SettingsKept c s t :=
  settingsKept_of_running (settings_onlyIf (settings_choose s)) h

theorem settingsKept_execMainLaneFrameReceived {bytes : List Byte} (h : execMainLaneFrameReceived d bytes s = .next t) :
    SettingsKept c s t :=
  settingsKept_of_running (settings_onlyIf (settings_takeFrame d bytes s)) h

theorem settingsKept_execTrialExpiry (h : execTrialExpiry d s = .next t) : SettingsKept c s t :=
  settingsKept_of_running (settings_onlyIf (settings_failedAttempt d s)) h

theorem settingsKept_execEntryWaitExpiry (h : execEntryWaitExpiry d s = .next t) : SettingsKept c s t :=
  settingsKept_of_running (settings_judgeWait d s) h

theorem settings_dropAbsorbed (p : Drum × Absorbed) (s : State) : (dropAbsorbed p s).settings = s.settings := rfl

theorem settingsKept_execInletTempAbsorbed (h : execInletTempAbsorbed d s = .next t) : SettingsKept c s t := by
  refine settingsKept_of_running ?_ h
  split
  · rw [settings_of_besides (besides_takeInlet d _ _), settings_dropAbsorbed]
  · rfl

theorem settingsKept_execExhaustTempAbsorbed (h : execExhaustTempAbsorbed d s = .next t) : SettingsKept c s t := by
  refine settingsKept_of_running ?_ h
  split
  · rw [settings_of_besides (besides_takeExhaust d _ _), settings_dropAbsorbed]
  · rfl

theorem settingsKept_execMotorCurrentAbsorbed (h : execMotorCurrentAbsorbed d s = .next t) : SettingsKept c s t := by
  refine settingsKept_of_running ?_ h
  split
  · rw [settings_of_besides (besides_takeCurrent d _ _), settings_dropAbsorbed]
  · rfl

theorem settingsKept_execWetCountAbsorbed (h : execWetCountAbsorbed d s = .next t) : SettingsKept c s t := by
  refine settingsKept_of_running ?_ h
  split
  · rw [settings_of_besides (besides_takeWet d _ _), settings_dropAbsorbed]
  · rfl

theorem settingsKept_execDriveStatAbsorbed (h : execDriveStatAbsorbed d s = .next t) : SettingsKept c s t := by
  refine settingsKept_of_running ?_ h
  split
  · rw [settings_of_besides (besides_takeDriveStat d _ _), settings_dropAbsorbed]
  · rfl

theorem settingsKept_execFlameStatAbsorbed (h : execFlameStatAbsorbed d s = .next t) : SettingsKept c s t := by
  refine settingsKept_of_running ?_ h
  split
  · rw [settings_takeFlameStat, settings_dropAbsorbed]
  · rfl

theorem settingsKept_execAlertFrameEnd (h : execAlertFrameEnd s = .next t) : SettingsKept c s t := by
  refine settingsKept_of_running ?_ h
  split <;> rfl

theorem settingsKept_execForwardRecordEnd (h : execForwardRecordEnd s = .next t) : SettingsKept c s t := by
  refine settingsKept_of_running ?_ h
  split <;> rfl

theorem settingsKept_execLookup (h : execLookup d s = .next t) : SettingsKept c s t := by
  refine settingsKept_of_running ?_ h
  split
  · rfl
  · rw [settings_lookUp, settings_onFlight]

theorem settingsKept_execHeatDemand (h : execHeatDemand d s = .next t) : SettingsKept c s t := by
  refine settingsKept_of_running ?_ h
  split
  · rfl
  · rw [settings_takeDemand, settings_onFlight]

theorem settingsKept_execEventTaken {src : Block} (h : execEventTaken src s = .next t) : SettingsKept c s t := by
  refine settingsKept_of_running ?_ h
  split
  · rfl
  · rw [settings_takeEvent, settings_onFlight]

theorem settingsKept_execAttributeIncrement {src : Block} (h : execAttributeIncrement src s = .next t) :
    SettingsKept c s t := by
  refine settingsKept_of_running ?_ h
  split
  · rfl
  · rw [settings_takeIncrement, settings_onFlight]

end

/-- Every command keeps the settings that are not its own, the resets excepted: the requests by their owners, the timed
commands and reports of a drum because they touch that drum alone. -/
theorem settingsKept_exec {c : Instr} {s t : State} (hreset : c ∉ resetCommands) (hreply : c ≠ .replyTransmitEnd)
    (h : exec c s = .next t) : SettingsKept c s t := by
  cases hc : ownerOf c with
  | some o => exact settingsKept_request hc h
  | none =>
    cases c
    case powerOnReset | resetnAssert | resetnRelease => exact absurd (by simp [resetCommands]) hreset
    case replyTransmitEnd => exact absurd rfl hreply
    case cabinetLock => exact settingsKept_execCabinetLock h
    case cabinetLockLost => exact settingsKept_execCabinetLockLost h
    case cabinetFrameReceived => exact settingsKept_execCabinetFrameReceived h
    case transmitChoice => exact settingsKept_execTransmitChoice h
    case alertFrameEnd => exact settingsKept_execAlertFrameEnd h
    case forwardRecordEnd => exact settingsKept_execForwardRecordEnd h
    case mainLaneFrameReceived => exact settingsKept_execMainLaneFrameReceived h
    case lookup => exact settingsKept_execLookup h
    case inletTempAbsorbed => exact settingsKept_execInletTempAbsorbed h
    case exhaustTempAbsorbed => exact settingsKept_execExhaustTempAbsorbed h
    case motorCurrentAbsorbed => exact settingsKept_execMotorCurrentAbsorbed h
    case wetCountAbsorbed => exact settingsKept_execWetCountAbsorbed h
    case driveStatAbsorbed => exact settingsKept_execDriveStatAbsorbed h
    case flameStatAbsorbed => exact settingsKept_execFlameStatAbsorbed h
    case trialExpiry => exact settingsKept_execTrialExpiry h
    case heatDemand => exact settingsKept_execHeatDemand h
    case entryWaitExpiry => exact settingsKept_execEntryWaitExpiry h
    case eventTaken => exact settingsKept_execEventTaken h
    case attributeIncrement => exact settingsKept_execAttributeIncrement h
    case mainLaneLock => exact settingsKept_of_besides (besides_execMainLaneLock h)
    case mainLaneLockLost => exact settingsKept_of_besides (besides_execMainLaneLockLost h)
    case graceExpiry => exact settingsKept_of_besides (besides_execGraceExpiry h)
    case serviceLaneLock => exact settingsKept_of_besides (besides_execServiceLaneLock h)
    case serviceLaneLockLost => exact settingsKept_of_besides (besides_execServiceLaneLockLost h)
    case discreteReport => exact settingsKept_of_besides (besides_execDiscreteReport h)
    case debounceExpiry => exact settingsKept_of_besides (besides_execDebounceExpiry h)
    case presenceReport => exact settingsKept_of_besides (besides_execPresenceReport h)
    case commandFrameSend => exact settingsKept_of_besides (besides_execCommandFrameSend h)
    case commandFrameSent => exact settingsKept_of_besides (besides_execCommandFrameSent h)
    case refreshExpiry => exact settingsKept_of_besides (besides_execRefreshExpiry h)
    case standbyExpiry => exact settingsKept_of_besides (besides_execStandbyExpiry h)
    case armReport => exact settingsKept_of_besides (besides_execArmReport h)
    case armTimeout => exact settingsKept_of_besides (besides_execArmTimeout h)
    case testReport => exact settingsKept_of_besides (besides_execTestReport h)
    case checkerInterval => exact settingsKept_of_besides (besides_execCheckerInterval h)
    case proveTimeout => exact settingsKept_of_besides (besides_execProveTimeout h)
    case airTimeEnd => exact settingsKept_of_besides (besides_execAirTimeEnd h)
    case dryingTimeLimit => exact settingsKept_of_besides (besides_execDryingTimeLimit h)
    case minimumCoolTimeReached => exact settingsKept_of_besides (besides_execMinimumCoolTimeReached h)
    case maximumCoolTime => exact settingsKept_of_besides (besides_execMaximumCoolTime h)
    case guardIntervalExpiry => exact settingsKept_of_besides (besides_execGuardIntervalExpiry h)
    case guardLimit => exact settingsKept_of_besides (besides_execGuardLimit h)
    case fanOverrunExpiry => exact settingsKept_of_besides (besides_execFanOverrunExpiry h)
    case pauseLimitExpiry => exact settingsKept_of_besides (besides_execPauseLimitExpiry h)
    case statusWaitExpiry => exact settingsKept_of_besides (besides_execStatusWaitExpiry h)
    case runLengthEnd => exact settingsKept_of_besides (besides_execRunLengthEnd h)
    case maximumRunSeconds => exact settingsKept_of_besides (besides_execMaximumRunSeconds h)
    case minimumRunReached => exact settingsKept_of_besides (besides_execMinimumRunReached h)
    case guardTumbleEnd => exact settingsKept_of_besides (besides_execGuardTumbleEnd h)
    case decelTimeout => exact settingsKept_of_besides (besides_execDecelTimeout h)
    case dwellExpiry => exact settingsKept_of_besides (besides_execDwellExpiry h)
    case recoverDelayExpiry => exact settingsKept_of_besides (besides_execRecoverDelayExpiry h)
    case retryDelayExpiry => exact settingsKept_of_besides (besides_execRetryDelayExpiry h)
    case stableFlameExpiry => exact settingsKept_of_besides (besides_execStableFlameExpiry h)
    case inletStarvationExpiry => exact settingsKept_of_besides (besides_execInletStarvationExpiry h)
    case extraDryExpiry => exact settingsKept_of_besides (besides_execExtraDryExpiry h)
    case sampleStarvationExpiry => exact settingsKept_of_besides (besides_execSampleStarvationExpiry h)
    all_goals cases hc

/-- Settles O55: what each command keeps, field by field. -/
theorem settingsChangeOnlyByTheirRequest : Obligations.SettingsChangeOnlyByTheirRequest := by
  intro c s t hreset hreply h
  have hk : SettingsKept c s t := settingsKept_exec hreset hreply h
  exact ⟨hk.clock, hk.resetHeld, hk.routes, hk.profiles, hk.bucketSpread, hk.signatureSpread, hk.miss,
    fun hc => congrFun (hk.configs hc), hk.attributes, hk.budget, hk.bypassLimit, hk.waitLimit⟩

end Sys2Proof.Machine
end

section
/-! The classification table stays sound (R32, R41): adding at the tail, removing and counting hits; settles O58. -/

namespace Sys2Proof.Machine

/-! ### Sound entry lists -/

/-- The in-use entries of a sound table, in the order they were placed. -/
structure EntryListSound (spread : BitVec 32) (l : List ClassEntry) : Prop where
  numbers : (l.map (·.number)).Nodup
  pool : ∀ e ∈ l, e.number < 512
  folds : ∀ e ∈ l, ∀ t, e.key = .exact t → e.bucket = bucketIndex spread t
  chains : ∀ b, (l.filter fun e => e.bucket == b).length ≤ 8
  distinct : l.Pairwise fun e x => e.duplicates x = false

theorem tableSound_iff {s : State} : TableSound s ↔ EntryListSound s.classifier.bucketSpread s.classifier.entries :=
  ⟨fun ⟨hn, hp, hf, hc, hd⟩ => ⟨hn, hp, hf, hc, hd⟩, fun ⟨hn, hp, hf, hc, hd⟩ => ⟨hn, hp, hf, hc, hd⟩⟩

section
variable {spread : BitVec 32} {l l' : List ClassEntry} {e : ClassEntry} {s t u : State} {r : Request}

theorem entryListSound_nil : EntryListSound spread [] := by
  constructor <;> simp

/-- Hit counts play no part in soundness. -/
theorem entryListSound_bindings : EntryListSound spread (l.map ClassEntry.binding) ↔ EntryListSound spread l := by
  have hnumbers : (l.map ClassEntry.binding).map (·.number) = l.map (·.number) := by
    rw [List.map_map]; rfl
  have hchain (b : BitVec 8) :
      ((l.map ClassEntry.binding).filter fun e => e.bucket == b).length = (l.filter fun e => e.bucket == b).length := by
    rw [List.filter_map, List.length_map]; rfl
  have hdistinct : (l.map ClassEntry.binding).Pairwise (fun e x => e.duplicates x = false) ↔
      l.Pairwise fun e x => e.duplicates x = false := List.pairwise_map
  constructor
  · rintro ⟨hn, hp, hf, hc, hd⟩
    rw [List.forall_mem_map] at hp hf
    exact ⟨hnumbers ▸ hn, hp, hf, fun b => hchain b ▸ hc b, hdistinct.mp hd⟩
  · rintro ⟨hn, hp, hf, hc, hd⟩
    exact ⟨hnumbers ▸ hn, List.forall_mem_map.mpr hp, List.forall_mem_map.mpr hf, fun b => (hchain b).symm ▸ hc b,
      hdistinct.mpr hd⟩

/-- Removing entries keeps a table sound. -/
theorem EntryListSound.sublist (h : EntryListSound spread l) (hl : l'.Sublist l) : EntryListSound spread l' where
  numbers := h.numbers.sublist (hl.map _)
  pool e he := h.pool e (hl.subset he)
  folds e he := h.folds e (hl.subset he)
  chains b := ((hl.filter _).length_le).trans (h.chains b)
  distinct := h.distinct.sublist hl

/-- A new entry at the tail, with a free number, on its bucket, of a chain below 8, and no duplicate (R41). -/
theorem EntryListSound.concat (h : EntryListSound spread l) (hfree : ∀ x ∈ l, x.number ≠ e.number) (hpool : e.number < 512)
    (hfold : ∀ t, e.key = .exact t → e.bucket = bucketIndex spread t)
    (hroom : (l.filter fun x => x.bucket == e.bucket).length < 8) (hnew : ∀ x ∈ l, x.duplicates e = false) :
    EntryListSound spread (l ++ [e]) where
  numbers := by
    rw [List.map_append, List.nodup_append]
    refine ⟨h.numbers, by simp, ?_⟩
    simpa using hfree
  pool x hx := by
    rcases List.mem_append.mp hx with hx | hx
    · exact h.pool x hx
    · rw [List.mem_singleton.mp hx]; exact hpool
  folds x hx := by
    rcases List.mem_append.mp hx with hx | hx
    · exact h.folds x hx
    · rw [List.mem_singleton.mp hx]; exact hfold
  chains b := by
    rw [List.filter_append, List.length_append]
    by_cases hb : e.bucket = b
    · subst hb; simp; omega
    · simpa [hb] using h.chains b
  distinct := by
    rw [List.pairwise_append]
    exact ⟨h.distinct, List.pairwise_singleton _ _, fun x hx y hy => List.mem_singleton.mp hy ▸ hnew x hx⟩

/-! ### The entry a CLASS_ADD asks for -/

/-- The entry read from a request's arguments: a number of the pool, no hits, and an EXACT entry on the bucket it folds to
(R32, R41). -/
theorem classEntryOf_spec {a : List Byte} (h : classEntryOf a spread = some e) :
    e.number < 512 ∧ e.hits = 0 ∧ ∀ t, e.key = .exact t → e.bucket = bucketIndex spread t := by
  unfold classEntryOf at h
  dsimp only at h
  split at h
  · cases h
  next hrange =>
    have hnumber : nat16At a 0 % 16384 < 512 := by omega
    split at h
    · split at h
      · cases h
      · split at h
        · cases h
          exact ⟨hnumber, rfl, nofun⟩
        · split at h
          · cases h
          · split at h
            · cases h
              refine ⟨hnumber, rfl, fun t ht => ?_⟩
              cases ht; rfl
            · cases h
    · cases h

/-! ### States -/

theorem tableSound_of_settings (hspread : t.settings.bucketSpread = s.settings.bucketSpread)
    (hbindings : t.settings.bindings = s.settings.bindings) (h : TableSound s) : TableSound t := by
  rw [tableSound_iff, ← entryListSound_bindings] at h ⊢
  have hb : t.classifier.entries.map ClassEntry.binding = s.classifier.entries.map .binding := hbindings
  rw [hb, show t.classifier.bucketSpread = s.classifier.bucketSpread from hspread]
  exact h

theorem tableSound_of_empty (h : t.classifier.entries = []) : TableSound t := by
  rw [tableSound_iff, h]; exact entryListSound_nil

theorem tableSound_addEntry (h : TableSound u) : TableSound (addEntry r u).state := by
  unfold addEntry
  split
  · exact h
  next e he =>
    dsimp only
    split
    · exact h
    next hused =>
    split
    · exact h
    next hdup =>
    split
    · exact h
    next hfull =>
      obtain ⟨hpool, -, hfold⟩ := classEntryOf_spec he
      rw [tableSound_iff] at h ⊢
      refine h.concat ?_ hpool hfold (not_le.mp hfull) ?_
      · simpa [Classifier.entry?] using hused
      · simpa using hdup

theorem tableSound_removeEntry (h : TableSound u) : TableSound (removeEntry r u).state := by
  unfold removeEntry
  dsimp only
  split
  · exact h
  · split
    · exact h
    · split
      · exact h
      · rw [tableSound_iff] at h ⊢
        exact h.sublist List.filter_sublist

/-- The bucket spread word is written while no entry is in use (R30). -/
theorem tableSound_writeBucketSpread {n : Nat} (h : TableSound u) : TableSound (writeBucketSpread n u).state := by
  unfold writeBucketSpread
  split
  next hempty => exact tableSound_of_empty (List.isEmpty_iff.mp hempty)
  next => exact h

theorem tableSound_serve {mine : Request → Bool} {f : Request → State → Answer} (h : TableSound s)
    (hf : ∀ r u, TableSound u → TableSound (f r u).state) : TableSound (serve mine f s) := by
  unfold serve
  split
  · exact h
  next r rest _ =>
    split
    · have hs := settings_answer (r := r) rest (f r) s
      exact tableSound_of_settings (congrArg Settings.bucketSpread hs) (congrArg Settings.bindings hs)
        (hf r (s.taken rest) h)
    · exact h

theorem tableSound_running {f : State → State} (h : TableSound s) (hf : TableSound (f s))
    (ht : running f s = .next t) : TableSound t := by
  unfold running at ht
  split at ht <;> cases ht
  · exact h
  · exact hf

theorem tableSound_execReplyTransmitEnd (h : TableSound s) (ht : execReplyTransmitEnd s = .next t) : TableSound t := by
  refine tableSound_running h ?_ ht
  split
  · split
    · exact tableSound_of_empty rfl
    · exact h
  · exact h

theorem tableSound_execResetnRelease (h : TableSound s) (ht : execResetnRelease s = .next t) : TableSound t := by
  cases ht
  split <;> exact h

end

/-- Every command keeps the table sound: the resets empty it, CLASS_ADD, CLASS_REMOVE and the bucket spread word keep it by
their checks, and no other command changes an entry but for its hit count. -/
theorem tableSound_exec {c : Instr} {s t : State} (h : TableSound s) (ht : exec c s = .next t) : TableSound t := by
  by_cases hreset : c ∈ resetCommands
  · simp only [resetCommands, List.mem_cons, List.not_mem_nil, or_false] at hreset
    rcases hreset with rfl | rfl | rfl
    · cases ht; exact tableSound_of_empty rfl
    · cases ht; exact tableSound_of_empty rfl
    · exact tableSound_execResetnRelease h ht
  by_cases hreply : c = .replyTransmitEnd
  · subst hreply; exact tableSound_execReplyTransmitEnd h ht
  by_cases hadd : c = .classAdd
  · subst hadd
    exact tableSound_running h (tableSound_serve h fun _ _ => tableSound_addEntry) ht
  by_cases hremove : c = .classRemove
  · subst hremove
    exact tableSound_running h (tableSound_serve h fun _ _ => tableSound_removeEntry) ht
  by_cases hspread : c = .configWriteBucketSpread
  · subst hspread
    refine tableSound_running h (tableSound_serve h fun r u hu => ?_) ht
    unfold serveItem
    split
    · exact tableSound_writeBucketSpread hu
    · exact hu
  have hk : SettingsKept c s t := settingsKept_exec hreset hreply ht
  exact tableSound_of_settings (hk.bucketSpread hspread) (hk.bindings hadd hremove) h

/-- Settles O58: a millisecond leaves the classifier alone, and every command keeps the table sound. -/
theorem classificationTableStaysSound : Obligations.ClassificationTableStaysSound := by
  intro s t h hstep
  unfold step at hstep
  split at hstep
  · cases hstep
    unfold tick
    split <;> exact h
  next c rest _ => exact tableSound_exec (s := { s with pending := rest }) h hstep

end Sys2Proof.Machine
end

section
/-! Folds, chains and winners (R28, R29, R32, R34); settles O16. -/

namespace Sys2Proof.Machine

/-! ### Folds -/

section
variable {w j : Nat} {spread : BitVec 32} {t : BitVec 15}

/-- One bit of a fold over some of the tuple's bits, from a value that has been folded so far. -/
theorem getLsbD_foldl (hj : j < w) (l : List Nat) (acc : BitVec w) :
    (l.foldl (fun acc i => if t.getLsbD i then acc ^^^ (spread >>> i).setWidth w else acc) acc).getLsbD j =
      l.foldl (fun x i => x ^^ (t.getLsbD i && spread.getLsbD (i + j))) (acc.getLsbD j) := by
  induction l generalizing acc with
  | nil => rfl
  | cons i l ih =>
    rw [List.foldl_cons, List.foldl_cons, ih]
    congr 1
    cases t.getLsbD i <;> simp [hj]

theorem getLsbD_fold (hj : j < w) :
    (fold w spread t).getLsbD j =
      (List.range 15).foldl (fun x i => x ^^ (t.getLsbD i && spread.getLsbD (i + j))) false := by
  unfold fold
  rw [getLsbD_foldl hj, show (0 : BitVec w).getLsbD j = false from BitVec.getLsbD_zero]
  rfl

/-- An empty tuple takes no window. -/
theorem fold_zero_tuple : fold w spread 0 = 0 := by
  simp [fold, tupleBits]

/-- Every window of the spread word 0 is 0. -/
theorem fold_zero_spread : fold w 0 t = 0 := by
  refine BitVec.eq_of_getLsbD_eq fun j hj => ?_
  rw [getLsbD_fold hj]
  simp [List.range_succ]

end

/-! ### Winners and queries -/

section
variable {c : Classifier} {t : BitVec 15} {e : ClassEntry}

theorem mem_chain {b : BitVec 8} : e ∈ c.chain b ↔ e ∈ c.entries ∧ e.bucket = b := by
  simp [Classifier.chain]

/-- The winning entry stands in the chain of the tuple's bucket and matches the tuple (R34). -/
theorem winner_spec (h : c.winner t = some e) :
    e ∈ c.entries ∧ e.bucket = bucketIndex c.bucketSpread t ∧ e.matches t (signature c.signatureSpread t) = true := by
  obtain ⟨hmem, hbucket⟩ := mem_chain.mp (List.mem_of_find?_eq_some h)
  exact ⟨hmem, hbucket, List.find?_some (p := fun e : ClassEntry => e.matches t (signature c.signatureSpread t)) h⟩

/-- A query's data begin with the tuple's bucket and signature under the words in force (R44). -/
theorem queryData_eq (c : Classifier) (t : BitVec 15) :
    ∃ found, queryData c t =
      bucketIndex c.bucketSpread t :: bytes16 (signature c.signatureSpread t).toNat ++ found := by
  unfold queryData
  dsimp only
  split
  · exact ⟨_, rfl⟩
  · split
    · exact ⟨_, rfl⟩
    · exact ⟨_, by rw [List.append_assoc, List.append_assoc]⟩

end

/-- Settles O16: bit by bit along the tuple's positions; an entry, a winner and a query fold with the same word. -/
theorem foldsAreWindowsOfTheSpreadWord : Obligations.FoldsAreWindowsOfTheSpreadWord := by
  intro spread t
  refine ⟨fun j hj => getLsbD_fold hj, fun j hj => getLsbD_fold hj, fold_zero_tuple, fold_zero_spread, fold_zero_tuple,
    fold_zero_spread, fun a e he => (classEntryOf_spec he).2.2 t, fun c hc => ⟨fun e he => ?_, ?_⟩⟩
  · obtain ⟨hmem, hbucket, -⟩ := winner_spec he
    exact ⟨hmem, hc ▸ hbucket⟩
  · obtain ⟨found, hq⟩ := queryData_eq c t
    rw [hq, hc]
    rfl

end Sys2Proof.Machine
end

section
/-! Spread words, miss actions, profiles and routes are written whole or refused (R30, R31, R91, R171); settles O11 and O12. -/

namespace Sys2Proof.Machine

section
variable {s u : State} {r : Request} {rest : List Request} {c : Instr} {o : Owner}

/-! ### Requests by their bytes -/

/-- A CONFIG_WRITE of an item, by its argument bytes (Table 3-4). -/
theorem isItem_args {n : Nat} {i b3 b2 b1 b0 : Byte} (hcode : r.code = 1) (ha : r.args = [i, b3, b2, b1, b0])
    (hi : i.toNat = n) : isItem n r = true := by
  have hone : r.code.toNat = 1 := by rw [hcode]; rfl
  have hvalid : isCode 1 r = true := isCode_of_length hone (by rw [ha]; rfl)
  simp [isItem, hvalid, ha, natAt, byteAt, hi]

theorem serveItem_args {w : Nat → State → Answer} {i b3 b2 b1 b0 : Byte} (ha : r.args = [i, b3, b2, b1, b0])
    (hi : 1 ≤ i.toNat ∧ i.toNat ≤ 6) : serveItem w r u = w (be32 b3 b2 b1 b0) u := by
  unfold serveItem
  rw [ha]
  exact if_pos (by simpa [within, natAt, byteAt] using hi)

theorem names_item {i b3 b2 b1 b0 : Byte} (hcode : r.code = 1) (ha : r.args = [i, b3, b2, b1, b0]) (hi : i.toNat ≠ 6) :
    r.names = none := by
  unfold Request.names
  rw [hcode, ha]
  exact if_neg hi

/-- A request that names no drum and is answered OK: its owner's work, and the reply. -/
theorem exec_done_unnamed {f : State → State} (hc : ownerOf c = some o) (ho : s.offers r rest) (hm : o.mine r = true)
    (hn : r.names = none) (hr : o.serves r (s.taken rest) = ok (f (s.taken rest)))
    (hf : (f (s.taken rest)).cabinet = (s.taken rest).cabinet) :
    exec c s = .next { f (s.taken rest) with cabinet := s.replied r rest .ok [] } := by
  rw [exec_done hc ho hm hr hf, answered_of_names_none hn]
  rfl

/-! ### Spread words -/

theorem ofNat_be32 (b3 b2 b1 b0 : Byte) : BitVec.ofNat 32 (be32 b3 b2 b1 b0) = b3 ++ b2 ++ b1 ++ b0 := by
  refine BitVec.eq_of_toNat_eq ?_
  simp only [BitVec.toNat_ofNat, BitVec.toNat_append, be32, be16]
  rw [← Nat.shiftLeft_add_eq_or_of_lt b2.isLt, ← Nat.shiftLeft_add_eq_or_of_lt b1.isLt,
    ← Nat.shiftLeft_add_eq_or_of_lt b0.isLt]
  simp only [Nat.shiftLeft_eq]
  omega

/-- What a write of a spread word comes to, for either word (R30). -/
theorem exec_writeSpread {n : Nat} {i b3 b2 b1 b0 : Byte} {w : Nat → State → Answer} {f : BitVec 32 → State → State}
    (hc : ownerOf c = some ⟨isItem n, serveItem w⟩) (hi : i.toNat = n) (hn : 1 ≤ n ∧ n ≤ 5)
    (hw : ∀ v u, w v u = if u.classifier.entries.isEmpty then ok (f (BitVec.ofNat 32 v) u) else refuse .busy u)
    (hf : ∀ v u, (f v u).cabinet = u.cabinet) (ho : s.offers r rest) (hcode : r.code = 1)
    (ha : r.args = [i, b3, b2, b1, b0]) :
    (s.classifier.entries = [] →
      exec c s = .next { f (b3 ++ b2 ++ b1 ++ b0) (s.taken rest) with cabinet := s.replied r rest .ok [] }) ∧
    (s.classifier.entries ≠ [] → exec c s = .next { s with cabinet := s.replied r rest .busy [] }) := by
  have hm : isItem n r = true := isItem_args hcode ha hi
  have hnames : r.names = none := names_item hcode ha (by omega)
  have hserve : serveItem w r (s.taken rest) = w (be32 b3 b2 b1 b0) (s.taken rest) := serveItem_args ha (by omega)
  rw [hw, ofNat_be32] at hserve
  refine ⟨fun hempty => ?_, fun hused => ?_⟩
  · refine exec_done_unnamed hc ho hm hnames (hserve.trans (if_pos ?_)) (hf _ _)
    exact List.isEmpty_iff.mpr hempty
  · refine exec_refused_unnamed hc ho hm hnames (hserve.trans (if_neg ?_))
    exact fun h => hused (List.isEmpty_iff.mp h)

end

/-- Settles O11: the folds of winners, queries and the PART report, and the two writes by their owners. -/
theorem spreadWordsAreWrittenWhileTheTableIsEmpty : Obligations.SpreadWordsAreWrittenWhileTheTableIsEmpty := by
  refine ⟨fun c t => ⟨fun e he => (winner_spec he).2, ?_⟩, fun s => rfl, fun s r rest b3 b2 b1 b0 ho hcode =>
    ⟨fun ha => ?_, fun ha => ?_⟩⟩
  · obtain ⟨found, hq⟩ := queryData_eq c t
    rw [hq, List.cons_append]
    rfl
  · exact exec_writeSpread (f := fun v u => u.onClassifier fun c => { c with bucketSpread := v }) rfl rfl (by decide)
      (fun _ _ => rfl) (fun _ _ => rfl) ho hcode ha
  · exact exec_writeSpread (f := fun v u => u.onClassifier fun c => { c with signatureSpread := v }) rfl rfl (by decide)
      (fun _ _ => rfl) (fun _ _ => rfl) ho hcode ha

section
variable {s u : State} {r : Request} {rest : List Request}

/-! ### Miss actions -/

theorem writeMissAction_eq {d : Drum} {x : MissAction} (hp : drumOf (natAt r.args 3) = some d)
    (hm : missActionOf (natAt r.args 4) = some x) :
    writeMissAction r u = ok (u.onClassifier fun c => { c with miss := c.miss.set d x }) := by
  unfold writeMissAction; rw [hp, hm]

theorem writeMissAction_outOfRange (h : drumOf (natAt r.args 3) = none ∨ missActionOf (natAt r.args 4) = none) :
    writeMissAction r u = refuse .badArg u := by
  unfold writeMissAction
  split
  next hp hm => rcases h with h | h <;> simp_all
  next => rfl

theorem missActionOf_above {n : Nat} (h : 1 < n) : missActionOf n = none := by
  unfold missActionOf
  split
  case h_3 => rfl
  all_goals omega

theorem exec_configWriteMissAction {x y p m : Byte} (ho : s.offers r rest) (hcode : r.code = 1)
    (ha : r.args = [6, x, y, p, m]) :
    (∀ (d : Drum) (a : MissAction), p = byte d.val → missActionOf m.toNat = some a →
      exec .configWriteMissAction s =
        .next
          (({ s with classifier := { s.classifier with miss := s.classifier.miss.set d a } } : State).answered r rest .ok
            [])) ∧
    (3 < p.toNat ∨ 1 < m.toNat → exec .configWriteMissAction s = .next (s.answered r rest .badArg [])) := by
  have hm : isItem 6 r = true := isItem_args hcode ha rfl
  have hport : natAt r.args 3 = p.toNat := by rw [ha]; rfl
  have haction : natAt r.args 4 = m.toNat := by rw [ha]; rfl
  have hserve : serveItem (fun _ => writeMissAction r) r (s.taken rest) = writeMissAction r (s.taken rest) :=
    serveItem_args ha (by decide)
  refine ⟨fun d a hp hact => ?_, fun hout => ?_⟩
  · have hd : drumOf (natAt r.args 3) = some d := by rw [hport, hp]; exact drumOf_byte d
    have ht : missActionOf (natAt r.args 4) = some a := by rw [haction]; exact hact
    exact exec_done (f := fun u => u.onClassifier fun c => { c with miss := c.miss.set d a }) rfl ho hm
      (hserve.trans (writeMissAction_eq hd ht)) rfl
  · refine exec_refused rfl ho hm (hserve.trans (writeMissAction_outOfRange ?_))
    rw [hport, haction]
    exact hout.imp drumOf_above missActionOf_above

/-! ### Profiles -/

theorem names_profileWrite (hn : r.code.toNat = 3) : r.names = none := by
  unfold Request.names; rw [hn]; rfl

theorem writeProfile_outOfRange (h : 8 ≤ natAt r.args 0 ∨ profileOf r.args = none) :
    writeProfile r u = refuse .badArg u := by
  unfold writeProfile
  split
  · rw [h.resolve_left (by omega)]
  · rfl

theorem writeProfile_eq {n : Fin 8} {p : Profile} (hn : natAt r.args 0 = n.val) (hp : profileOf r.args = some p) :
    writeProfile r u = ok { u with profiles := u.profiles.set n p } := by
  unfold writeProfile
  rw [dif_pos (by omega), hp]
  simp only [hn]

theorem exec_profileWrite (ho : s.offers r rest) (hcode : r.code = 3) (hlen : r.args.length = 22) :
    (8 ≤ natAt r.args 0 ∨ profileOf r.args = none →
      exec .profileWrite s = .next { s with cabinet := s.replied r rest .badArg [] }) ∧
    ∀ (n : Fin 8) (p : Profile), natAt r.args 0 = n.val → profileOf r.args = some p →
      exec .profileWrite s = .next { s with profiles := s.profiles.set n p, cabinet := s.replied r rest .ok [] } := by
  have hthree : r.code.toNat = 3 := by rw [hcode]; rfl
  have hm : isCode 3 r = true := isCode_of_length hthree (by rw [hlen]; rfl)
  have hnames : r.names = none := names_profileWrite hthree
  exact ⟨fun hout => exec_refused_unnamed rfl ho hm hnames (writeProfile_outOfRange hout), fun n p hn hp =>
    exec_done_unnamed (f := fun u => { u with profiles := u.profiles.set n p }) rfl ho hm hnames (writeProfile_eq hn hp) rfl⟩

/-! ### Routes -/

theorem names_routeWrite (hn : r.code.toNat = 4) : r.names = none := by
  unfold Request.names; rw [hn]; rfl

theorem alertClassOf_above {n : Nat} (h : 3 < n) : alertClassOf n = none := by
  unfold alertClassOf
  split
  case h_5 => rfl
  all_goals omega

theorem routedActionOf_above {n : Nat} (h : 3 < n) : routedActionOf n = none := by
  unfold routedActionOf
  split
  case h_5 => rfl
  all_goals omega

theorem eventOf_above {n : Nat} (h : 29 < n) : eventOf n = none := dif_neg (by omega)

theorem writeRoute_eq {n : Fin 32} {x : Route} (hn : eventOf (natAt r.args 0) = some n) (hx : routeOf r.args = some x) :
    writeRoute r u = ok (u.onRouter fun t => { t with routes := t.routes.set n x }) := by
  unfold writeRoute; rw [hn, hx]

theorem writeRoute_outOfRange (h : eventOf (natAt r.args 0) = none ∨ routeOf r.args = none) :
    writeRoute r u = refuse .badArg u := by
  unfold writeRoute
  split
  next he hr => rcases h with h | h <;> simp_all
  next => rfl

theorem routeOf_none {a : List Byte} (h : alertClassOf (natAt a 1) = none ∨ routedActionOf (natAt a 3) = none) :
    routeOf a = none := by
  unfold routeOf
  split
  next hk hx => rcases h with h | h <;> simp_all
  next => rfl

theorem exec_routeWrite {code cls line act : Byte} (ho : s.offers r rest) (hcode : r.code = 4)
    (ha : r.args = [code, cls, line, act]) :
    (29 < code.toNat ∨ 3 < cls.toNat ∨ 3 < act.toNat →
      exec .routeWrite s = .next { s with cabinet := s.replied r rest .badArg [] }) ∧
    ∀ (n : Fin 32) (k : AlertClass) (x : RoutedAction), n.val ≤ 29 → code = byte n.val →
      alertClassOf cls.toNat = some k → routedActionOf act.toNat = some x →
      exec .routeWrite s =
        .next
          { s with
            router := { s.router with routes := s.router.routes.set n ⟨k, line.getLsbD 0, x⟩ }
            cabinet := s.replied r rest .ok [] } := by
  have hfour : r.code.toNat = 4 := by rw [hcode]; rfl
  have hm : isCode 4 r = true := isCode_of_length hfour (by rw [ha]; rfl)
  have hnames : r.names = none := names_routeWrite hfour
  have hevent : natAt r.args 0 = code.toNat := by rw [ha]; rfl
  have hclass : natAt r.args 1 = cls.toNat := by rw [ha]; rfl
  have haction : natAt r.args 3 = act.toNat := by rw [ha]; rfl
  have hline : byteAt r.args 2 = line := by rw [ha]; rfl
  refine ⟨fun hout => exec_refused_unnamed rfl ho hm hnames (writeRoute_outOfRange ?_), fun n k x hn hc hk hx => ?_⟩
  · refine hout.imp (fun h => eventOf_above (by omega)) fun h => routeOf_none ?_
    exact h.imp (fun h => alertClassOf_above (by omega)) fun h => routedActionOf_above (by omega)
  · have hval : natAt r.args 0 = n.val := by rw [hevent, hc, byte, BitVec.toNat_ofNat]; omega
    have he : eventOf (natAt r.args 0) = some n := by rw [hval]; exact dif_pos hn
    have hroute : routeOf r.args = some ⟨k, line.getLsbD 0, x⟩ := by
      unfold routeOf; rw [hclass, haction, hk, hx, hline]
    exact exec_done_unnamed
      (f := fun u => u.onRouter fun t => { t with routes := t.routes.set n ⟨k, line.getLsbD 0, x⟩ }) rfl ho hm hnames
      (writeRoute_eq he hroute) rfl

end

theorem alertClassOf_coded {cls : Byte} {k : AlertClass}
    (h : (cls, k) ∈ [((0 : Byte), AlertClass.none), (1, .notice), (2, .warning), (3, .fault)]) :
    alertClassOf cls.toNat = some k := by
  simp only [List.mem_cons, Prod.mk.injEq, List.not_mem_nil, or_false] at h
  rcases h with ⟨rfl, rfl⟩ | ⟨rfl, rfl⟩ | ⟨rfl, rfl⟩ | ⟨rfl, rfl⟩ <;> rfl

theorem routedActionOf_coded {act : Byte} {x : RoutedAction}
    (h : (act, x) ∈ [((0 : Byte), RoutedAction.none), (1, .pause), (2, .endHeat), (3, .halt)]) :
    routedActionOf act.toNat = some x := by
  simp only [List.mem_cons, Prod.mk.injEq, List.not_mem_nil, or_false] at h
  rcases h with ⟨rfl, rfl⟩ | ⟨rfl, rfl⟩ | ⟨rfl, rfl⟩ | ⟨rfl, rfl⟩ <;> rfl

/-- Settles O12: each owner reads its value and writes it whole, or refuses. -/
theorem missActionsProfilesAndRoutesAreReplaced : Obligations.MissActionsProfilesAndRoutesAreReplaced := by
  refine ⟨fun s r rest x y p m ho hcode ha => ?_, fun s r rest ho hcode hlen => exec_profileWrite ho hcode hlen,
    fun s r rest code cls line act ho hcode ha => ?_⟩
  · obtain ⟨hset, hout⟩ := exec_configWriteMissAction ho hcode ha
    exact ⟨fun d hp => ⟨fun hm => hset d _ hp (by rw [hm]; rfl), fun hm => hset d _ hp (by rw [hm]; rfl)⟩, hout⟩
  · obtain ⟨hout, hset⟩ := exec_routeWrite ho hcode ha
    exact ⟨hout, fun n k x hn hc hk hx => hset n k x hn hc (alertClassOf_coded hk) (routedActionOf_coded hx)⟩

end Sys2Proof.Machine
end

section
/-! CLASS_ADD and CLASS_REMOVE by their checks (R41, R42, R43); settles O17 and O18. -/

namespace Sys2Proof.Machine

section
variable {s u : State} {r : Request} {rest : List Request} {c : Instr} {o : Owner} {e : ClassEntry} {n : Nat}

/-- A request that its owner answers OK with data, its work done and the cabinet record untouched. -/
theorem exec_done_data {f : State → State} {data : List Byte} (hc : ownerOf c = some o) (ho : s.offers r rest)
    (hm : o.mine r = true) (hr : o.serves r (s.taken rest) = ⟨f (s.taken rest), .ok, data⟩)
    (hf : (f (s.taken rest)).cabinet = (s.taken rest).cabinet) :
    exec c s = .next (((f (s.taken rest)).onCabinet fun _ => s.cabinet).answered r rest .ok data) := by
  rw [exec_offered hc ho hm, answer_of_cabinet _ (by rw [hr]; exact hf), hr]
  rfl

/-! ### Entries by number -/

theorem entry?_isSome {c : Classifier} : (c.entry? n).isSome = true ↔ ∃ x ∈ c.entries, x.number = n := by
  simp [Classifier.entry?]

theorem entry?_eq_none {c : Classifier} : c.entry? n = none ↔ ∀ x ∈ c.entries, x.number ≠ n := by
  simp [Classifier.entry?]

/-- Numbers are distinct, so the entry of a number is the one that stands in the list. -/
theorem entry?_of_split {c : Classifier} {before after : List ClassEntry} (h : c.entries = before ++ e :: after)
    (hnum : (c.entries.map (·.number)).Nodup) : c.entry? e.number = some e := by
  rw [h, List.map_append, List.map_cons, List.nodup_append] at hnum
  obtain ⟨-, -, hdisjoint⟩ := hnum
  have hbefore : before.find? (fun x => x.number == e.number) = none := by
    rw [List.find?_eq_none]
    intro x hx
    simpa using hdisjoint x.number (List.mem_map_of_mem hx) e.number (by simp)
  unfold Classifier.entry?
  rw [h, List.find?_append, hbefore]
  simp

/-- Unlinking by number takes the one entry out; the others keep their order (R43). -/
theorem filter_number_of_split {l before after : List ClassEntry} (h : l = before ++ e :: after)
    (hnum : (l.map (·.number)).Nodup) : (l.filter fun x => x.number != e.number) = before ++ after := by
  subst h
  rw [List.map_append, List.map_cons, List.nodup_append, List.nodup_cons] at hnum
  obtain ⟨-, ⟨hafter, -⟩, hbefore⟩ := hnum
  rw [List.filter_append, List.filter_cons_of_neg (by simp), List.filter_eq_self.mpr, List.filter_eq_self.mpr]
  · intro x hx
    have hne : x.number ≠ e.number := fun hx' => hafter (hx' ▸ List.mem_map_of_mem hx)
    simpa using hne
  · intro x hx
    simpa using hbefore x.number (List.mem_map_of_mem hx) e.number (by simp)

/-! ### CLASS_ADD -/

theorem addEntry_badArg (h : classEntryOf r.args u.classifier.bucketSpread = none) :
    addEntry r u = refuse .badArg u := by
  unfold addEntry; rw [h]

section
variable (he : classEntryOf r.args u.classifier.bucketSpread = some e)
include he

theorem addEntry_inUse (h : ∃ x ∈ u.classifier.entries, x.number = e.number) : addEntry r u = refuse .inUse u := by
  unfold addEntry
  rw [he]
  exact if_pos (entry?_isSome.mpr h)

variable (hfree : ∀ x ∈ u.classifier.entries, x.number ≠ e.number)
include hfree

/-- Past the check of the number. -/
theorem addEntry_free :
    addEntry r u =
      if u.classifier.entries.any fun x => x.duplicates e then refuse .duplicate u
      else if 8 ≤ (u.classifier.chain e.bucket).length then refuse .chainFull u
      else
        ⟨u.onClassifier fun c => { c with entries := c.entries ++ [e] }, .ok,
          [e.bucket, byte ((u.classifier.chain e.bucket).length + 1)]⟩ := by
  have hnone : ¬(u.classifier.entry? e.number).isSome = true := by
    rw [entry?_eq_none.mpr hfree]; exact Bool.false_ne_true
  unfold addEntry
  rw [he]
  exact if_neg hnone

theorem addEntry_duplicate (h : ∃ x ∈ u.classifier.entries, x.duplicates e = true) :
    addEntry r u = refuse .duplicate u :=
  (addEntry_free he hfree).trans (if_pos (List.any_eq_true.mpr h))

variable (hnew : ∀ x ∈ u.classifier.entries, x.duplicates e = false)
include hnew

/-- Past the check for a duplicate. -/
theorem addEntry_new :
    addEntry r u =
      if 8 ≤ (u.classifier.chain e.bucket).length then refuse .chainFull u
      else
        ⟨u.onClassifier fun c => { c with entries := c.entries ++ [e] }, .ok,
          [e.bucket, byte ((u.classifier.chain e.bucket).length + 1)]⟩ :=
  (addEntry_free he hfree).trans (if_neg (by simpa using hnew))

end

end

/-- Settles O17, check by check. -/
theorem classAddChecksThenPlacesAtTheTail : Obligations.ClassAddChecksThenPlacesAtTheTail := by
  intro s r rest ho hcode hlen
  have hm : isCode 5 r = true := isCode_of_length (by rw [hcode]; rfl) (by rw [hlen]; rfl)
  refine ⟨fun hnone => exec_refused rfl ho hm (addEntry_badArg hnone), fun e he => ⟨(classEntryOf_spec he).2.1,
    fun hused => exec_refused rfl ho hm (addEntry_inUse he hused),
    fun hfree hdup => exec_refused rfl ho hm (addEntry_duplicate he hfree hdup), fun hfree hnew =>
    ⟨fun hfull => ?_, fun hroom => ?_⟩⟩⟩
  · exact exec_refused rfl ho hm ((addEntry_new (u := s.taken rest) he hfree hnew).trans (if_pos hfull))
  · exact exec_done_data (f := fun u => u.onClassifier fun c => { c with entries := c.entries ++ [e] }) rfl ho hm
      ((addEntry_new (u := s.taken rest) he hfree hnew).trans (if_neg (not_le.mpr hroom))) rfl

section
variable {s u : State} {r : Request} {rest : List Request} {e : ClassEntry}

/-! ### CLASS_REMOVE -/

theorem names_classRemove (hn : r.code.toNat = 6) : r.names = none := by
  unfold Request.names; rw [hn]; rfl

theorem withCycle_iff {c : CycleState} :
    c.withCycle = true ↔ c ∈ [CycleState.ready, .purge, .drying, .cooling, .guarding, .paused] := by
  cases c <;> decide

theorem withCycle_of_idle {c : CycleState} (h : c ∈ [CycleState.vacant, .done, .halted]) : c.withCycle = false := by
  simp only [List.mem_cons, List.not_mem_nil, or_false] at h
  rcases h with rfl | rfl | rfl <;> rfl

theorem mem_drums (d : Drum) : d ∈ drums := by
  revert d; decide

/-- A status role on which a drum with a cycle depends (R43). -/
theorem roleBusy_iff :
    roleBusy e u = true ↔
      (e.role = .driveStatus ∨ e.role = .flameStatus) ∧
        ∃ d, e.serves d = true ∧ (u.drum d).cycle.state.withCycle = true := by
  simp [roleBusy, mem_drums]

section
variable {hi lo : Byte} (ha : r.args = [hi, lo])
include ha

theorem removeEntry_badArg (h : 511 < be16 hi lo) : removeEntry r u = refuse .badArg u := by
  unfold removeEntry
  rw [ha]
  exact if_pos h

theorem removeEntry_notFound (h : be16 hi lo ≤ 511) (hnone : u.classifier.entry? (be16 hi lo) = none) :
    removeEntry r u = refuse .notFound u := by
  have hnum : nat16At r.args 0 = be16 hi lo := by rw [ha]; rfl
  unfold removeEntry
  dsimp only
  rw [hnum, if_neg (by omega), hnone]

theorem removeEntry_found (h : be16 hi lo ≤ 511) (he : u.classifier.entry? (be16 hi lo) = some e) :
    removeEntry r u =
      if roleBusy e u then refuse .roleBusy u
      else
        ⟨u.onClassifier fun c => { c with entries := c.entries.filter fun x => x.number != be16 hi lo }, .ok,
          bytes16 e.hits⟩ := by
  have hnum : nat16At r.args 0 = be16 hi lo := by rw [ha]; rfl
  unfold removeEntry
  dsimp only
  rw [hnum, if_neg (by omega), he]

end

end

/-- Settles O18: the checks in order; the numbers of a sound table are distinct, so one entry leaves. -/
theorem classRemoveUnlinksTheEntry : Obligations.ClassRemoveUnlinksTheEntry := by
  intro s r rest hi lo ho hcode ha
  have hsix : r.code.toNat = 6 := by rw [hcode]; rfl
  have hm : isCode 6 r = true := isCode_of_length hsix (by rw [ha]; rfl)
  have hnames : r.names = none := names_classRemove hsix
  refine ⟨fun habove => exec_refused_unnamed rfl ho hm hnames (removeEntry_badArg ha habove), fun hle hfree =>
    exec_refused_unnamed rfl ho hm hnames (removeEntry_notFound ha hle (entry?_eq_none.mpr hfree)),
    fun before e after hsplit hnum hle hsound => ?_⟩
  have hnumbers := (tableSound_iff.mp hsound).numbers
  have hfound : s.classifier.entry? (be16 hi lo) = some e := hnum ▸ entry?_of_split hsplit hnumbers
  have hfilter := filter_number_of_split hsplit hnumbers
  have hremove := removeEntry_found (u := s.taken rest) ha (hnum ▸ hle) hfound
  refine ⟨fun hrole ⟨d, hserves, hcycle⟩ => ?_, fun hidle => ?_⟩
  · have hbusy : roleBusy e (s.taken rest) = true := roleBusy_iff.mpr ⟨hrole, d, hserves, withCycle_iff.mpr hcycle⟩
    exact exec_refused_unnamed rfl ho hm hnames (hremove.trans (if_pos hbusy))
  · have hbusy : ¬roleBusy e (s.taken rest) = true := by
      rw [roleBusy_iff]
      rintro ⟨hrole, d, hserves, hcycle⟩
      rcases hidle with ⟨hdrive, hflame⟩ | hidle
      · exact hrole.elim hdrive hflame
      · exact absurd hcycle (by rw [drum_taken, withCycle_of_idle (hidle d hserves)]; exact Bool.false_ne_true)
    rw [if_neg hbusy, ← hnum] at hremove
    rw [exec_done_data (f := fun u => u.onClassifier fun c =>
      { c with entries := c.entries.filter fun x => x.number != e.number }) rfl ho hm hremove rfl,
      answered_of_names_none hnames, ← hfilter]
    rfl

end Sys2Proof.Machine
end

section
/-! Measurements and lookups (R34 to R40); settles O19. -/

namespace Sys2Proof.Machine

/-! ### Measurements -/

section
variable {e : ClassEntry} {f : HandedFrame} {hi lo : Byte} {before after : List Byte}

theorem be16_lt (hi lo : Byte) : be16 hi lo < 65536 := by
  have := hi.isLt
  have := lo.isLt
  unfold be16; omega

theorem signed16_eq_toInt {n : Nat} (h : n < 65536) : signed16 n = (BitVec.ofNat 16 n).toInt := by
  unfold signed16
  rw [BitVec.toInt_eq_toNat_cond, BitVec.toNat_ofNat]
  split <;> omega

theorem nat16At_append (hi lo : Byte) (before after : List Byte) :
    nat16At (before ++ hi :: lo :: after) before.length = be16 hi lo := by
  simp [nat16At, byteAt]

theorem measurement_skipped (h : f.kind ≠ 1 ∨ f.payload.length < 2 * e.valueIndex + 2) : measurement e f = none :=
  if_pos h

/-- The value at an entry's index in the payload of a frame long enough to hold it. -/
theorem nat16At_payload (hp : f.payload = before ++ hi :: lo :: after) (hl : before.length = 2 * e.valueIndex) :
    nat16At f.payload (2 * e.valueIndex) = be16 hi lo := by
  rw [hp, ← hl, nat16At_append]

section
variable (hk : f.kind = 1) (hp : f.payload = before ++ hi :: lo :: after) (hl : before.length = 2 * e.valueIndex)
include hk hp hl

theorem measurement_read : ¬(f.kind ≠ 1 ∨ f.payload.length < 2 * e.valueIndex + 2) := by
  rw [hp, List.length_append, List.length_cons, List.length_cons]
  omega

theorem measurement_of_no_role (h : e.role ∈ [Role.none, .driveStatus, .flameStatus]) : measurement e f = none := by
  simp only [List.mem_cons, List.not_mem_nil, or_false] at h
  unfold measurement
  rw [if_neg (measurement_read hk hp hl)]
  rcases h with h | h | h <;> rw [h]

theorem measurement_of_temperature {x : Int}
    (hx : x = ((BitVec.ofNat 16 (be16 hi lo)).toInt * e.gain).tdiv 256 + e.offset) :
    (e.role = .inletTemp → measurement e f = some (.inletTemp ⟨max (-32768) (min 32767 x), f.arrival⟩)) ∧
    (e.role = .exhaustTemp → measurement e f = some (.exhaustTemp ⟨max (-32768) (min 32767 x), f.arrival⟩)) := by
  have hscale : e.scale (signed16 (be16 hi lo)) = x := by rw [hx, signed16_eq_toInt (be16_lt hi lo)]; rfl
  unfold measurement
  rw [if_neg (measurement_read hk hp hl), nat16At_payload hp hl]
  dsimp only
  rw [hscale]
  constructor <;> intro hrole <;> rw [hrole] <;> rfl

theorem measurement_of_count {x : Int} (hx : x = ((be16 hi lo : Int) * e.gain).tdiv 256 + e.offset) :
    (e.role = .motorCurrent →
      measurement e f = some (.motorCurrent (max 0 (min 65535 x)).toNat f.arrival)) ∧
    (e.role = .wetCount → measurement e f = some (.wetCount (max 0 (min 255 x)).toNat f.arrival)) := by
  have hscale : e.scale (be16 hi lo) = x := by rw [hx]; rfl
  unfold measurement
  rw [if_neg (measurement_read hk hp hl), nat16At_payload hp hl]
  dsimp only
  rw [hscale]
  constructor <;> intro hrole <;> rw [hrole] <;> rfl

end

/-- A value comes from a role that measures (R36). -/
theorem role_of_measurement {a : Absorbed} (h : measurement e f = some a) :
    e.role ∉ [Role.none, .driveStatus, .flameStatus] := by
  unfold measurement at h
  split at h
  · cases h
  · intro hrole
    simp only [List.mem_cons, List.not_mem_nil, or_false] at hrole
    rcases hrole with hrole | hrole | hrole <;> rw [hrole] at h <;> cases h

end

section
variable {s u : State} {d : Drum} {e : ClassEntry} {f : HandedFrame} {a : Absorbed} {node : Nat}

/-! ### The absorb part (R36, R37) -/

theorem absorbPart_of_no_role (h : e.role = .none) : absorbPart e f u = u := by
  unfold absorbPart; rw [h]

/-- A measured value is handed to the frame's drum. -/
theorem absorbPart_of_measurement (h : measurement e f = some a) : absorbPart e f u = handAbsorbed f.port a u := by
  have hrole := role_of_measurement h
  unfold absorbPart
  dsimp only
  split
  case h_1 hr | h_2 hr | h_3 hr => rw [hr] at hrole; simp at hrole
  all_goals rw [h]

/-- Without a value the absorb part of an entry with no status role is skipped. -/
theorem absorbPart_of_unmeasured (hdrive : e.role ≠ .driveStatus) (hflame : e.role ≠ .flameStatus)
    (h : measurement e f = none) : absorbPart e f u = u := by
  unfold absorbPart
  dsimp only
  split
  case h_1 => rfl
  case h_2 hr => exact absurd hr hdrive
  case h_3 hr => exact absurd hr hflame
  all_goals rw [h]

theorem absorbPart_of_driveStatus (h : e.role = .driveStatus) :
    absorbPart e f u = handStatus f (u.drum f.port).config.motorNode ((driveStatOf f).map .driveStat) u := by
  unfold absorbPart; rw [h]

theorem absorbPart_of_flameStatus (h : e.role = .flameStatus) :
    absorbPart e f u = handStatus f (u.drum f.port).config.burnerNode ((flameStatOf f).map .flameStat) u := by
  unfold absorbPart; rw [h]

theorem handStatus_bound (hnode : node ≠ 0) (hsource : f.source = node) :
    handStatus f node (some a) u = handAbsorbed f.port a u :=
  if_pos ⟨hnode, hsource⟩

theorem handStatus_mismatch (h : node = 0 ∨ f.source ≠ node) :
    handStatus f node (some a) u = raise .classifier .bindingMismatch f.port (some (byte f.source)) u :=
  if_neg (by tauto)

/-! ### What a lookup leaves alone -/

/-- What neither part of a lookup's outcome touches. -/
def State.unlooked (s : State) : Vector DrumState 4 × Heat × Classifier × List HandedFrame :=
  (s.drums, s.heat, s.classifier, s.flight.frames)

theorem unlooked_handStatus (b : Option Absorbed) : (handStatus f node b u).unlooked = u.unlooked := by
  unfold handStatus
  split
  · rfl
  · split <;> rfl

theorem unlooked_absorbPart : (absorbPart e f u).unlooked = u.unlooked := by
  unfold absorbPart
  dsimp only
  split
  case h_1 => rfl
  case h_2 | h_3 => exact unlooked_handStatus _
  all_goals split <;> rfl

theorem cabinet_absorbPart : (absorbPart e f u).cabinet = u.cabinet := by
  have hstatus (node : Nat) (b : Option Absorbed) : (handStatus f node b u).cabinet = u.cabinet := by
    unfold handStatus
    split
    · rfl
    · split <;> rfl
  unfold absorbPart
  dsimp only
  split
  case h_1 => rfl
  case h_2 | h_3 => exact hstatus _ _
  all_goals split <;> rfl

/-! ### The forward part (R39) -/

theorem forwardPart_room {n : Option Nat} (h : u.cabinet.forwards.length < 32) :
    forwardPart n f u =
      u.onCabinet fun c => { c with forwards := c.forwards ++ [⟨f.port, n, n.isNone, !f.passed, f.arrival, f.bytes⟩] } :=
  if_pos h

theorem forwardPart_full {n : Option Nat} (h : 32 ≤ u.cabinet.forwards.length) :
    forwardPart n f u = raise .classifier .forwardOverrun f.port none u :=
  if_neg (not_lt.mpr h)

theorem unlooked_forwardPart (n : Option Nat) (f : HandedFrame) (u : State) :
    (forwardPart n f u).unlooked = u.unlooked := by
  unfold forwardPart; split <;> rfl

theorem absorbs_forwardPart (n : Option Nat) (f : HandedFrame) (u : State) :
    (forwardPart n f u).flight.absorbs = u.flight.absorbs := by
  unfold forwardPart; split <;> rfl

/-- The forward part takes no event away. -/
theorem events_forwardPart (n : Option Nat) (f : HandedFrame) (u : State) :
    ∃ more, (forwardPart n f u).flight.events = u.flight.events ++ more := by
  unfold forwardPart
  split
  · exact ⟨[], (List.append_nil _).symm⟩
  · exact ⟨_, rfl⟩

/-! ### The outcome of a match (R35) -/

/-- The state after the absorb part of a match, which a frame that failed its check skips (R35). -/
def afterAbsorb (e : ClassEntry) (f : HandedFrame) (u : State) : State := if f.passed then absorbPart e f u else u

theorem matched_absorb (h : e.action = .absorb) : matched e f u = afterAbsorb e f u := by
  unfold matched; rw [h]; rfl

theorem matched_forward (h : e.action = .forward) : matched e f u = forwardPart (some e.number) f u := by
  unfold matched; rw [h]

theorem matched_both (h : e.action = .both) :
    matched e f u = forwardPart (some e.number) f (afterAbsorb e f u) := by
  unfold matched; rw [h]; rfl

theorem matched_drop (h : e.action = .drop) : matched e f u = u := by
  unfold matched; rw [h]

theorem unlooked_afterAbsorb : (afterAbsorb e f u).unlooked = u.unlooked := by
  unfold afterAbsorb
  split
  · exact unlooked_absorbPart
  · rfl

theorem cabinet_afterAbsorb : (afterAbsorb e f u).cabinet = u.cabinet := by
  unfold afterAbsorb
  split
  · exact cabinet_absorbPart
  · rfl

theorem unlooked_matched : (matched e f u).unlooked = u.unlooked := by
  cases h : e.action
  case absorb => rw [matched_absorb h, unlooked_afterAbsorb]
  case forward => rw [matched_forward h, unlooked_forwardPart]
  case both => rw [matched_both h, unlooked_forwardPart, unlooked_afterAbsorb]
  case drop => rw [matched_drop h]

theorem cabinet_matched (h : e.action = .absorb ∨ e.action = .drop) : (matched e f u).cabinet = u.cabinet := by
  rcases h with h | h
  · rw [matched_absorb h, cabinet_afterAbsorb]
  · rw [matched_drop h]

/-- A forwarded match offers its record to the forward queue last. -/
theorem matched_forwards (h : e.action = .forward ∨ e.action = .both) :
    ∃ v, matched e f u = forwardPart (some e.number) f v ∧ v.cabinet = u.cabinet ∧ v.clock = u.clock := by
  rcases h with h | h
  · exact ⟨u, matched_forward h, rfl, rfl⟩
  · refine ⟨afterAbsorb e f u, matched_both h, cabinet_afterAbsorb, ?_⟩
    unfold afterAbsorb
    split
    · exact congrArg Settings.clock (settings_absorbPart e f u)
    · rfl

theorem matched_room (h : e.action = .forward ∨ e.action = .both) (hroom : u.cabinet.forwards.length < 32) :
    (matched e f u).cabinet =
      { u.cabinet with
        forwards := u.cabinet.forwards ++ [⟨f.port, some e.number, false, !f.passed, f.arrival, f.bytes⟩] } := by
  obtain ⟨v, hv, hcab, -⟩ := matched_forwards (f := f) (u := u) h
  rw [hv, forwardPart_room (by rw [hcab]; exact hroom), cabinet_onCabinet, hcab]
  rfl

theorem matched_full (h : e.action = .forward ∨ e.action = .both) (hfull : 32 ≤ u.cabinet.forwards.length) :
    (matched e f u).cabinet = u.cabinet ∧
      (⟨.classifier, .forwardOverrun, f.port, u.clock, none⟩ : Event) ∈ (matched e f u).flight.events := by
  obtain ⟨v, hv, hcab, hclock⟩ := matched_forwards (f := f) (u := u) h
  rw [hv, forwardPart_full (by rw [hcab]; exact hfull), events_raise, hclock]
  exact ⟨hcab, by simp⟩

/-- Nothing is handed on by a frame that failed its check, an action without an absorb part or a role NONE. -/
theorem absorbs_matched_of_skipped (h : f.passed = false ∨ e.action = .forward ∨ e.action = .drop ∨ e.role = .none) :
    (matched e f u).flight.absorbs = u.flight.absorbs := by
  have hskipped (h : f.passed = false ∨ e.role = .none) : afterAbsorb e f u = u := by
    unfold afterAbsorb
    rcases h with h | h
    · rw [h]; rfl
    · rw [absorbPart_of_no_role h, ite_self]
  cases ha : e.action
  case forward => rw [matched_forward ha, absorbs_forwardPart]
  case drop => rw [matched_drop ha]
  case absorb => rw [matched_absorb ha, hskipped (by simpa [ha] using h)]
  case both => rw [matched_both ha, absorbs_forwardPart, hskipped (by simpa [ha] using h)]

/-- A passed frame of an action with an absorb part hands on what the absorb part hands on, its events included. -/
theorem matched_absorbs (hp : f.passed = true) (h : e.action = .absorb ∨ e.action = .both) :
    (matched e f u).flight.absorbs = (absorbPart e f u).flight.absorbs ∧
      ∀ ev ∈ (absorbPart e f u).flight.events, ev ∈ (matched e f u).flight.events := by
  have hafter : afterAbsorb e f u = absorbPart e f u := if_pos hp
  rcases h with h | h
  · rw [matched_absorb h, hafter]
    exact ⟨rfl, fun _ => id⟩
  · obtain ⟨more, hmore⟩ := events_forwardPart (some e.number) f (absorbPart e f u)
    rw [matched_both h, hafter, hmore]
    exact ⟨absorbs_forwardPart _ _ _, fun ev hev => List.mem_append_left more hev⟩

/-! ### Lookups (R34, R38, R40) -/

/-- The state with these handed frames left to be looked up. -/
def State.withFrames (s : State) (frames : List HandedFrame) : State := s.onFlight fun w => { w with frames := frames }

/-- The state in which the classifier carries out the outcome of its frame: the frame taken, the winner's hit counted. -/
def lookedUp (frames : List HandedFrame) (n : Nat) (s : State) : State :=
  (s.withFrames frames).onClassifier fun c => c.hit n

section
variable {before after : List HandedFrame} (hsplit : s.flight.frames = before ++ f :: after) (hport : f.port = d)
  (hfirst : ∀ x ∈ before, x.port ≠ d)
include hsplit hport hfirst

/-- A port's frames are taken oldest first (R40). -/
theorem exec_lookup (hrun : s.resetHeld = false) :
    exec (.lookup d) s = .next (lookUp f (s.withFrames (before ++ after))) := by
  have holdest : s.flight.frames.find? (fun f => f.port == d) = some f := by
    have hnone : before.find? (fun f => f.port == d) = none := by
      rw [List.find?_eq_none]; simpa using hfirst
    rw [hsplit, List.find?_append, hnone]
    simp [hport]
  have htaken : (s.onFlight fun w => { w with frames := w.frames.erase f }) = s.withFrames (before ++ after) := by
    unfold State.withFrames State.onFlight
    dsimp only
    rw [hsplit, List.erase_append_right _ fun h => hfirst f h hport, List.erase_cons_head]
  show execLookup d s = _
  unfold execLookup
  rw [running_released _ hrun, holdest]
  dsimp only
  rw [htaken]

theorem exec_lookup_winner (hrun : s.resetHeld = false) (hwin : s.classifier.winner f.tuple = some e) :
    exec (.lookup d) s = .next (matched e f (lookedUp (before ++ after) e.number s)) := by
  rw [exec_lookup hsplit hport hfirst hrun]
  unfold lookUp
  rw [show (s.withFrames (before ++ after)).classifier = s.classifier from rfl, hwin]
  rfl

theorem exec_lookup_miss (hrun : s.resetHeld = false) (hmiss : s.classifier.winner f.tuple = none) :
    exec (.lookup d) s = .next (missed f (s.withFrames (before ++ after))) := by
  rw [exec_lookup hsplit hport hfirst hrun]
  unfold lookUp
  rw [show (s.withFrames (before ++ after)).classifier = s.classifier from rfl, hmiss]

end

theorem exec_lookup_idle (hrun : s.resetHeld = false) (h : ∀ f ∈ s.flight.frames, f.port ≠ d) :
    exec (.lookup d) s = .next s := by
  have hnone : s.flight.frames.find? (fun f => f.port == d) = none := by
    rw [List.find?_eq_none]; simpa using h
  show execLookup d s = _
  unfold execLookup
  rw [running_released _ hrun, hnone]

/-! ### Misses (R38) -/

theorem unlooked_missed : (missed f u).unlooked = u.unlooked := by
  unfold missed
  dsimp only
  split
  · rw [unlooked_forwardPart]; rfl
  · rfl

theorem absorbs_missed : (missed f u).flight.absorbs = u.flight.absorbs := by
  unfold missed
  dsimp only
  split
  · rw [absorbs_forwardPart]; rfl
  · rfl

/-- CLASS_MISS is raised first (log 41). -/
theorem events_missed :
    ∃ more, (missed f u).flight.events =
      u.flight.events ++ ⟨.classifier, .classMiss, f.port, u.clock, some (byte f.source)⟩ :: more := by
  unfold missed
  dsimp only
  split
  · obtain ⟨more, hmore⟩ := events_forwardPart none f
      (raise .classifier .classMiss f.port (some (byte f.source)) u)
    exact ⟨more, by rw [hmore, events_raise, List.append_assoc]; rfl⟩
  · exact ⟨[], rfl⟩

theorem missed_drop (h : u.classifier.miss[f.port] = .drop) : (missed f u).cabinet = u.cabinet := by
  unfold missed
  rw [h]
  rfl

theorem missed_forward (h : u.classifier.miss[f.port] = .forwardMarked) (hroom : u.cabinet.forwards.length < 32) :
    (missed f u).cabinet =
      { u.cabinet with
        forwards := u.cabinet.forwards ++ [⟨f.port, none, true, !f.passed, f.arrival, f.bytes⟩] } := by
  unfold missed
  rw [h]
  dsimp only
  rw [forwardPart_room (u := raise .classifier .classMiss f.port (some (byte f.source)) u) hroom]
  rfl

/-- What a status role makes of its frame's content (R37). -/
theorem absorbPart_of_status
    (h : e.role = .driveStatus ∧ node = (u.drum f.port).config.motorNode ∧ (driveStatOf f).map .driveStat = some a ∨
      e.role = .flameStatus ∧ node = (u.drum f.port).config.burnerNode ∧ (flameStatOf f).map .flameStat = some a) :
    absorbPart e f u = handStatus f node (some a) u := by
  rcases h with ⟨hrole, hnode, ha⟩ | ⟨hrole, hnode, ha⟩
  · rw [absorbPart_of_driveStatus hrole, ← hnode, ha]
  · rw [absorbPart_of_flameStatus hrole, ← hnode, ha]

end

/-- Settles O19: the measurement by its role; a lookup by its winner's action and role, or by the miss action. -/
theorem lookupsActOnTheFirstMatch : Obligations.LookupsActOnTheFirstMatch := by
  refine ⟨fun e f => ⟨measurement_skipped, fun before hi lo after hk hp hl => ⟨measurement_of_no_role hk hp hl,
    fun x hx => measurement_of_temperature hk hp hl hx, fun x hx => measurement_of_count hk hp hl hx⟩⟩,
    fun s d hrun => ⟨exec_lookup_idle hrun, fun before f after hsplit hport hfirst => ?_⟩⟩
  refine ⟨fun e hwin => ⟨_, exec_lookup_winner hsplit hport hfirst hrun hwin, ?_⟩,
    fun hmiss => ⟨_, exec_lookup_miss hsplit hport hfirst hrun hmiss, ?_⟩⟩
  · subst hport
    set u := lookedUp (before ++ after) e.number s
    obtain ⟨hdrums, hheat, hclass, hframes⟩ : _ ∧ _ ∧ _ ∧ _ := by
      simpa [State.unlooked] using unlooked_matched (e := e) (f := f) (u := u)
    refine ⟨hdrums, hheat, hframes, hclass, cabinet_matched, fun h => ⟨matched_room (u := u) h, matched_full (u := u) h⟩,
      absorbs_matched_of_skipped, fun hp h => ?_⟩
    obtain ⟨habsorbs, hevents⟩ := matched_absorbs (u := u) hp h
    rw [habsorbs]
    refine ⟨fun a ha => ?_, fun hdrive hflame hnone => ?_, fun hrole hnone => ?_, fun hrole hnone => ?_,
      fun node a hst => ?_⟩
    · rw [absorbPart_of_measurement ha]; rfl
    · rw [absorbPart_of_unmeasured hdrive hflame hnone]; rfl
    · rw [absorbPart_of_driveStatus hrole, hnone]; rfl
    · rw [absorbPart_of_flameStatus hrole, hnone]; rfl
    · have hpart := absorbPart_of_status (u := u) hst
      refine ⟨fun hnode hsource => ?_, fun hout => ?_⟩
      · rw [hpart, handStatus_bound hnode hsource]; rfl
      · rw [hpart, handStatus_mismatch hout] at hevents ⊢
        exact ⟨rfl, hevents _ (by rw [events_raise]; exact List.mem_append_right _ (List.mem_singleton.mpr rfl))⟩
  · subst hport
    obtain ⟨hdrums, hheat, hclass, hframes⟩ : _ ∧ _ ∧ _ ∧ _ := by
      simpa [State.unlooked] using
        unlooked_missed (f := f) (u := s.withFrames (before ++ after))
    exact ⟨hdrums, hheat, hclass, hframes, absorbs_missed, events_missed,
      missed_drop (u := s.withFrames (before ++ after)), missed_forward (u := s.withFrames (before ++ after))⟩

end Sys2Proof.Machine
end

section
/-! The wetness windows: only an accepted wet count lengthens one, to at most 16 values, and only an accepted CYCLE_START and
DRUM_RESET empty one (R158). -/

namespace Sys2Proof.Machine

/-! ### The window of the drum an operation works on -/

section
variable {s : State} {d : Drum}

theorem window_onCycleState (m : Dryness) (new : CycleState) (electrode : Bool) (n : Nat) :
    (m.onCycleState new electrode n).window = m.window := by
  cases new <;> cases electrode <;> rfl

@[simp] theorem window_setCycle (d : Drum) (new : CycleState) (f : Cycle → Cycle) (s : State) :
    ((setCycle d new f s).drum d).dryness.window = (s.drum d).dryness.window := by
  simp [setCycle, window_onCycleState]

@[simp] theorem window_enterDone (d : Drum) (s : State) :
    ((enterDone d s).drum d).dryness.window = (s.drum d).dryness.window := by
  unfold enterDone
  dsimp only
  split <;> simp

@[simp] theorem window_cycleHalt (d : Drum) (c : HaltCause) (s : State) :
    ((cycleHalt d c s).drum d).dryness.window = (s.drum d).dryness.window := by
  unfold cycleHalt
  split <;> simp

@[simp] theorem window_enterVacant (d : Drum) (s : State) :
    ((enterVacant d s).drum d).dryness.window = (s.drum d).dryness.window :=
  window_setCycle d _ _ s

@[simp] theorem window_pauseCycle (d : Drum) (c : PauseCause) (s : State) :
    ((pauseCycle d c s).drum d).dryness.window = (s.drum d).dryness.window := by
  unfold pauseCycle
  dsimp only
  split <;> simp

@[simp] theorem window_pauseOrJoin (d : Drum) (c : PauseCause) (s : State) :
    ((pauseOrJoin d c s).drum d).dryness.window = (s.drum d).dryness.window := by
  unfold pauseOrJoin
  split <;> simp

@[simp] theorem window_enterPurge (d : Drum) (target : Option Phase) (f : Cycle → Cycle) (s : State) :
    ((enterPurge d target f s).drum d).dryness.window = (s.drum d).dryness.window :=
  window_setCycle d _ _ s

@[simp] theorem window_startCooling (d : Drum) (r : Reason) (s : State) :
    ((startCooling d r s).drum d).dryness.window = (s.drum d).dryness.window :=
  window_setCycle d _ _ s

@[simp] theorem window_heatEnd (d : Drum) (r : Reason) (s : State) :
    ((heatEnd d r s).drum d).dryness.window = (s.drum d).dryness.window := by
  unfold heatEnd
  dsimp only
  (repeat' split) <;> simp

@[simp] theorem window_coolingEnds (d : Drum) (s : State) :
    ((coolingEnds d s).drum d).dryness.window = (s.drum d).dryness.window := by
  unfold coolingEnds
  split <;> simp

@[simp] theorem window_coolTest (d : Drum) (s : State) :
    ((coolTest d s).drum d).dryness.window = (s.drum d).dryness.window := by
  unfold coolTest
  split <;> simp

@[simp] theorem window_enterTarget (d : Drum) (s : State) :
    ((enterTarget d s).drum d).dryness.window = (s.drum d).dryness.window := by
  unfold enterTarget
  split <;> simp

@[simp] theorem window_cycleDoorOpened (d : Drum) (s : State) :
    ((cycleDoorOpened d s).drum d).dryness.window = (s.drum d).dryness.window := by
  unfold cycleDoorOpened
  split <;> simp

@[simp] theorem window_cycleAirflowLost (d : Drum) (s : State) :
    ((cycleAirflowLost d s).drum d).dryness.window = (s.drum d).dryness.window := by
  unfold cycleAirflowLost
  dsimp only
  split <;> simp

@[simp] theorem window_cycleNodeLost (d : Drum) (n : Nat) (s : State) :
    ((cycleNodeLost d n s).drum d).dryness.window = (s.drum d).dryness.window := by
  unfold cycleNodeLost
  (repeat' split) <;> simp

@[simp] theorem window_cycleGraceExpired (d : Drum) (s : State) :
    ((cycleGraceExpired d s).drum d).dryness.window = (s.drum d).dryness.window := by
  unfold cycleGraceExpired
  split <;> simp

@[simp] theorem window_routedAction (d : Drum) (a : RoutedAction) (s : State) :
    ((routedAction d a s).drum d).dryness.window = (s.drum d).dryness.window := by
  unfold routedAction
  (repeat' split) <;> simp

@[simp] theorem window_loadCycle (d : Drum) (r : CycleRecord) (s : State) :
    ((loadCycle d r s).drum d).dryness.window = (s.drum d).dryness.window :=
  window_setCycle d _ _ s

@[simp] theorem window_resumeCycle (d : Drum) (s : State) :
    ((resumeCycle d s).drum d).dryness.window = (s.drum d).dryness.window := by
  simp [resumeCycle]

@[simp] theorem window_abortCycle (d : Drum) (s : State) :
    ((abortCycle d s).drum d).dryness.window = (s.drum d).dryness.window := by
  unfold abortCycle
  dsimp only
  (repeat' split) <;> simp

@[simp] theorem window_takeExhaust (d : Drum) (t : Temperature) (s : State) :
    ((takeExhaust d t s).drum d).dryness.window = (s.drum d).dryness.window := by
  simp [takeExhaust]

@[simp] theorem window_stall (d : Drum) (st : DriveStatus) (s : State) :
    ((stall d st s).drum d).dryness.window = (s.drum d).dryness.window := by
  unfold stall
  dsimp only
  split <;> simp

@[simp] theorem window_trip (d : Drum) (st : DriveStatus) (s : State) :
    ((trip d st s).drum d).dryness.window = (s.drum d).dryness.window := by
  unfold trip
  dsimp only
  split <;> simp

@[simp] theorem window_takeDriveStat (d : Drum) (st : DriveStatus) (s : State) :
    ((takeDriveStat d st s).drum d).dryness.window = (s.drum d).dryness.window := by
  unfold takeDriveStat
  dsimp only
  (repeat' split) <;> simp

@[simp] theorem window_decelTimeout (d : Drum) (s : State) :
    ((decelTimeout d s).drum d).dryness.window = (s.drum d).dryness.window := by
  unfold decelTimeout
  dsimp only
  split <;> simp

@[simp] theorem window_pauseLimitEnds (d : Drum) (s : State) :
    ((pauseLimitEnds d s).drum d).dryness.window = (s.drum d).dryness.window := by
  simp [pauseLimitEnds]

@[simp] theorem window_extraDryEnds (d : Drum) (s : State) :
    ((extraDryEnds d s).drum d).dryness.window = (s.drum d).dryness.window := by
  simp [extraDryEnds]

@[simp] theorem window_dryReached (d : Drum) (p : DrynessPart) (s : State) :
    ((dryReached d p s).drum d).dryness.window = (s.drum d).dryness.window := by
  unfold dryReached
  dsimp only
  split <;> simp

@[simp] theorem window_dryTest (d : Drum) (p : DrynessPart) (s : State) :
    ((dryTest d p s).drum d).dryness.window = (s.drum d).dryness.window := by
  unfold dryTest
  dsimp only
  (repeat' split) <;> simp

/-! ### The drum port's operations -/

@[simp] theorem window_graceExpires (d : Drum) (s : State) :
    ((graceExpires d s).drum d).dryness.window = (s.drum d).dryness.window := by
  simp [graceExpires]

@[simp] theorem window_mainLaneLost (d : Drum) (s : State) :
    ((mainLaneLost d s).drum d).dryness.window = (s.drum d).dryness.window := by
  unfold mainLaneLost
  dsimp only
  (repeat' split) <;> simp

@[simp] theorem window_cycleOnChange (d : Drum) (x : Discrete) (safe : Bool) (s : State) :
    ((cycleOnChange d x safe s).drum d).dryness.window = (s.drum d).dryness.window := by
  unfold cycleOnChange
  split <;> simp

@[simp] theorem window_changeReading (d : Drum) (x : Discrete) (safe accepted : Bool) (s : State) :
    ((changeReading d x safe accepted s).drum d).dryness.window = (s.drum d).dryness.window := by
  unfold changeReading
  dsimp only
  (repeat' split) <;> simp

@[simp] theorem window_forceSafe (d : Drum) (x : Discrete) (s : State) :
    ((forceSafe d x s).drum d).dryness.window = (s.drum d).dryness.window := by
  unfold forceSafe
  split <;> simp

@[simp] theorem window_debounceExpires (d : Drum) (x : Discrete) (s : State) :
    ((debounceExpires d x s).drum d).dryness.window = (s.drum d).dryness.window := by
  simp [debounceExpires]

theorem window_presenceChange (d : Drum) (old new : BitVec 16) (s : State) (n : Nat) :
    ((presenceChange d old new s n).drum d).dryness.window = (s.drum d).dryness.window := by
  unfold presenceChange
  (repeat' split) <;> simp

@[simp] theorem window_setPresence (d : Drum) (report : BitVec 16) (s : State) :
    ((setPresence d report s).drum d).dryness.window = (s.drum d).dryness.window :=
  List.foldlRecOn (motive := fun t : State => (t.drum d).dryness.window = (s.drum d).dryness.window) nodeAddresses _
    (by simp) fun t ht n _ => (window_presenceChange d _ _ t n).trans ht

@[simp] theorem window_setHold (d : Drum) (s : State) :
    ((setHold d s).drum d).dryness.window = (s.drum d).dryness.window := by
  simp [setHold]

@[simp] theorem window_serviceLaneDown (d : Drum) (s : State) :
    ((serviceLaneDown d s).drum d).dryness.window = (s.drum d).dryness.window := by
  simp [serviceLaneDown]

@[simp] theorem window_powerOff (d : Drum) (s : State) :
    ((powerOff d s).drum d).dryness.window = (s.drum d).dryness.window := by
  unfold powerOff
  split <;> simp

/-! ### The dryness monitor's operations that write the window -/

theorem window_drynessReset (d : Drum) (s : State) : ((drynessReset d s).drum d).dryness.window = [] := by
  simp [drynessReset]

/-- An accepted CYCLE_START empties the window (R72). -/
theorem window_startCycle (d : Drum) (s : State) : ((startCycle d s).drum d).dryness.window = [] := by
  simp [startCycle, drynessStart]

/-- A value accepted evicts the oldest of more than 16 (R158). -/
theorem window_accept_length_le (m : Dryness) (v : Nat) : (m.accept v).window.length ≤ 16 := by
  simp only [Dryness.accept, List.length_drop]
  omega

theorem window_takeWet_length_le {v : Nat} (h : (s.drum d).dryness.window.length ≤ 16) :
    ((takeWet d v s).drum d).dryness.window.length ≤ 16 := by
  unfold takeWet acceptWet
  dsimp only
  (repeat' split) <;> simp [h, window_accept_length_le]

end

end Sys2Proof.Machine
end

section
/-! The queues, the alert list and the wetness windows: which operations leave all of them alone (R50, R52, R54, R158, R173). -/

namespace Sys2Proof.Machine

/-- What holds the queues, the alert list and the wetness windows. -/
def State.lists (s : State) : Cabinet × Router × (Drum → List Nat) :=
  (s.cabinet, s.router, fun d => (s.drum d).dryness.window)

theorem lists_of_besides {s t : State} {d : Drum} (hb : t.besides d = s.besides d)
    (hw : (t.drum d).dryness.window = (s.drum d).dryness.window) : t.lists = s.lists := by
  have hwindows : (fun e => (t.drum e).dryness.window) = fun e => (s.drum e).dryness.window := by
    funext e
    by_cases he : e = d
    · rw [he, hw]
    · rw [drum_of_besides hb he]
  unfold State.lists
  rw [cabinet_of_besides hb, router_of_besides hb, hwindows]

@[simp] theorem lists_onHeat (f : Heat → Heat) (s : State) : (s.onHeat f).lists = s.lists := rfl

@[simp] theorem lists_onShare (d : Drum) (f : HeatShare → HeatShare) (s : State) : (s.onShare d f).lists = s.lists := rfl

@[simp] theorem lists_onClassifier (f : Classifier → Classifier) (s : State) : (s.onClassifier f).lists = s.lists := rfl

@[simp] theorem lists_onAttributes (f : AttrStore → AttrStore) (s : State) : (s.onAttributes f).lists = s.lists := rfl

@[simp] theorem lists_onAttr (d : Drum) (a : Fin 8) (f : AttrRecord → AttrRecord) (s : State) :
    (s.onAttr d a f).lists = s.lists := rfl

@[simp] theorem lists_onFlight (f : Flight → Flight) (s : State) : (s.onFlight f).lists = s.lists := rfl

@[simp] theorem lists_raise (src : Block) (k : EventKind) (d : Drum) (x : Option Byte) (s : State) :
    (raise src k d x s).lists = s.lists := rfl

@[simp] theorem lists_handIncrement (src : Block) (d : Drum) (a : Fin 8) (s : State) :
    (handIncrement src d a s).lists = s.lists := rfl

/-! ### The allocator -/

@[simp] theorem lists_burnerUpdate (d : Drum) (s : State) : (burnerUpdate d s).lists = s.lists :=
  lists_of_besides (besides_burnerUpdate d s) (by simp)

@[simp] theorem lists_setGranted (d : Drum) (g : Nat) (s : State) : (setGranted d g s).lists = s.lists :=
  lists_burnerUpdate d _

@[simp] theorem lists_dropCopy (d : Drum) (s : State) : (dropCopy d s).lists = s.lists := by
  unfold dropCopy
  split <;> rfl

@[simp] theorem lists_lowerGrant (d : Drum) (g : Nat) (s : State) : (lowerGrant d g s).lists = s.lists := by
  unfold lowerGrant
  rw [lists_setGranted]
  split <;> rfl

theorem lists_grantRound {s t : State} (h : grantRound s = some t) : t.lists = s.lists := by
  unfold grantRound grantEntry at h
  (repeat' split at h) <;> cases h <;> exact lists_setGranted _ _ _

theorem lists_of_grantRounds {s t : State} (h : GrantRounds s t) : t.lists = s.lists := by
  induction h with
  | stop _ => rfl
  | round h _ ih => rw [ih, lists_grantRound h]

@[simp] theorem lists_grantAttempt (s : State) : (grantAttempt s).lists = s.lists :=
  lists_of_grantRounds (grantAttempt_spec s)

@[simp] theorem lists_raisedDemand (d : Drum) (w : Nat) (s : State) : (raisedDemand d w s).lists = s.lists := by
  unfold raisedDemand
  split <;> rfl

@[simp] theorem lists_loweredDemand (d : Drum) (w : Nat) (s : State) : (loweredDemand d w s).lists = s.lists := by
  unfold loweredDemand
  dsimp only
  split <;> simp

@[simp] theorem lists_takeDemand (d : Drum) (w : Nat) (s : State) : (takeDemand d w s).lists = s.lists := by
  unfold takeDemand
  dsimp only
  rw [lists_grantAttempt]
  (repeat' split) <;> simp

@[simp] theorem lists_releaseDrum (d : Drum) (s : State) : (releaseDrum d s).lists = s.lists := by
  unfold releaseDrum
  dsimp only
  split <;> simp

@[simp] theorem lists_revokeStep (d : Drum) (s : State) : (revokeStep d s).lists = s.lists := by
  have hrequeue (t : State) : (requeue d t).lists = t.lists := by
    unfold requeue
    dsimp only
    split <;> rfl
  simp [revokeStep, hrequeue]

@[simp] theorem lists_revokeTo (b n : Nat) (s : State) : (revokeTo b n s).lists = s.lists := by
  induction n generalizing s with
  | zero => rfl
  | succ n ih =>
    unfold revokeTo
    (repeat' split) <;> simp [ih]

@[simp] theorem lists_setBudget (b : Nat) (s : State) : (setBudget b s).lists = s.lists := by
  simp [setBudget]

@[simp] theorem lists_judgeWait (d : Drum) (s : State) : (judgeWait d s).lists = s.lists := by
  unfold judgeWait
  (repeat' split) <;> rfl

@[simp] theorem lists_setWaitLimit (n : Nat) (s : State) : (setWaitLimit n s).lists = s.lists := by
  unfold setWaitLimit
  split
  · rfl
  · exact List.foldlRecOn (motive := fun t : State => t.lists = s.lists) _ _ rfl fun t ht d _ =>
      (lists_judgeWait d t).trans ht

/-! ### Lockouts, flame status and crossings -/

@[simp] theorem lists_lockOut (d : Drum) (p : LockoutPath) (s : State) : (lockOut d p s).lists = s.lists := by
  have hset (t : State) : (setLockout d p t).lists = t.lists :=
    lists_of_besides (d := d) (by simp [setLockout]) (by simp [setLockout])
  have hend (t : State) : (heatEnd d .heatFault t).lists = t.lists :=
    lists_of_besides (besides_heatEnd d _ t) (window_heatEnd d _ t)
  unfold lockOut
  dsimp only
  split
  · rfl
  · rw [hend]
    split <;> simp [hset]

@[simp] theorem lists_failedAttempt (d : Drum) (s : State) : (failedAttempt d s).lists = s.lists := by
  unfold failedAttempt
  dsimp only
  split
  · exact lists_of_besides (d := d) (by simp) (by simp)
  · exact lists_lockOut d _ s

theorem lists_onBurner (d : Drum) (f : Burner → Burner) (s : State) : (s.onBurner d f).lists = s.lists :=
  lists_of_besides (besides_onBurner d f s) (by simp)

theorem lists_flameByView (d : Drum) (x : FlameState) (s : State) : (flameByView d x s).lists = s.lists := by
  have hlost : (flameLost d s).lists = s.lists := by
    unfold flameLost
    rw [lists_failedAttempt, lists_raise, lists_onBurner]
  unfold flameByView
  dsimp only
  split
  case h_1 => exact lists_of_besides (besides_enterBurning d s) (by simp)
  case h_2 | h_3 => exact lists_failedAttempt d s
  case h_4 | h_5 | h_6 => split; exacts [hlost, rfl]
  case h_7 => rfl

@[simp] theorem lists_takeFlameStat (d : Drum) (st : FlameStatus) (s : State) :
    (takeFlameStat d st s).lists = s.lists := by
  have hview : (flameByView d st.flame (s.onBurner d fun b => { b with flame := some st })).lists = s.lists := by
    rw [lists_flameByView, lists_onBurner]
  unfold takeFlameStat
  dsimp only
  split
  · rw [lists_of_besides (besides_setRest d true _) (by simp), hview]
  · exact hview

@[simp] theorem lists_cross (d : Drum) (a : Fin 8) (s : State) : (cross d a s).lists = s.lists := by
  unfold cross
  dsimp only
  split <;> simp

@[simp] theorem lists_takeIncrement (d : Drum) (a : Fin 8) (s : State) : (takeIncrement d a s).lists = s.lists := by
  unfold takeIncrement
  dsimp only
  split <;> simp

@[simp] theorem lists_evaluate (order : List (Drum × Fin 8)) (s : State) : (evaluate order s).1.lists = s.lists :=
  List.foldlRecOn (motive := fun p : State × Nat => p.1.lists = s.lists) order _ rfl fun p hp r _ => by
    split
    · exact (lists_cross r.1 r.2 p.1).trans hp
    · exact hp

/-! ### The absorb part of a lookup -/

theorem lists_handStatus (f : HandedFrame) (bound : Nat) (a : Option Absorbed) (s : State) :
    (handStatus f bound a s).lists = s.lists := by
  unfold handStatus
  (repeat' split) <;> rfl

theorem lists_afterAbsorb (e : ClassEntry) (f : HandedFrame) (s : State) : (afterAbsorb e f s).lists = s.lists := by
  have habsorb : (absorbPart e f s).lists = s.lists := by
    unfold absorbPart
    dsimp only
    split
    case h_1 => rfl
    case h_2 | h_3 => exact lists_handStatus f _ _ s
    all_goals split <;> rfl
  unfold afterAbsorb
  split
  · exact habsorb
  · rfl

end Sys2Proof.Machine
end

section
/-! The bounds of the queues, of the alert list and of the wetness windows: what each operation keeps of them (R50, R52, R54,
R56, R158, R173). -/

namespace Sys2Proof.Machine

/-! ### Bounds -/

/-- The queues of the cabinet link and the alert run count are within their bounds (R50, R52, R54, R56). -/
structure Cabinet.Bounded (c : Cabinet) : Prop where
  inbox : c.inbox.length ≤ 4
  replies : c.replies.length ≤ 4
  forwards : c.forwards.length ≤ 32
  alertRun : c.alertRun ≤ 4

/-- What tells the entries of the alert list apart (R173). -/
def AlertEntry.key (e : AlertEntry) : Nat × Drum := (e.event, e.drum)

/-- The alert list is within its bound, with one entry for each event and drum (R173). -/
structure Router.Bounded (r : Router) : Prop where
  alerts : r.alerts.length ≤ 32
  distinct : (r.alerts.map AlertEntry.key).Nodup

/-- The queues, the alert list and the wetness windows are within their bounds. -/
structure Bounded (s : State) : Prop where
  cabinet : s.cabinet.Bounded
  router : s.router.Bounded
  windows : WindowsBounded s

theorem bounded_iff {s : State} : Bounded s ↔ QueuesBounded s ∧ AlertsDistinct s ∧ WindowsBounded s :=
  ⟨fun ⟨⟨hi, hr, hf, ha⟩, ⟨hl, hd⟩, hw⟩ => ⟨⟨hi, hr, hf, ha, hl⟩, hd, hw⟩,
    fun ⟨⟨hi, hr, hf, ha, hl⟩, hd, hw⟩ => ⟨⟨hi, hr, hf, ha⟩, ⟨hl, hd⟩, hw⟩⟩

section
variable {s t u : State} {r : Request} {d : Drum}

theorem bounded_of_lists (h : t.lists = s.lists) (hs : Bounded s) : Bounded t := by
  simp only [State.lists, Prod.mk.injEq] at h
  obtain ⟨hcabinet, hrouter, hwindows⟩ := h
  refine ⟨hcabinet ▸ hs.cabinet, hrouter ▸ hs.router, fun e => ?_⟩
  rw [show (t.drum e).dryness.window = (s.drum e).dryness.window from congrFun hwindows e]
  exact hs.windows e

/-- An operation on one drum that leaves its window within the bound. -/
theorem bounded_of_besides (hb : t.besides d = s.besides d) (hw : (t.drum d).dryness.window.length ≤ 16) (hs : Bounded s) :
    Bounded t := by
  refine ⟨cabinet_of_besides hb ▸ hs.cabinet, router_of_besides hb ▸ hs.router, fun e => ?_⟩
  by_cases he : e = d
  · rw [he]; exact hw
  · rw [drum_of_besides hb he]; exact hs.windows e

/-- An operation on one drum that leaves its window alone. -/
theorem bounded_of_window (hs : Bounded s) (hb : t.besides d = s.besides d)
    (hw : (t.drum d).dryness.window = (s.drum d).dryness.window) : Bounded t :=
  bounded_of_lists (lists_of_besides hb hw) hs

theorem bounded_reset : Bounded State.reset :=
  bounded_iff.mpr ⟨queuesBounded_reset, alertsDistinct_reset, windowsBounded_reset⟩

theorem bounded_onCabinet {f : Cabinet → Cabinet} (hs : Bounded s) (hf : (f s.cabinet).Bounded) : Bounded (s.onCabinet f) :=
  ⟨hf, hs.router, hs.windows⟩

theorem bounded_onRouter {f : Router → Router} (hs : Bounded s) (hf : (f s.router).Bounded) : Bounded (s.onRouter f) :=
  ⟨hs.cabinet, hf, hs.windows⟩

/-! ### The alert list -/

/-- A change of an entry's other fields leaves the keys of the list alone. -/
theorem keys_update {r : Router} {event : Nat} {f : AlertEntry → AlertEntry} (hf : ∀ e, (f e).key = e.key) :
    (r.update event d f).alerts.map AlertEntry.key = r.alerts.map AlertEntry.key := by
  unfold Router.update
  rw [List.map_map]
  refine List.map_congr_left fun e _ => ?_
  dsimp only [Function.comp_apply]
  split
  · exact hf e
  · rfl

theorem Router.Bounded.update {r : Router} {event : Nat} {f : AlertEntry → AlertEntry} (h : r.Bounded)
    (hf : ∀ e, (f e).key = e.key) : (r.update event d f).Bounded where
  alerts := by
    rw [← List.length_map AlertEntry.key, keys_update hf, List.length_map]
    exact h.alerts
  distinct := by
    rw [keys_update hf]
    exact h.distinct

theorem Router.Bounded.filter {r : Router} (h : r.Bounded) (p : AlertEntry → Bool) :
    ({ r with alerts := r.alerts.filter p } : Router).Bounded where
  alerts := (List.length_filter_le _ _).trans h.alerts
  distinct := h.distinct.sublist (List.filter_sublist.map _)

/-- A new entry joins a list with room that holds none of its event and drum (R174). -/
theorem Router.Bounded.concat {r : Router} {e : AlertEntry} (h : r.Bounded) (hroom : r.alerts.length < 32)
    (hnew : r.entry? e.event e.drum = none) : ({ r with alerts := r.alerts ++ [e] } : Router).Bounded where
  alerts := by
    rw [List.length_append]
    exact hroom
  distinct := by
    rw [List.map_append, List.nodup_append]
    refine ⟨h.distinct, List.nodup_singleton _, fun k hk l hl heq => ?_⟩
    obtain ⟨x, hx, rfl⟩ := List.mem_map.mp hk
    rw [List.map_singleton, List.mem_singleton] at hl
    have hkey : x.key = e.key := heq.trans hl
    simp only [AlertEntry.key, Prod.mk.injEq] at hkey
    have hnot := List.find?_eq_none.mp hnew x hx
    simp [AlertEntry.isFor, hkey] at hnot

theorem bounded_enterAlert {ev : Event} (hs : Bounded s) : Bounded (enterAlert ev s) := by
  unfold enterAlert
  dsimp only
  split
  · exact hs
  · split
    · exact bounded_onRouter hs (hs.router.update fun _ => rfl)
    next hnew =>
      split
      next hroom => exact bounded_onRouter hs (hs.router.concat hroom hnew)
      next => exact bounded_onCabinet hs ⟨hs.cabinet.inbox, hs.cabinet.replies, hs.cabinet.forwards, hs.cabinet.alertRun⟩

theorem bounded_takeEvent {ev : Event} (hs : Bounded s) : Bounded (takeEvent ev s) :=
  bounded_enterAlert (bounded_of_window hs (besides_routedAction ev.drum _ s) (window_routedAction ev.drum _ s))

/-- DRUM_RESET empties the drum's window and removes its alerts (R166, R179). -/
theorem bounded_resetDrum (hs : Bounded s) : Bounded (resetDrum d s) := by
  have hreset (f : Cycle → Cycle) : Bounded (drynessReset d (setCycle d .vacant f (tumbleReset d (burnerReset d s)))) :=
    bounded_of_besides (d := d) (by simp) (by simp [window_drynessReset]) hs
  have hreleased (f : Flight → Flight) (u : State) (hu : Bounded u) : Bounded (releaseDrum d (u.onFlight f)) :=
    bounded_of_lists (lists_releaseDrum d _) (bounded_of_lists (lists_onFlight f u) hu)
  have hpurged (u : State) (hu : Bounded u) : Bounded (purgeAlerts d u) := bounded_onRouter hu (hu.router.filter _)
  exact hpurged _ (hreleased _ _ (hreset _))

/-! ### The cabinet link -/

theorem bounded_cabinetLost (hs : Bounded s) : Bounded (cabinetLost s) := by
  have hcut : Bounded (cutAlert s.cabinet.outgoing s) := by
    unfold cutAlert
    split
    · refine bounded_onRouter hs (hs.router.update fun e => ?_)
      unfold AlertEntry.sendCut
      split <;> rfl
    · exact hs
  exact bounded_onCabinet hcut ⟨hcut.cabinet.inbox, hcut.cabinet.replies, hcut.cabinet.forwards, hcut.cabinet.alertRun⟩

/-- A request joins the inbox while it holds fewer than 4 (R50). -/
theorem bounded_takeCabinetFrame {bytes : List Byte} (hs : Bounded s) : Bounded (takeCabinetFrame bytes s) := by
  obtain ⟨hinbox, hreplies, hforwards, hrun⟩ := hs.cabinet
  unfold takeCabinetFrame offerRequest
  split
  · split
    next hroom => exact bounded_onCabinet hs ⟨by rw [List.length_append]; exact hroom, hreplies, hforwards, hrun⟩
    next => exact bounded_onCabinet hs ⟨hinbox, hreplies, hforwards, hrun⟩
  · exact hs

theorem bounded_choose (hs : Bounded s) : Bounded (choose s) := by
  obtain ⟨hinbox, hreplies, hforwards, hrun⟩ := hs.cabinet
  have hhead : Bounded (beginHead s) := by
    unfold beginHead
    split
    · exact bounded_onCabinet hs ⟨hinbox, hreplies, hforwards, Nat.zero_le 4⟩
    · exact hs
  have halert (e : AlertEntry) : Bounded (beginAlert e s) := by
    have hmarked := bounded_onRouter (f := fun r => r.update e.event e.drum fun e => { e with send := .sending }) hs
      (hs.router.update fun _ => rfl)
    refine bounded_onCabinet hmarked ⟨hinbox, hreplies, hforwards, ?_⟩
    dsimp only
    split
    · exact Nat.zero_le 4
    · exact Nat.min_le_left 4 _
  unfold choose
  split
  · exact bounded_onCabinet hs ⟨hinbox, hreplies, hforwards, hrun⟩
  · split
    · exact hhead
    · split
      · exact halert _
      · exact hhead

/-! ### Lookups -/

/-- A forward record joins its queue while it holds fewer than 32 (R39, R54). -/
theorem bounded_forwardPart {n : Option Nat} {f : HandedFrame} (hs : Bounded s) : Bounded (forwardPart n f s) := by
  obtain ⟨hinbox, hreplies, hforwards, hrun⟩ := hs.cabinet
  unfold forwardPart
  split
  next hroom => exact bounded_onCabinet hs ⟨hinbox, hreplies, by rw [List.length_append]; exact hroom, hrun⟩
  next => exact bounded_of_lists (lists_raise _ _ _ _ s) hs

theorem bounded_lookUp {f : HandedFrame} (hs : Bounded s) : Bounded (lookUp f s) := by
  have habsorb (e : ClassEntry) (u : State) (hu : Bounded u) : Bounded (afterAbsorb e f u) :=
    bounded_of_lists (lists_afterAbsorb e f u) hu
  unfold lookUp
  split
  next e _ =>
    have hhit : Bounded (s.onClassifier fun c => c.hit e.number) :=
      bounded_of_lists (lists_onClassifier _ s) hs
    cases h : e.action
    case absorb => rw [matched_absorb h]; exact habsorb e _ hhit
    case forward => rw [matched_forward h]; exact bounded_forwardPart hhit
    case both => rw [matched_both h]; exact bounded_forwardPart (habsorb e _ hhit)
    case drop => rw [matched_drop h]; exact hhit
  next =>
    unfold missed
    dsimp only
    split
    · exact bounded_forwardPart (bounded_of_lists (lists_raise _ _ _ _ s) hs)
    · exact bounded_of_lists (lists_raise _ _ _ _ s) hs

end

end Sys2Proof.Machine
end

section
/-! Every step keeps the queues, the alert list and the wetness windows within their bounds; settles O57. -/

namespace Sys2Proof.Machine

section
variable {s t u v : State} {r : Request} {d : Drum}

/-! ### Answers -/

theorem bounded_ok (h : Bounded v) : Bounded (ok v).state := h

theorem bounded_check {p : Prop} [Decidable p] {st : Status} {a : Answer} (hu : Bounded u) (h : ¬p → Bounded a.state) :
    Bounded (if p then refuse st u else a).state := by
  split
  · exact hu
  next hp => exact h hp

theorem bounded_admit {p : Prop} [Decidable p] {st : Status} {a : Answer} (hu : Bounded u) (h : p → Bounded a.state) :
    Bounded (if p then a else refuse st u).state := by
  split
  next hp => exact h hp
  · exact hu

theorem bounded_onDrumArg {h : Drum → State → Answer} (hu : Bounded u) (hh : ∀ d, Bounded (h d u).state) :
    Bounded (onDrumArg h r u).state := by
  unfold onDrumArg
  split
  · exact hh _
  · exact hu

theorem bounded_onPortArg {h : Drum → State → Answer} (hu : Bounded u) (hh : ∀ d, Bounded (h d u).state) :
    Bounded (onPortArg h r u).state := by
  unfold onPortArg
  split
  · exact bounded_check hu fun _ => hh _
  · exact hu

theorem bounded_serveItem {w : Nat → State → Answer} (hu : Bounded u) (hw : ∀ n, Bounded (w n u).state) :
    Bounded (serveItem w r u).state :=
  bounded_admit hu fun _ => hw _

theorem bounded_onScopePart {report : State → List Byte} (hu : Bounded u) : Bounded (onScopePart report r u).state :=
  bounded_check hu fun _ => hu

theorem bounded_onScopeDrum {report : Drum → State → List Byte} (hu : Bounded u) :
    Bounded (onScopeDrum report r u).state := by
  unfold onScopeDrum
  split
  · exact bounded_check hu fun _ => hu
  · exact hu

/-! ### The owners -/

theorem bounded_writeMissAction (hu : Bounded u) : Bounded (writeMissAction r u).state := by
  unfold writeMissAction
  split
  · exact bounded_of_lists (lists_onClassifier _ u) hu
  · exact hu

theorem lists_replaceConfig (d : Drum) (c : DrumConfig) (s : State) : (replaceConfig d c s).lists = s.lists := by
  have hbesides := replaceConfig_besides d c s
  have hwindows : (fun e => ((replaceConfig d c s).drum e).dryness.window) = fun e => (s.drum e).dryness.window := by
    funext e
    by_cases he : e = d
    · subst he
      obtain ⟨-, -, -, -, hdryness, -⟩ := keeps_replaceConfig e c s
      rw [hdryness]
    · rw [drum_replaceConfig_ne he]
  unfold State.lists
  rw [hwindows, show (replaceConfig d c s).cabinet = s.cabinet from congrArg Besides.cabinet hbesides,
    show (replaceConfig d c s).router = s.router from congrArg Besides.router hbesides]

theorem bounded_writeDrumConfig (hu : Bounded u) : Bounded (writeDrumConfig r u).state := by
  refine bounded_onDrumArg hu fun d => ?_
  split
  · exact hu
  · exact bounded_admit hu fun _ => bounded_of_lists (lists_replaceConfig d _ u) hu

theorem bounded_writeProfile (hu : Bounded u) : Bounded (writeProfile r u).state := by
  unfold writeProfile
  split
  · split
    · exact ⟨hu.cabinet, hu.router, hu.windows⟩
    · exact hu
  · exact hu

theorem bounded_writeRoute (hu : Bounded u) : Bounded (writeRoute r u).state := by
  unfold writeRoute
  split
  · exact bounded_ok (bounded_onRouter hu ⟨hu.router.alerts, hu.router.distinct⟩)
  · exact hu

theorem bounded_addEntry (hu : Bounded u) : Bounded (addEntry r u).state := by
  unfold addEntry
  split
  · exact hu
  · exact bounded_check hu fun _ => bounded_check hu fun _ => bounded_check hu fun _ =>
      bounded_of_lists (lists_onClassifier _ u) hu

theorem bounded_removeEntry (hu : Bounded u) : Bounded (removeEntry r u).state := by
  refine bounded_check hu fun _ => ?_
  split
  · exact hu
  · exact bounded_check hu fun _ => bounded_of_lists (lists_onClassifier _ u) hu

theorem bounded_queryTuple (hu : Bounded u) : Bounded (queryTuple r u).state := by
  unfold queryTuple
  split <;> exact hu

theorem bounded_cycleLoad (hu : Bounded u) : Bounded (cycleLoad r u).state := by
  refine bounded_onDrumArg hu fun d => ?_
  split
  · exact hu
  · exact bounded_check hu fun _ => bounded_check hu fun _ => bounded_check hu fun _ => bounded_check hu fun _ =>
      bounded_ok (bounded_of_window hu (besides_loadCycle d _ u) (window_loadCycle d _ u))

theorem bounded_cycleStart (hu : Bounded u) : Bounded (cycleStart r u).state := by
  unfold cycleStart
  refine bounded_onDrumArg hu fun d => ?_
  have hstarted : Bounded (startCycle d u) :=
    bounded_of_besides (besides_startCycle d u) (by simp [window_startCycle]) hu
  dsimp only
  exact bounded_check hu fun _ => bounded_check hu fun _ => bounded_check hu fun _ => bounded_check hu fun _ =>
    bounded_check hu fun _ => bounded_check hu fun _ => bounded_ok hstarted

theorem bounded_cyclePause (hu : Bounded u) : Bounded (cyclePause r u).state := by
  refine bounded_onDrumArg hu fun d => ?_
  split
  case h_1 | h_2 | h_3 | h_4 => exact bounded_of_window hu (besides_pauseOrJoin d _ u) (window_pauseOrJoin d _ u)
  all_goals exact hu

theorem bounded_cycleResume (hu : Bounded u) : Bounded (cycleResume r u).state := by
  unfold cycleResume
  refine bounded_onDrumArg hu fun d => ?_
  have hresumed : Bounded (resumeCycle d u) := bounded_of_window hu (besides_resumeCycle d u) (window_resumeCycle d u)
  dsimp only
  exact bounded_check hu fun _ => bounded_check hu fun _ => bounded_ok hresumed

theorem bounded_cycleEndHeat (hu : Bounded u) : Bounded (cycleEndHeat r u).state := by
  refine bounded_onDrumArg hu fun d => ?_
  split
  case h_1 | h_2 | h_3 | h_4 | h_5 => exact bounded_of_window hu (besides_heatEnd d _ u) (window_heatEnd d _ u)
  all_goals exact hu

/-- A PORT_CONTROL that does an operation on its drum where a condition on the drum admits it. -/
theorem bounded_portWork {p : DrumState → Bool} {op : Drum → State → State} (hu : Bounded u)
    (hop : ∀ d, Bounded (op d u)) :
    Bounded (onPortArg (fun d s => if p (s.drum d) then ok (op d s) else refuse .busy s) r u).state :=
  bounded_onPortArg hu fun d => bounded_admit hu fun _ => hop d

theorem bounded_bringUp (hu : Bounded u) : Bounded (bringUp d u).state := by
  unfold bringUp
  split
  case h_1 | h_2 => exact bounded_ok (bounded_of_window hu (besides_setPortState d _ u) (by simp))
  all_goals exact hu

theorem bounded_holdNodes (hu : Bounded u) : Bounded (holdNodes d u).state := by
  refine bounded_admit hu fun _ => ?_
  dsimp only [ok]
  split
  · exact hu
  · exact bounded_of_window hu (besides_setHold d u) (window_setHold d u)

theorem bounded_releaseNodes (hu : Bounded u) : Bounded (releaseNodes d u).state := by
  dsimp only [releaseNodes, ok]
  split
  · exact bounded_of_window hu (besides_clearHold d u) (by simp)
  · exact hu

theorem bounded_testRequest {dir : TestDirection} (hu : Bounded u) : Bounded (testRequest dir r u).state := by
  refine bounded_onPortArg hu fun d => ?_
  split
  · exact hu
  · exact bounded_admit hu fun _ => bounded_ok (bounded_of_window hu (besides_startTest d dir _ u) (by simp))

theorem bounded_gate {f : PassFrame} (hu : Bounded u) : Bounded (gate d f u).state := by
  have hdrive : Bounded (passDrive d f u).state := by
    unfold passDrive
    split
    · exact hu
    · exact bounded_check hu fun _ => bounded_admit hu fun _ =>
        bounded_ok (bounded_of_window hu (besides_writeDrive d _ u) (by simp))
  have hfan : Bounded (passFan d f u).state := by
    unfold passFan
    split
    · exact hu
    · exact bounded_admit hu fun _ => bounded_ok (bounded_of_window hu (besides_writeFan d _ u) (by simp))
  unfold gate
  split
  · split
    · exact hu
    · split
      · exact hdrive
      · exact bounded_admit hu fun _ => hfan
  · exact bounded_check hu fun _ => bounded_ok (bounded_of_window hu (besides_onPort d _ u) (by simp))

theorem bounded_alertAck (hu : Bounded u) : Bounded (alertAck r u).state := by
  have hremoved (event : Nat) (d : Drum) : Bounded (u.onRouter fun r => r.remove event d) :=
    bounded_onRouter hu (hu.router.filter _)
  have hacked (event : Nat) (d : Drum) (seen : Nat) : Bounded (u.onRouter fun r => r.update event d (·.acked seen)) :=
    bounded_onRouter hu (hu.router.update fun _ => rfl)
  unfold alertAck ackAlert
  split
  · split
    · exact hu
    · split
      · exact hremoved _ _
      · exact hacked _ _ _
  · exact hu

theorem bounded_attrLoad (hu : Bounded u) : Bounded (attrLoad r u).state := by
  refine bounded_check hu fun _ => bounded_check hu fun _ => ?_
  split
  · exact hu
  · unfold loadTable
    generalize attrOrder = order
    exact bounded_of_lists ((lists_evaluate order _).trans (lists_onAttributes _ u)) hu

theorem bounded_attrClear (hu : Bounded u) : Bounded (attrClear r u).state := by
  refine bounded_onDrumArg hu fun d => ?_
  split
  · exact bounded_of_lists (lists_onAttr d _ _ u) hu
  · exact bounded_admit hu fun _ => bounded_of_lists (lists_onAttributes _ u) hu

end

/-- Every owner's work keeps the bounds; the engine counts the request and the reply. -/
theorem bounded_owner {c : Instr} {o : Owner} (hc : ownerOf c = some o) (r : Request) {u : State} (hu : Bounded u) :
    Bounded (o.serves r u).state := by
  cases c <;> cases hc
  case badRequest | partReset => exact hu
  case configWriteHeatBudget =>
    exact bounded_serveItem hu fun n => bounded_check hu fun _ => bounded_of_lists (lists_setBudget n u) hu
  case configWriteBypassLimit =>
    exact bounded_serveItem hu fun n => bounded_check hu fun _ =>
      bounded_of_lists ((lists_grantAttempt _).trans (lists_onHeat _ u)) hu
  case configWriteHeatWaitLimit =>
    exact bounded_serveItem hu fun n => bounded_check hu fun _ => bounded_of_lists (lists_setWaitLimit n u) hu
  case configWriteBucketSpread | configWriteSignatureSpread =>
    exact bounded_serveItem hu fun n => bounded_admit hu fun _ => bounded_of_lists (lists_onClassifier _ u) hu
  case configWriteMissAction => exact bounded_serveItem hu fun _ => bounded_writeMissAction hu
  case drumConfigWrite => exact bounded_writeDrumConfig hu
  case profileWrite => exact bounded_writeProfile hu
  case routeWrite => exact bounded_writeRoute hu
  case classAdd => exact bounded_addEntry hu
  case classRemove => exact bounded_removeEntry hu
  case classQuery => exact bounded_queryTuple hu
  case classRead => exact bounded_check hu fun _ => hu
  case cycleLoad => exact bounded_cycleLoad hu
  case cycleUnload =>
    exact bounded_onDrumArg hu fun d => bounded_admit hu fun _ =>
      bounded_of_window hu (besides_enterVacant d u) (window_enterVacant d u)
  case cycleStart => exact bounded_cycleStart hu
  case cyclePause => exact bounded_cyclePause hu
  case cycleResume => exact bounded_cycleResume hu
  case cycleEndHeat => exact bounded_cycleEndHeat hu
  case cycleAbort =>
    exact bounded_onDrumArg hu fun d => bounded_check hu fun _ =>
      bounded_of_window hu (besides_abortCycle d u) (window_abortCycle d u)
  case drumReset => exact bounded_onDrumArg hu fun _ => bounded_resetDrum hu
  case heatLockoutClear =>
    exact bounded_onDrumArg hu fun d => bounded_admit hu fun _ =>
      bounded_ok (bounded_of_window hu (besides_clearLockout d u) (by simp))
  case powerOff =>
    exact bounded_portWork hu fun d => bounded_of_window hu (besides_powerOff d u) (window_powerOff d u)
  case serviceOnly => exact bounded_portWork hu fun d => bounded_of_window hu (besides_serviceOnly d u) (by simp)
  case bringUp => exact bounded_onPortArg hu fun _ => bounded_bringUp hu
  case holdNodes => exact bounded_onPortArg hu fun _ => bounded_holdNodes hu
  case releaseNodes => exact bounded_onPortArg hu fun _ => bounded_releaseNodes hu
  case testSend | testReceive => exact bounded_testRequest hu
  case testEnd => exact bounded_onPortArg hu fun d => bounded_ok (bounded_of_window hu (besides_endTest d u) (by simp))
  case passThrough =>
    exact bounded_onDrumArg hu fun _ => bounded_check hu fun _ => bounded_check hu fun _ => bounded_gate hu
  case alertAck => exact bounded_alertAck hu
  case attrLoad => exact bounded_attrLoad hu
  case attrRead => exact bounded_onDrumArg hu fun _ => hu
  case attrClear => exact bounded_attrClear hu
  case statusReadPart | statusReadHeat => exact bounded_onScopePart hu
  case statusReadDrum | statusReadPort => exact bounded_onScopeDrum hu

section
variable {s t : State} {c : Instr} {r : Request} {d : Drum}

/-! ### The requests -/

/-- The engine takes a request only while fewer than 4 replies wait (R51, R52). -/
theorem bounded_replied {rest : List Request} {st : Status} {data : List Byte} (hc : s.cabinet.Bounded)
    (hi : s.cabinet.inbox = r :: rest) (ht : s.cabinet.takes = true) : (s.replied r rest st data).Bounded where
  inbox := by
    have hinbox := hc.inbox
    rw [hi, List.length_cons] at hinbox
    exact Nat.le_of_succ_le hinbox
  replies := by
    simp only [Cabinet.takes, Bool.and_eq_true, decide_eq_true_eq] at ht
    obtain ⟨hroom, -⟩ := ht
    simp only [State.replied, List.length_append, List.length_singleton]
    exact hroom
  forwards := hc.forwards
  alertRun := hc.alertRun

theorem bounded_answered {rest : List Request} {st : Status} {data : List Byte} (hs : Bounded s)
    (hc : (s.replied r rest st data).Bounded) : Bounded (s.answered r rest st data) := by
  have hnamed : Bounded (s.named r) := by
    unfold State.named
    split
    · exact bounded_of_window hs (besides_reloadStandby _ _) (by simp)
    · exact hs
  exact ⟨hc, hnamed.router, hnamed.windows⟩

/-- What a command's work keeps, the command keeps: while RESETn is held low it does nothing. -/
theorem running_keeps {P : State → Prop} {f : State → State} (hs : P s) (hf : P (f s)) (h : running f s = .next t) :
    P t := by
  unfold running at h
  split at h <;> cases h
  · exact hs
  · exact hf

theorem bounded_running {f : State → State} (hs : Bounded s) (hf : Bounded (f s)) (h : running f s = .next t) :
    Bounded t :=
  running_keeps hs hf h

theorem bounded_request {o : Owner} (hc : ownerOf c = some o) (hs : Bounded s) (h : exec c s = .next t) : Bounded t := by
  rw [exec_of_owner hc] at h
  refine bounded_running hs ?_ h
  unfold serve
  split
  · exact hs
  next r rest hi =>
    split
    next hmine =>
      obtain ⟨htakes, -⟩ := Bool.and_eq_true_iff.mp hmine
      rw [answer_of_cabinet _ (proper_owner hc r (s.taken rest)).cabinet]
      have htaken : Bounded (s.taken rest) :=
        bounded_onCabinet hs
          ⟨(bounded_replied (st := .ok) (data := []) hs.cabinet hi htakes).inbox, hs.cabinet.replies, hs.cabinet.forwards,
            hs.cabinet.alertRun⟩
      have hserved := bounded_owner hc r htaken
      exact bounded_answered ⟨hs.cabinet, hserved.router, hserved.windows⟩ (bounded_replied hs.cabinet hi htakes)
    next => exact hs

/-! ### The commands that no request asks for -/

theorem bounded_onlyIf {b : Bool} {f : State → State} (hs : Bounded s) (hf : Bounded (f s)) : Bounded (onlyIf b f s) := by
  unfold onlyIf
  split
  · exact hf
  · exact hs

/-- A command that acts on one drum where its trigger holds. -/
theorem bounded_of_trigger {b : State → Bool} {f : State → State} (hs : Bounded s) (hb : (f s).besides d = s.besides d)
    (hw : ((f s).drum d).dryness.window = (s.drum d).dryness.window)
    (h : running (fun s => onlyIf (b s) f s) s = .next t) : Bounded t :=
  bounded_running hs (bounded_onlyIf hs (bounded_of_window hs hb hw)) h

theorem bounded_execMainLaneLock (hs : Bounded s) (h : execMainLaneLock d s = .next t) : Bounded t := by
  refine bounded_running hs ?_ h
  split
  · exact bounded_of_window hs (besides_enterUp d s) (by simp)
  · exact bounded_of_window hs (besides_onPort d _ s) (by simp)
  all_goals exact hs

theorem bounded_execMainLaneLockLost (hs : Bounded s) (h : execMainLaneLockLost d s = .next t) : Bounded t := by
  refine bounded_running hs ?_ h
  split
  · exact bounded_of_window hs (besides_mainLaneLost d s) (window_mainLaneLost d s)
  · exact bounded_of_window hs (besides_onPort d _ s) (by simp)
  all_goals exact hs

theorem bounded_takeFrame {bytes : List Byte} (hs : Bounded s) : Bounded (takeFrame d bytes s) := by
  have hcount (f : Port → Port) : Bounded (s.onPort d f) := bounded_of_window hs (besides_onPort d f s) (by simp)
  unfold takeFrame
  dsimp only
  split
  · exact hcount _
  · refine bounded_of_lists (lists_onFlight _ _) ?_
    split
    · exact hs
    · exact hcount _

theorem bounded_execCommandFrameSent (hs : Bounded s) (h : execCommandFrameSent d s = .next t) : Bounded t := by
  refine bounded_running hs ?_ h
  split
  · exact hs
  · exact bounded_of_window hs (besides_onPort d _ s) (by simp)

theorem bounded_execReplyTransmitEnd (hs : Bounded s) (h : execReplyTransmitEnd s = .next t) : Bounded t := by
  obtain ⟨hinbox, hreplies, hforwards, hrun⟩ := hs.cabinet
  refine bounded_running hs ?_ h
  split
  · split
    · exact ⟨bounded_reset.cabinet, bounded_reset.router, bounded_reset.windows⟩
    · exact bounded_onCabinet hs ⟨hinbox, by rw [List.length_tail]; omega, hforwards, hrun⟩
  · exact hs

theorem bounded_execForwardRecordEnd (hs : Bounded s) (h : execForwardRecordEnd s = .next t) : Bounded t := by
  obtain ⟨hinbox, hreplies, hforwards, hrun⟩ := hs.cabinet
  refine bounded_running hs ?_ h
  split
  · exact bounded_onCabinet hs ⟨hinbox, hreplies, by rw [List.length_tail]; omega, hrun⟩
  · exact hs

theorem bounded_execAlertFrameEnd (hs : Bounded s) (h : execAlertFrameEnd s = .next t) : Bounded t := by
  obtain ⟨hinbox, hreplies, hforwards, hrun⟩ := hs.cabinet
  refine bounded_running hs ?_ h
  split
  next event d count _ _ =>
    have hsent : Bounded (s.onRouter fun r => r.update event d (·.sentComplete count)) := by
      refine bounded_onRouter hs (hs.router.update fun e => ?_)
      unfold AlertEntry.sentComplete
      split <;> rfl
    exact bounded_onCabinet hsent ⟨hinbox, hreplies, hforwards, hrun⟩
  next => exact hs

theorem bounded_execLookup (hs : Bounded s) (h : execLookup d s = .next t) : Bounded t := by
  refine bounded_running hs ?_ h
  split
  · exact hs
  · exact bounded_lookUp (bounded_of_lists (lists_onFlight _ s) hs)

theorem bounded_execEventTaken {src : Block} (hs : Bounded s) (h : execEventTaken src s = .next t) : Bounded t := by
  refine bounded_running hs ?_ h
  split
  · exact hs
  · exact bounded_takeEvent (bounded_of_lists (lists_onFlight _ s) hs)

theorem bounded_execHeatDemand (hs : Bounded s) (h : execHeatDemand d s = .next t) : Bounded t := by
  refine bounded_running hs ?_ h
  split
  · exact hs
  · exact bounded_of_lists ((lists_takeDemand d _ _).trans (lists_onFlight _ s)) hs

theorem bounded_execAttributeIncrement {src : Block} (hs : Bounded s) (h : execAttributeIncrement src s = .next t) :
    Bounded t := by
  refine bounded_running hs ?_ h
  split
  · exact hs
  · exact bounded_of_lists ((lists_takeIncrement _ _ _).trans (lists_onFlight _ s)) hs

/-! ### The absorbed values -/

theorem bounded_dropAbsorbed {p : Drum × Absorbed} (hs : Bounded s) : Bounded (dropAbsorbed p s) :=
  bounded_of_lists (lists_onFlight _ s) hs

theorem bounded_execInletTempAbsorbed (hs : Bounded s) (h : execInletTempAbsorbed d s = .next t) : Bounded t := by
  refine bounded_running hs ?_ h
  split
  · exact bounded_of_window (bounded_dropAbsorbed hs) (besides_takeInlet d _ _) (by simp)
  · exact hs

theorem bounded_execExhaustTempAbsorbed (hs : Bounded s) (h : execExhaustTempAbsorbed d s = .next t) : Bounded t := by
  refine bounded_running hs ?_ h
  split
  · exact bounded_of_window (bounded_dropAbsorbed hs) (besides_takeExhaust d _ _) (window_takeExhaust d _ _)
  · exact hs

theorem bounded_execMotorCurrentAbsorbed (hs : Bounded s) (h : execMotorCurrentAbsorbed d s = .next t) : Bounded t := by
  refine bounded_running hs ?_ h
  split
  · exact bounded_of_window (bounded_dropAbsorbed hs) (besides_takeCurrent d _ _) (by simp)
  · exact hs

/-- The one command that makes a window longer (R158). -/
theorem bounded_execWetCountAbsorbed (hs : Bounded s) (h : execWetCountAbsorbed d s = .next t) : Bounded t := by
  refine bounded_running hs ?_ h
  split
  · have hdropped {p : Drum × Absorbed} : Bounded (dropAbsorbed p s) := bounded_dropAbsorbed hs
    exact bounded_of_besides (besides_takeWet d _ _) (window_takeWet_length_le (hdropped.windows d)) hdropped
  · exact hs

theorem bounded_execDriveStatAbsorbed (hs : Bounded s) (h : execDriveStatAbsorbed d s = .next t) : Bounded t := by
  refine bounded_running hs ?_ h
  split
  · exact bounded_of_window (bounded_dropAbsorbed hs) (besides_takeDriveStat d _ _) (window_takeDriveStat d _ _)
  · exact hs

theorem bounded_execFlameStatAbsorbed (hs : Bounded s) (h : execFlameStatAbsorbed d s = .next t) : Bounded t := by
  refine bounded_running hs ?_ h
  split
  · exact bounded_of_lists (lists_takeFlameStat d _ _) (bounded_dropAbsorbed hs)
  · exact hs

end

/-! ### Every command -/

/-- Every command keeps the bounds: the requests by their owners, the resets by their empty queues, the commands of a drum
because they touch that drum alone and, the wet count excepted, leave its window as it is. -/
theorem bounded_exec {c : Instr} {s t : State} (hs : Bounded s) (h : exec c s = .next t) : Bounded t := by
  cases hc : ownerOf c with
  | some o => exact bounded_request hc hs h
  | none =>
    cases c
    case powerOnReset | resetnAssert =>
      cases h
      exact ⟨bounded_reset.cabinet, bounded_reset.router, bounded_reset.windows⟩
    case resetnRelease =>
      cases h
      split
      · exact ⟨hs.cabinet, hs.router, hs.windows⟩
      · exact hs
    case cabinetLock =>
      refine bounded_running hs (bounded_onCabinet hs ?_) (show execCabinetLock s = _ from h)
      exact ⟨hs.cabinet.inbox, hs.cabinet.replies, hs.cabinet.forwards, hs.cabinet.alertRun⟩
    case cabinetLockLost => exact bounded_running hs (bounded_cabinetLost hs) h
    case cabinetFrameReceived => exact bounded_running hs (bounded_onlyIf hs (bounded_takeCabinetFrame hs)) h
    case transmitChoice => exact bounded_running hs (bounded_onlyIf hs (bounded_choose hs)) h
    case replyTransmitEnd => exact bounded_execReplyTransmitEnd hs h
    case alertFrameEnd => exact bounded_execAlertFrameEnd hs h
    case forwardRecordEnd => exact bounded_execForwardRecordEnd hs h
    case mainLaneLock => exact bounded_execMainLaneLock hs h
    case mainLaneLockLost => exact bounded_execMainLaneLockLost hs h
    case mainLaneFrameReceived => exact bounded_running hs (bounded_onlyIf hs (bounded_takeFrame hs)) h
    case lookup => exact bounded_execLookup hs h
    case inletTempAbsorbed => exact bounded_execInletTempAbsorbed hs h
    case exhaustTempAbsorbed => exact bounded_execExhaustTempAbsorbed hs h
    case motorCurrentAbsorbed => exact bounded_execMotorCurrentAbsorbed hs h
    case wetCountAbsorbed => exact bounded_execWetCountAbsorbed hs h
    case driveStatAbsorbed => exact bounded_execDriveStatAbsorbed hs h
    case flameStatAbsorbed => exact bounded_execFlameStatAbsorbed hs h
    case heatDemand => exact bounded_execHeatDemand hs h
    case entryWaitExpiry d => exact bounded_running hs (bounded_of_lists (lists_judgeWait d s) hs) h
    case trialExpiry d =>
      exact bounded_running hs (bounded_onlyIf hs (bounded_of_lists (lists_failedAttempt d s) hs)) h
    case eventTaken => exact bounded_execEventTaken hs h
    case attributeIncrement => exact bounded_execAttributeIncrement hs h
    case commandFrameSent => exact bounded_execCommandFrameSent hs h
    case graceExpiry d =>
      exact bounded_of_trigger hs (besides_graceExpires d s) (window_graceExpires d s) (show execGraceExpiry d s = _ from h)
    case serviceLaneLock d =>
      exact bounded_of_trigger hs (besides_onPort d _ s) (by simp) (show execServiceLaneLock d s = _ from h)
    case serviceLaneLockLost d =>
      exact bounded_of_trigger hs (besides_serviceLaneDown d s) (window_serviceLaneDown d s)
        (show execServiceLaneLockLost d s = _ from h)
    case discreteReport d raw =>
      exact bounded_of_trigger hs (besides_takeDiscretes d raw s) (by simp) (show execDiscreteReport d raw s = _ from h)
    case debounceExpiry d x =>
      exact bounded_of_trigger hs (besides_debounceExpires d x s) (window_debounceExpires d x s)
        (show execDebounceExpiry d x s = _ from h)
    case presenceReport d b =>
      exact bounded_of_trigger hs (besides_setPresence d b s) (window_setPresence d b s)
        (show execPresenceReport d b s = _ from h)
    case commandFrameSend d =>
      exact bounded_of_trigger hs (besides_beginSend d s) (by simp) (show execCommandFrameSend d s = _ from h)
    case refreshExpiry d =>
      exact bounded_of_trigger hs (besides_refreshExpires d s) (by simp) (show execRefreshExpiry d s = _ from h)
    case standbyExpiry d =>
      exact bounded_of_trigger hs (besides_movePort d _ s) (by simp) (show execStandbyExpiry d s = _ from h)
    case armReport d => exact bounded_of_trigger hs (besides_testArmed d s) (by simp) (show execArmReport d s = _ from h)
    case armTimeout d => exact bounded_of_trigger hs (besides_leaveTest d _ s) (by simp) (show execArmTimeout d s = _ from h)
    case testReport d n =>
      exact bounded_of_trigger hs (besides_closeInterval d _ s) (by simp) (show execTestReport d n s = _ from h)
    case checkerInterval d n =>
      exact bounded_of_trigger hs (besides_checkerCloses d n s) (by simp) (show execCheckerInterval d n s = _ from h)
    case proveTimeout d =>
      exact bounded_of_trigger hs (besides_cycleHalt d _ s) (window_cycleHalt d _ s) (show execProveTimeout d s = _ from h)
    case airTimeEnd d =>
      exact bounded_of_trigger hs (besides_enterTarget d s) (window_enterTarget d s) (show execAirTimeEnd d s = _ from h)
    case dryingTimeLimit d =>
      exact bounded_of_trigger hs (besides_startCooling d _ s) (window_startCooling d _ s)
        (show execDryingTimeLimit d s = _ from h)
    case minimumCoolTimeReached d =>
      exact bounded_of_trigger (d := d) hs (by simp) (by simp) (show execMinimumCoolTimeReached d s = _ from h)
    case maximumCoolTime d =>
      exact bounded_of_trigger hs (besides_coolingEnds d s) (window_coolingEnds d s) (show execMaximumCoolTime d s = _ from h)
    case guardIntervalExpiry d =>
      exact bounded_of_trigger hs (besides_guardIntervalEnds d s) (by simp) (show execGuardIntervalExpiry d s = _ from h)
    case guardLimit d =>
      exact bounded_of_trigger hs (besides_enterDone d s) (window_enterDone d s) (show execGuardLimit d s = _ from h)
    case fanOverrunExpiry d =>
      exact bounded_of_trigger (d := d) hs (by simp) (by simp) (show execFanOverrunExpiry d s = _ from h)
    case pauseLimitExpiry d =>
      exact bounded_of_trigger hs (besides_pauseLimitEnds d s) (window_pauseLimitEnds d s)
        (show execPauseLimitExpiry d s = _ from h)
    case statusWaitExpiry d =>
      exact bounded_of_trigger hs (besides_onTumble d _ s) (by simp) (show execStatusWaitExpiry d s = _ from h)
    case runLengthEnd d =>
      exact bounded_of_trigger hs (besides_endNormalRun d s) (by simp) (show execRunLengthEnd d s = _ from h)
    case maximumRunSeconds d =>
      exact bounded_of_trigger hs (besides_endNormalRun d s) (by simp) (show execMaximumRunSeconds d s = _ from h)
    case minimumRunReached d =>
      exact bounded_of_trigger hs (besides_minimumRunReached d s) (by simp) (show execMinimumRunReached d s = _ from h)
    case guardTumbleEnd d =>
      exact bounded_of_trigger hs (besides_enterDecel d _ s) (by simp) (show execGuardTumbleEnd d s = _ from h)
    case decelTimeout d =>
      exact bounded_of_trigger hs (besides_decelTimeout d s) (window_decelTimeout d s) (show execDecelTimeout d s = _ from h)
    case dwellExpiry d => exact bounded_of_trigger hs (besides_beginRun d s) (by simp) (show execDwellExpiry d s = _ from h)
    case recoverDelayExpiry d =>
      exact bounded_of_trigger hs (besides_beginRun d s) (by simp) (show execRecoverDelayExpiry d s = _ from h)
    case retryDelayExpiry d =>
      exact bounded_of_trigger hs (besides_retryDelayEnds d s) (by simp) (show execRetryDelayExpiry d s = _ from h)
    case stableFlameExpiry d =>
      exact bounded_of_trigger hs (besides_onBurner d _ s) (by simp) (show execStableFlameExpiry d s = _ from h)
    case inletStarvationExpiry d =>
      exact bounded_of_trigger (d := d) hs (by simp) (by simp) (show execInletStarvationExpiry d s = _ from h)
    case extraDryExpiry d =>
      exact bounded_of_trigger hs (besides_extraDryEnds d s) (window_extraDryEnds d s) (show execExtraDryExpiry d s = _ from h)
    case sampleStarvationExpiry d =>
      exact bounded_of_trigger (d := d) hs (by simp) (by simp) (show execSampleStarvationExpiry d s = _ from h)
    all_goals cases hc

end Sys2Proof.Machine
end

section
/-! Every step keeps the queues, the alert list and the wetness windows within their bounds, and the spare routes empty;
settles O57. -/

namespace Sys2Proof.Machine

section
variable {s t u : State} {r : Request}

/-! ### The spare routes (R170, R171) -/

theorem spareRoutesEmpty_of_routes (h : t.router.routes = s.router.routes) (hs : SpareRoutesEmpty s) :
    SpareRoutesEmpty t := by
  unfold SpareRoutesEmpty
  rw [h]
  exact hs

theorem val_le_of_eventOf {n : Nat} {e : Fin 32} (h : eventOf n = some e) : e.val ≤ 29 := by
  unfold eventOf at h
  split at h
  next hn => cases h; exact hn
  next => cases h

/-- ROUTE_WRITE reaches no route of a code that no event has (R171). -/
theorem spareRoutesEmpty_writeRoute (hu : SpareRoutesEmpty u) : SpareRoutesEmpty (writeRoute r u).state := by
  unfold writeRoute
  split
  next e x he _ =>
    have hle := val_le_of_eventOf he
    have hset (n : Fin 32) (hn : 29 < n.val) : (u.router.routes.set e.val x)[n] = u.router.routes[n] :=
      Vector.getElem_set_ne e.isLt n.isLt (by omega)
    obtain ⟨h30, h31⟩ := hu
    exact ⟨(hset 30 (by decide)).trans h30, (hset 31 (by decide)).trans h31⟩
  next => exact hu

theorem spareRoutesEmpty_execRouteWrite (hs : SpareRoutesEmpty s) (h : execRouteWrite s = .next t) :
    SpareRoutesEmpty t := by
  refine running_keeps hs ?_ h
  unfold serve
  split
  · exact hs
  next r rest _ =>
    split
    · have hroutes := congrArg Settings.routes (settings_answer (r := r) rest (writeRoute r) s)
      exact spareRoutesEmpty_of_routes hroutes (spareRoutesEmpty_writeRoute (u := s.taken rest) hs)
    · exact hs

theorem spareRoutesEmpty_execReplyTransmitEnd (hs : SpareRoutesEmpty s) (h : execReplyTransmitEnd s = .next t) :
    SpareRoutesEmpty t := by
  refine running_keeps hs ?_ h
  split
  · split
    · exact spareRoutesEmpty_reset
    · exact hs
  · exact hs

end

/-- Every command keeps the spare routes empty: only ROUTE_WRITE and the resets change a route. -/
theorem spareRoutesEmpty_exec {c : Instr} {s t : State} (hs : SpareRoutesEmpty s) (h : exec c s = .next t) :
    SpareRoutesEmpty t := by
  by_cases hreset : c ∈ resetCommands
  · simp only [resetCommands, List.mem_cons, List.not_mem_nil, or_false] at hreset
    rcases hreset with rfl | rfl | rfl
    · cases h; exact spareRoutesEmpty_reset
    · cases h; exact spareRoutesEmpty_reset
    · cases h; split <;> exact hs
  by_cases hreply : c = .replyTransmitEnd
  · subst hreply; exact spareRoutesEmpty_execReplyTransmitEnd hs h
  by_cases hroute : c = .routeWrite
  · subst hroute; exact spareRoutesEmpty_execRouteWrite hs h
  exact spareRoutesEmpty_of_routes ((settingsKept_exec hreset hreply h).routes hroute) hs

/-! ### Steps -/

/-- A millisecond touches no queue, no alert and no window. -/
theorem bounded_tick {s : State} (hs : Bounded s) : Bounded (tick s) := by
  have hwindows (d : Drum) : ((tick s).drum d).dryness.window = (s.drum d).dryness.window := by
    rw [drum_tick]
    split <;> rfl
  have hlists : (tick s).lists = s.lists := by
    unfold State.lists
    rw [funext hwindows]
    unfold tick
    split <;> rfl
  exact bounded_of_lists hlists hs

/-- Settles O57: a millisecond leaves the lists alone, and every command keeps their bounds and the spare routes. -/
theorem queuesAndListsStayBounded : Obligations.QueuesAndListsStayBounded := by
  intro s t hqueues hdistinct hwindows hstep
  have hs : Bounded s := bounded_iff.mpr ⟨hqueues, hdistinct, hwindows⟩
  have hboth : Bounded t ∧ (SpareRoutesEmpty s → SpareRoutesEmpty t) := by
    unfold step at hstep
    split at hstep
    · cases hstep
      refine ⟨bounded_tick hs, fun h => ?_⟩
      unfold tick
      split <;> exact h
    next c rest _ =>
      exact ⟨bounded_exec (s := { s with pending := rest }) ⟨hs.cabinet, hs.router, hs.windows⟩ hstep,
        fun h => spareRoutesEmpty_exec (s := { s with pending := rest }) h hstep⟩
  obtain ⟨ht, hspare⟩ := hboth
  obtain ⟨hq, hd, hw⟩ := bounded_iff.mp ht
  exact ⟨hq, hd, hw, hspare⟩

end Sys2Proof.Machine
end

section
/-! The values after reset, table by table; settles O5. -/

namespace Sys2Proof.Machine

/-- Table 2-4: every port's miss action. -/
theorem miss_reset (d : Drum) : State.reset.classifier.miss[d] = .forwardMarked :=
  Vector.getElem_replicate d.isLt

/-- Table 5-2: every profile holds the values of a new one. -/
theorem profile_reset (n : Fin 8) : State.reset.profiles[n] = {} := Vector.getElem_replicate n.isLt

/-- Table 10-3: the routes by code. -/
theorem route_reset (n : Fin 32) :
    State.reset.router.routes[n] =
      if n.val ∈ [4, 7, 9, 14] then { cls := .fault, line := true, action := .none }
      else if n.val ∈ [5, 8, 11, 15] then { cls := .warning, line := false, action := .none }
      else if n.val = 13 then { cls := .notice, line := false, action := .none }
      else { cls := .none, line := false, action := .none } := by
  have hcode : State.reset.router.routes[n] = resetRoute n.val := Vector.getElem_ofFn n.isLt
  rw [hcode]
  simp [resetRoute]

/-- Table 11-2: every attribute record. -/
theorem attr_reset (d : Drum) (a : Fin 8) : State.reset.attr d a = {} := by
  simp [State.attr, State.reset]

/-- Table 11-2: every limit of the threshold table. -/
theorem threshold_reset (a : Fin 8) : State.reset.attributes.table[a] = {} := Vector.getElem_replicate a.isLt

/-- Settles O5: the part's own fields by evaluation, the vectors by what they repeat, the drums as new ones. -/
theorem resetStateHoldsTheTables : Obligations.ResetStateHoldsTheTables := by
  refine ⟨rfl, rfl, rfl, rfl, rfl, rfl, rfl, rfl, miss_reset, profile_reset, rfl, rfl, rfl, rfl, rfl, share_reset, rfl, rfl,
    route_reset, attr_reset, rfl, rfl, threshold_reset, fun d => ?_⟩
  rw [drum_reset d]
  exact ⟨rfl, rfl, rfl, rfl, rfl, rfl, rfl⟩

end Sys2Proof.Machine
end

section
/-! One millisecond, drum by drum; settles O2. -/

namespace Sys2Proof.Machine

theorem countDown_running (t : Timer) : countDown true t = t.map (· - 1) := rfl

theorem countDown_eq_ite {b : Bool} {p : Prop} [Decidable p] (h : b = true ↔ p) (t : Timer) :
    countDown b t = if p then t.map (· - 1) else t := by
  unfold countDown
  simp only [h]

theorem tick_released {s : State} (h : s.resetHeld = false) :
    tick s =
      { s with
        clock := s.clock + 1
        drums := #v[s.drums[0].tick, s.drums[1].tick, s.drums[2].tick, s.drums[3].tick] } :=
  if_neg (Bool.eq_false_iff.mp h)

/-- Settles O2: the clock and each drum's tick. -/
theorem emptyQueueStepIsOneMillisecond : Obligations.EmptyQueueStepIsOneMillisecond := by
  intro s hempty
  have hstep : step s = .next (tick s) := by
    unfold step
    rw [hempty]
  refine ⟨fun hheld => ?_, fun hrun => ⟨tick s, hstep, ?_, ?_, fun d => ?_⟩⟩
  · rw [hstep, tick, if_pos hheld]
  · rw [tick_released hrun]
  · rw [tick_released hrun]
  · have hup : ((s.drum d).port.state == .up) = true ↔ (s.drum d).port.state = .up := beq_iff_eq
    have hdrying : ((s.drum d).cycle.state == .drying) = true ↔ (s.drum d).cycle.state = .drying := beq_iff_eq
    have hwet : ((s.drum d).cycle.state == .drying && (s.drum d).tumble.state.running) = true ↔
        (s.drum d).cycle.state = .drying ∧ (s.drum d).tumble.state.running = true := by
      rw [Bool.and_eq_true, beq_iff_eq]
    rw [drum_tick, hrun]
    simp only [Bool.false_eq_true, if_false, DrumState.tick, Port.tick, Cycle.tick, Tumble.tick, Burner.tick, Dryness.tick,
      countDown_running, countDown_eq_ite hup, countDown_eq_ite hdrying, countDown_eq_ite hwet, add_ite, add_zero]

end Sys2Proof.Machine
end

section
/-! The resets of the part (R64, R65); settles O4. -/

namespace Sys2Proof.Machine

/-- Every command but the resets acts only while RESETn is not held low (R65). -/
theorem exists_running_of_not_reset {c : Instr} (hc : c ∉ resetCommands) : ∃ f, ∀ s, exec c s = running f s := by
  cases c
  case powerOnReset | resetnAssert | resetnRelease => exact absurd (by simp [resetCommands]) hc
  all_goals exact ⟨_, fun _ => rfl⟩

section
variable {s : State} {r : Request} {rest : List Request}

theorem exec_held {c : Instr} (hheld : s.resetHeld = true) (hc : c ∉ resetCommands) : exec c s = .next s := by
  obtain ⟨f, hf⟩ := exists_running_of_not_reset hc
  rw [hf, running_held f hheld]

theorem exec_partReset (ho : s.offers r rest) (hcode : r.code = 25) (ha : r.args = []) :
    exec .partReset s = .next { s with cabinet := s.replied r rest .ok [] } := by
  have hn : r.code.toNat = 25 := by rw [hcode]; rfl
  have hm : isCode 25 r = true := isCode_of_length hn (by rw [ha]; rfl)
  have hnames : r.names = none := by unfold Request.names; rw [hn]; rfl
  exact exec_done_unnamed (f := fun u => u) rfl ho hm hnames rfl rfl

/-- While the OK reply to a PART_RESET waits, the engine takes no request (R64). -/
theorem takes_replied_partReset (hcode : r.code = 25) : (s.replied r rest .ok []).takes = false := by
  have hreset : (⟨r.tag, r.code, .ok, []⟩ : Reply).resetsPart = true := by simp [Reply.resetsPart, hcode]
  simp [Cabinet.takes, State.replied, hreset]

/-- The end of the transmission of that reply resets the part (R64). -/
theorem exec_replyTransmitEnd_partReset {q : Reply} {later : List Reply} {m a ma aa : Bool} {bytes : List Byte}
    (hrun : s.resetHeld = false) (hout : s.cabinet.outgoing = some (.reply m a ma aa bytes))
    (hq : s.cabinet.replies = q :: later) (hreset : q.resetsPart = true) :
    exec .replyTransmitEnd s = .next (resetValues false s) := by
  show execReplyTransmitEnd s = _
  unfold execReplyTransmitEnd
  rw [running_released _ hrun, hout, hq]
  exact congrArg Host.Outcome.next (if_pos hreset)

end

/-- Settles O4: the resets by their values, the other commands as none of them acts while RESETn is held low. -/
theorem resetsSetTheResetValues : Obligations.ResetsSetTheResetValues := by
  refine ⟨fun s => ⟨rfl, rfl, fun hheld => ?_, fun hrun => ?_, fun c hheld hc => exec_held hheld hc⟩,
    fun s r rest ho hcode ha => ⟨exec_partReset ho hcode ha, takes_replied_partReset hcode⟩,
    fun s tag later m a ma aa bytes hrun hout hq => exec_replyTransmitEnd_partReset hrun hout hq rfl⟩
  · exact congrArg Host.Outcome.next (if_pos hheld)
  · exact congrArg Host.Outcome.next (if_neg (Bool.eq_false_iff.mp hrun))

end Sys2Proof.Machine
end

section
/-! The cabinet link: lock, the frames that arrive and the ends of the frames sent (R48 to R54, R176); settles O7. -/

namespace Sys2Proof.Machine

/-! ### Frames -/

theorem length_withCheck (l : List Byte) : (withCheck l).length = l.length + 2 := by
  simp [withCheck, bytes16]

/-- A frame with its check passes it (R8). -/
theorem checkPassed_withCheck (l : List Byte) : checkPassed (withCheck l) = true := by
  have htake : (withCheck l).take ((withCheck l).length - 2) = l := by
    rw [length_withCheck]
    simp [withCheck]
  unfold checkPassed
  rw [htake]
  exact beq_self_eq_true _

section
variable {s : State}

theorem requestOf_malformed {bytes : List Byte}
    (h : checkPassed bytes = false ∨ bytes.length ≠ natAt bytes 1 + 4 ∨ natAt bytes 0 ≠ 1 ∨ natAt bytes 1 < 2 ∨
      64 < natAt bytes 1) : requestOf bytes = none := by
  unfold requestOf
  refine if_neg fun ⟨hlength, hcheck, htype, hrange⟩ => ?_
  simp only [within, Bool.and_eq_true, decide_eq_true_eq] at hrange
  rcases h with h | h | h | h | h
  · rw [hcheck] at h; cases h
  all_goals omega

/-- A request frame carries its tag, its code and its arguments (Table 12-3). -/
theorem requestOf_cabinetFrame {tag code : Byte} {args : List Byte} (h : args.length ≤ 62) :
    requestOf (cabinetFrame 1 (tag :: code :: args)) = some ⟨tag, code, args⟩ := by
  have hlength : natAt (cabinetFrame 1 (tag :: code :: args)) 1 = args.length + 2 := by
    have hbyte : natAt (cabinetFrame 1 (tag :: code :: args)) 1 = (byte (args.length + 2)).toNat := rfl
    rw [hbyte, byte, BitVec.toNat_ofNat]
    omega
  have hargs : ((cabinetFrame 1 (tag :: code :: args)).drop 4).take args.length = args := by
    simp [cabinetFrame, withCheck]
  unfold requestOf
  dsimp only
  rw [hlength, if_pos, Nat.add_sub_cancel, hargs]
  · rfl
  · refine ⟨?_, checkPassed_withCheck _, rfl, ?_⟩
    · simp [cabinetFrame, length_withCheck]
    · simp [within, h]

/-! ### Arriving frames -/

theorem exec_cabinetFrameReceived (bytes : List Byte) (hrun : s.resetHeld = false) :
    exec (.cabinetFrameReceived bytes) s = .next (onlyIf s.cabinet.linkUp (takeCabinetFrame bytes) s) :=
  running_released _ hrun

theorem exec_cabinetFrameReceived_down {bytes : List Byte} (hrun : s.resetHeld = false) (h : s.cabinet.linkUp = false) :
    exec (.cabinetFrameReceived bytes) s = .next s := by
  rw [exec_cabinetFrameReceived bytes hrun, h]
  rfl

theorem exec_cabinetFrameReceived_up {bytes : List Byte} (hrun : s.resetHeld = false) (h : s.cabinet.linkUp = true) :
    exec (.cabinetFrameReceived bytes) s = .next (takeCabinetFrame bytes s) := by
  rw [exec_cabinetFrameReceived bytes hrun, h]
  rfl

theorem takeCabinetFrame_none {bytes : List Byte} (h : requestOf bytes = none) : takeCabinetFrame bytes s = s := by
  unfold takeCabinetFrame; rw [h]

theorem takeCabinetFrame_some {bytes : List Byte} {r : Request} (h : requestOf bytes = some r) :
    takeCabinetFrame bytes s = offerRequest r s := by
  unfold takeCabinetFrame; rw [h]

/-! ### Lock and loss of lock -/

theorem exec_cabinetLock (hrun : s.resetHeld = false) :
    exec .cabinetLock s = .next { s with cabinet := { s.cabinet with linkUp := true } } := by
  show execCabinetLock s = _
  exact running_released _ hrun

theorem cutAlert_other {o : Option Outgoing} (h : ∀ event d count bytes, o ≠ some (.alert event d count bytes)) :
    cutAlert o s = s := by
  unfold cutAlert
  split
  · exact absurd rfl (h _ _ _ _)
  · rfl

theorem isFor_iff {e : AlertEntry} {event : Nat} {d : Drum} : e.isFor event d = true ↔ e.event = event ∧ e.drum = d := by
  simp [AlertEntry.isFor]

/-- An alert frame that is cut gives its entry back to the transmitter (R176). -/
theorem update_sendCut (r : Router) (event : Nat) (d : Drum) :
    r.update event d AlertEntry.sendCut =
      { r with
        alerts :=
          r.alerts.map fun e =>
            if e.event = event ∧ e.drum = d ∧ e.send = .sending then
              { e with send := if e.countSent = 0 then .unsent else .resend }
            else e } := by
  have hentry (e : AlertEntry) : (if e.isFor event d then e.sendCut else e) =
      if e.event = event ∧ e.drum = d ∧ e.send = .sending then
        { e with send := if e.countSent = 0 then .unsent else .resend }
      else e := by
    simp only [isFor_iff, ← and_assoc]
    by_cases hfor : e.event = event ∧ e.drum = d
    · cases hsend : e.send <;> simp [hfor, AlertEntry.sendCut, hsend]
    · simp [hfor]
  unfold Router.update
  simp only [hentry]

/-- An alert frame that ends complete makes its entry SENT, or leaves it to be sent again (R176). -/
theorem update_sentComplete (r : Router) (event : Nat) (d : Drum) (count : Nat) :
    r.update event d (·.sentComplete count) =
      { r with
        alerts :=
          r.alerts.map fun e =>
            if e.event = event ∧ e.drum = d ∧ e.send = .sending then { e with send := .sent, countSent := count }
            else if e.event = event ∧ e.drum = d ∧ e.send = .resend then { e with countSent := count }
            else e } := by
  have hentry (e : AlertEntry) : (if e.isFor event d then e.sentComplete count else e) =
      if e.event = event ∧ e.drum = d ∧ e.send = .sending then { e with send := .sent, countSent := count }
      else if e.event = event ∧ e.drum = d ∧ e.send = .resend then { e with countSent := count }
      else e := by
    simp only [isFor_iff, ← and_assoc]
    by_cases hfor : e.event = event ∧ e.drum = d
    · cases hsend : e.send <;> simp [hfor, AlertEntry.sentComplete, hsend]
    · simp [hfor]
  unfold Router.update
  simp only [hentry]

theorem exec_cabinetLockLost (hrun : s.resetHeld = false) : exec .cabinetLockLost s = .next (cabinetLost s) :=
  running_released _ hrun

theorem exec_cabinetLockLost_other (hrun : s.resetHeld = false)
    (h : ∀ event d count bytes, s.cabinet.outgoing ≠ some (.alert event d count bytes)) :
    exec .cabinetLockLost s = .next { s with cabinet := { s.cabinet with linkUp := false, outgoing := none } } := by
  rw [exec_cabinetLockLost hrun, cabinetLost, cutAlert_other h]
  rfl

theorem exec_cabinetLockLost_alert {event count : Nat} {d : Drum} {bytes : List Byte} (hrun : s.resetHeld = false)
    (h : s.cabinet.outgoing = some (.alert event d count bytes)) :
    exec .cabinetLockLost s =
      .next
        { s with
          cabinet := { s.cabinet with linkUp := false, outgoing := none }
          router := s.router.update event d AlertEntry.sendCut } := by
  rw [exec_cabinetLockLost hrun, cabinetLost, h]
  rfl

/-! ### The ends of the frames sent -/

/-- A flag that the reply carried set is cleared unless its cause recurred (R53). -/
theorem flag_after_reply (flag carried again : Bool) :
    (flag && (!carried || again)) = if carried = true ∧ again = false then false else flag := by
  cases carried <;> cases again <;> simp

theorem exec_replyTransmitEnd_reply {q : Reply} {rest : List Reply} {m a ma aa : Bool} {bytes : List Byte}
    (hrun : s.resetHeld = false) (hout : s.cabinet.outgoing = some (.reply m a ma aa bytes))
    (hq : s.cabinet.replies = q :: rest) (hreset : q.resetsPart = false) :
    exec .replyTransmitEnd s = .next (replyEnds m a ma aa s) := by
  show execReplyTransmitEnd s = _
  unfold execReplyTransmitEnd
  rw [running_released _ hrun, hout, hq]
  exact congrArg Host.Outcome.next (if_neg (Bool.eq_false_iff.mp hreset))

theorem replyEnds_eq {q : Reply} {rest : List Reply} {m a ma aa : Bool} (hq : s.cabinet.replies = q :: rest) :
    replyEnds m a ma aa s =
      { s with
        cabinet :=
          { s.cabinet with
            replies := rest
            mgmtOverrun := if m = true ∧ ma = false then false else s.cabinet.mgmtOverrun
            alertOverrun := if a = true ∧ aa = false then false else s.cabinet.alertOverrun
            outgoing := none } } := by
  simp only [replyEnds, State.onCabinet, hq, List.tail_cons, flag_after_reply]

theorem exec_forwardRecordEnd_forward {bytes : List Byte} {f : ForwardRecord} {rest : List ForwardRecord}
    (hrun : s.resetHeld = false) (hout : s.cabinet.outgoing = some (.forward bytes))
    (hf : s.cabinet.forwards = f :: rest) :
    exec .forwardRecordEnd s = .next { s with cabinet := { s.cabinet with forwards := rest, outgoing := none } } := by
  show execForwardRecordEnd s = _
  unfold execForwardRecordEnd
  rw [running_released _ hrun, hout]
  simp only [State.onCabinet, hf, List.tail_cons]

theorem exec_alertFrameEnd_alert {event count : Nat} {d : Drum} {bytes : List Byte} (hrun : s.resetHeld = false)
    (h : s.cabinet.outgoing = some (.alert event d count bytes)) :
    exec .alertFrameEnd s =
      .next
        { s with
          cabinet := { s.cabinet with outgoing := none }
          router := s.router.update event d (·.sentComplete count) } := by
  show execAlertFrameEnd s = _
  unfold execAlertFrameEnd
  rw [running_released _ hrun, h]
  rfl

/-- With no frame under way none ends. -/
theorem exec_frameEnd_idle {c : Instr} (hc : c ∈ [Instr.replyTransmitEnd, .forwardRecordEnd, .alertFrameEnd])
    (hrun : s.resetHeld = false) (h : s.cabinet.outgoing = none) : exec c s = .next s := by
  simp only [List.mem_cons, List.not_mem_nil, or_false] at hc
  rcases hc with rfl | rfl | rfl
  · show execReplyTransmitEnd s = _
    unfold execReplyTransmitEnd
    rw [running_released _ hrun, h]
  · show execForwardRecordEnd s = _
    unfold execForwardRecordEnd
    rw [running_released _ hrun, h]
  · show execAlertFrameEnd s = _
    unfold execAlertFrameEnd
    rw [running_released _ hrun, h]

end

/-- Settles O7: lock and its loss by the frame under way, an arriving frame by its form and the inbox, an end by its frame. -/
theorem cabinetFramesArriveAndEnd : Obligations.CabinetFramesArriveAndEnd := by
  refine ⟨fun s hrun => ⟨exec_cabinetLock hrun, exec_cabinetLockLost_other hrun, fun event d count bytes hout => ?_,
    fun bytes hdown => exec_cabinetFrameReceived_down hrun hdown, fun bytes hup hbad => ?_, fun tag code args hup hlen => ?_⟩,
    fun s hrun => ⟨fun m a ma aa bytes q rest hout hq hreset => ?_,
      fun bytes f rest hout hf => exec_forwardRecordEnd_forward hrun hout hf, fun event d count bytes hout => ?_,
      fun hidle => ⟨exec_frameEnd_idle (by simp) hrun hidle, exec_frameEnd_idle (by simp) hrun hidle,
        exec_frameEnd_idle (by simp) hrun hidle⟩⟩⟩
  · rw [exec_cabinetLockLost_alert hrun hout, update_sendCut]
  · rw [exec_cabinetFrameReceived_up hrun hup, takeCabinetFrame_none (requestOf_malformed hbad)]
  · rw [exec_cabinetFrameReceived_up hrun hup, takeCabinetFrame_some (requestOf_cabinetFrame hlen)]
    exact ⟨fun hroom => congrArg Host.Outcome.next (if_pos hroom),
      fun hfull => congrArg Host.Outcome.next (if_neg (not_lt.mpr hfull))⟩
  · rw [exec_replyTransmitEnd_reply hrun hout hq hreset, replyEnds_eq hq]
  · rw [exec_alertFrameEnd_alert hrun hout, update_sentComplete]

end Sys2Proof.Machine
end

section
/-! The transmitter's choice (R55, R56, R175); settles O8. -/

namespace Sys2Proof.Machine

section
variable {s : State}

theorem exec_transmitChoice_idle (hrun : s.resetHeld = false) (h : s.cabinet.linkUp = false ∨ s.cabinet.outgoing ≠ none) :
    exec .transmitChoice s = .next s := by
  have hblocked : (s.cabinet.linkUp && s.cabinet.outgoing.isNone) = false := by
    rcases h with h | h
    · rw [h]; rfl
    · cases hout : s.cabinet.outgoing
      · exact absurd hout h
      · exact Bool.and_false _
  show execTransmitChoice s = _
  unfold execTransmitChoice
  rw [running_released _ hrun, hblocked]
  rfl

theorem exec_transmitChoice_free (hrun : s.resetHeld = false) (hup : s.cabinet.linkUp = true)
    (hfree : s.cabinet.outgoing = none) : exec .transmitChoice s = .next (choose s) := by
  show execTransmitChoice s = _
  unfold execTransmitChoice
  rw [running_released _ hrun, hup, hfree]
  rfl

/-! ### The choice -/

theorem choose_reply {q : Reply} {rest : List Reply} (h : s.cabinet.replies = q :: rest) : choose s = beginReply q s := by
  unfold choose; rw [h]

theorem beginHead_cons {f : ForwardRecord} {rest : List ForwardRecord} (h : s.cabinet.forwards = f :: rest) :
    beginHead s = beginForward f s := by
  unfold beginHead; rw [h]

theorem beginHead_nil (h : s.cabinet.forwards = []) : beginHead s = s := by
  unfold beginHead; rw [h]

/-- Without a reply and without an alert the head forward record goes, if there is one. -/
theorem choose_without_alert (hq : s.cabinet.replies = []) (h : s.router.nextAlert = none) : choose s = beginHead s := by
  unfold choose
  rw [hq, h]
  exact ite_self _

/-- After four alerts a waiting forward record goes before the next alert (R56). -/
theorem choose_after_alertRun {f : ForwardRecord} {rest : List ForwardRecord} (hq : s.cabinet.replies = [])
    (hf : s.cabinet.forwards = f :: rest) (hrun : 4 ≤ s.cabinet.alertRun) : choose s = beginHead s := by
  unfold choose
  rw [hq]
  exact if_pos ⟨hrun, by rw [hf]; exact List.cons_ne_nil _ _⟩

theorem choose_alert {e : AlertEntry} (hq : s.cabinet.replies = []) (h : s.router.nextAlert = some e)
    (hrun : s.cabinet.alertRun < 4 ∨ s.cabinet.forwards = []) : choose s = beginAlert e s := by
  have hnot : ¬(4 ≤ s.cabinet.alertRun ∧ s.cabinet.forwards ≠ []) := fun ⟨hfull, hwaits⟩ =>
    hrun.elim (fun hroom => by omega) hwaits
  unfold choose
  rw [hq, h]
  exact if_neg hnot

/-! ### The alert list -/

/-- The next alert is the first entry UNSENT or RESEND (R175). -/
theorem nextAlert_eq {r : Router} {before after : List AlertEntry} {e : AlertEntry} (h : r.alerts = before ++ e :: after)
    (hb : ∀ x ∈ before, x.send = .sending ∨ x.send = .sent) (he : e.send = .unsent ∨ e.send = .resend) :
    r.nextAlert = some e := by
  unfold Router.nextAlert
  rw [h, List.find?_append, List.find?_eq_none.mpr, Option.none_or, List.find?_cons_of_pos]
  · rcases he with he | he <;> rw [he] <;> rfl
  · intro x hx
    rcases hb x hx with hx | hx <;> rw [hx] <;> decide

/-- In a list with one entry for each event and drum, a change of the entry of an event and drum changes that one alone. -/
theorem update_middle {r : Router} {before after : List AlertEntry} {e : AlertEntry} (f : AlertEntry → AlertEntry)
    (h : r.alerts = before ++ e :: after) (hd : (r.alerts.map AlertEntry.key).Nodup) :
    r.update e.event e.drum f = { r with alerts := before ++ f e :: after } := by
  have hself : e.isFor e.event e.drum = true := isFor_iff.mpr ⟨rfl, rfl⟩
  have hother (l : List AlertEntry) (hl : ∀ x ∈ l, x.key ≠ e.key) :
      l.map (fun x => if x.isFor e.event e.drum then f x else x) = l := by
    refine (List.map_congr_left fun x hx => if_neg fun hfor => hl x hx ?_).trans (List.map_id l)
    obtain ⟨hevent, hdrum⟩ := isFor_iff.mp hfor
    exact Prod.ext hevent hdrum
  rw [h, List.map_append, List.map_cons, List.nodup_append, List.nodup_cons] at hd
  obtain ⟨-, ⟨hafter, -⟩, hbefore⟩ := hd
  unfold Router.update
  rw [h, List.map_append, List.map_cons, if_pos hself,
    hother before fun x hx => hbefore _ (List.mem_map_of_mem hx) _ (List.mem_cons_self ..),
    hother after fun x hx hkey => hafter (hkey ▸ List.mem_map_of_mem hx)]

theorem beginAlert_eq {before after : List AlertEntry} {e : AlertEntry} (hd : AlertsDistinct s)
    (h : s.router.alerts = before ++ e :: after) :
    beginAlert e s =
      { s with
        router := { s.router with alerts := before ++ { e with send := .sending } :: after }
        cabinet :=
          { s.cabinet with
            alertRun := if s.cabinet.forwards = [] then 0 else min 4 (s.cabinet.alertRun + 1)
            outgoing := some (.alert e.event e.drum e.count (cabinetFrame 4 e.body)) } } := by
  have hmarked := update_middle (fun e => { e with send := .sending }) h hd
  simp only [beginAlert, State.onRouter, State.onCabinet, hmarked, List.isEmpty_iff]

end

/-- Settles O8: a reply first; an alert while fewer than four have gone before a waiting forward record; then that record. -/
theorem transmitterChoosesByRule : Obligations.TransmitterChoosesByRule := by
  intro s hrun
  refine ⟨exec_transmitChoice_idle hrun, fun hup hfree => ?_⟩
  rw [exec_transmitChoice_free hrun hup hfree]
  refine ⟨fun q rest hq => ?_, fun hq => ⟨fun f rest hf hturn => ?_, fun before e after hd halerts hb he hturn => ?_,
    fun hf hnone => ?_⟩⟩
  · rw [choose_reply hq]
    rfl
  · have hchoice : choose s = beginHead s := by
      rcases hturn with hfull | hnone
      · exact choose_after_alertRun hq hf hfull
      · exact choose_without_alert hq hnone
    rw [hchoice, beginHead_cons hf]
    rfl
  · rw [choose_alert hq (nextAlert_eq halerts hb he) hturn, beginAlert_eq hd halerts]
  · rw [choose_without_alert hq hnone, beginHead_nil hf]

end Sys2Proof.Machine
end

section
/-! PASS_THROUGH and the command gate (R58 to R61); settles O33. -/

namespace Sys2Proof.Machine

/-! ### The checks on the arguments -/

section
variable {s u : State} {r : Request} {rest : List Request} {d : Drum} {dest kind channel : Byte} {payload : List Byte}

theorem within_iff {lo hi n : Nat} : within lo hi n = true ↔ lo ≤ n ∧ n ≤ hi := by simp [within]

theorem passInRange_args :
    passInRange (byte d.val :: dest :: kind :: channel :: payload) = true ↔
      0 < dest.toNat ∧ dest.toNat ≤ 15 ∧ kind.toNat ≤ 31 ∧ channel.toNat ≤ 15 ∧ payload.length ≤ 16 := by
  have hdest : natAt (byte d.val :: dest :: kind :: channel :: payload) 1 = dest.toNat := rfl
  have hkind : natAt (byte d.val :: dest :: kind :: channel :: payload) 2 = kind.toNat := rfl
  have hchannel : natAt (byte d.val :: dest :: kind :: channel :: payload) 3 = channel.toNat := rfl
  simp only [passInRange, hdest, hkind, hchannel, Bool.and_eq_true, within_iff, decide_eq_true_eq, List.length_cons]
  omega

theorem passThrough_outOfRange (ha : r.args = byte d.val :: dest :: kind :: channel :: payload)
    (h : passInRange r.args = false) : passThrough r u = refuse .badArg u := by
  unfold passThrough
  rw [onDrumArg_args ha, h]
  rfl

theorem passThrough_portDown (ha : r.args = byte d.val :: dest :: kind :: channel :: payload)
    (h : passInRange r.args = true) (hport : (u.drum d).port.state ≠ .up) : passThrough r u = refuse .portDown u := by
  unfold passThrough
  rw [onDrumArg_args ha, h]
  exact if_pos hport

/-- A frame in range at a port in UP comes to the gate. -/
theorem passThrough_up (ha : r.args = byte d.val :: dest :: kind :: channel :: payload) (h : passInRange r.args = true)
    (hport : (u.drum d).port.state = .up) :
    passThrough r u = gate d ⟨dest.toNat, kind.toNat, channel.toNat, payload⟩ u := by
  unfold passThrough
  rw [onDrumArg_args ha, h, ha]
  exact if_neg (not_not.mpr hport)

theorem exec_passThrough_refused {st : Status} (ho : s.offers r rest) (hm : isCode 19 r = true)
    (h : passThrough r (s.taken rest) = refuse st (s.taken rest)) :
    exec .passThrough s = .next (s.answered r rest st []) :=
  exec_refused (o := ⟨isCode 19, passThrough⟩) rfl ho hm h

/-- An accepted frame does its work on one drum. -/
theorem exec_passThrough_ok {op : State → State} (ho : s.offers r rest) (hm : isCode 19 r = true)
    (h : passThrough r (s.taken rest) = ok (op (s.taken rest)))
    (hb : (op (s.taken rest)).besides d = (s.taken rest).besides d) :
    exec .passThrough s = .next (((op (s.taken rest)).onCabinet fun _ => s.cabinet).answered r rest .ok []) ∧
      ((op (s.taken rest)).onCabinet fun _ => s.cabinet).besides d = s.besides d :=
  exec_drumWork (o := ⟨isCode 19, passThrough⟩) rfl ho hm h hb

end

/-! ### The gate by gate mode and kind (Table 3-5) -/

section
variable {s : State} {d : Drum} {f : PassFrame}

theorem gate_plain (h16 : f.kind ≠ 16) (h17 : f.kind ≠ 17) (h18 : f.kind ≠ 18) : gate d f s = passSlot d f s :=
  if_neg fun h => h.elim h16 fun h => h.elim h17 h18

theorem gate_auto (hmode : (s.drum d).config.gateMode = .auto) (h : f.kind = 16 ∨ f.kind = 17 ∨ f.kind = 18) :
    gate d f s = refuse .gated s := by
  unfold gate
  rw [if_pos h, hmode]

theorem gate_flame (hmode : (s.drum d).config.gateMode = .service) (h : f.kind = 17) : gate d f s = refuse .gated s := by
  unfold gate
  rw [if_pos (.inr (.inl h)), hmode, h]
  rfl

theorem gate_drive (hmode : (s.drum d).config.gateMode = .service) (h : f.kind = 16) : gate d f s = passDrive d f s := by
  unfold gate
  rw [if_pos (.inl h), hmode, h]
  rfl

theorem gate_fan (hmode : (s.drum d).config.gateMode = .service) (h : f.kind = 18) : gate d f s = passFan d f s := by
  unfold gate
  rw [if_pos (.inr (.inr h)), hmode, h]
  rfl

/-- Destination 0 is in no frame that reaches the gate, so a binding of 0 matches none. -/
theorem boundTo_iff {node : Nat} (hdest : 0 < f.dest) : boundTo f node = true ↔ f.dest = node := by
  simp only [boundTo, Bool.and_eq_true, bne_iff_ne, beq_iff_eq]
  omega

theorem passSlot_full (h : (s.drum d).port.slot ≠ none) : passSlot d f s = refuse .busy s :=
  if_pos (Option.isSome_iff_ne_none.mpr h)

theorem passSlot_free (h : (s.drum d).port.slot = none) :
    passSlot d f s = ok (s.onPort d fun p => { p with slot := some f }) :=
  if_neg (by rw [h]; decide)

theorem passDrive_invalid (h : driveCmdOf f.payload = none) : passDrive d f s = refuse .badArg s := by
  unfold passDrive; rw [h]

theorem passDrive_gated {v : DriveCmd} (h : driveCmdOf f.payload = some v)
    (hgate : driveGated (s.drum d) s.clock v = true) : passDrive d f s = refuse .gated s := by
  unfold passDrive; rw [h]; exact if_pos hgate

theorem passDrive_admitted {v : DriveCmd} (h : driveCmdOf f.payload = some v)
    (hgate : driveGated (s.drum d) s.clock v = false) :
    passDrive d f s =
      if boundTo f (s.drum d).config.motorNode then ok (writeDrive d v s) else refuse .badArg s := by
  unfold passDrive; rw [h]; exact if_neg (Bool.eq_false_iff.mp hgate)

theorem passFan_invalid (h : fanCmdOf f.payload = none) : passFan d f s = refuse .badArg s := by
  unfold passFan; rw [h]

theorem passFan_valid {v : Bool} (h : fanCmdOf f.payload = some v) :
    passFan d f s = if boundTo f (s.drum d).config.fanNode then ok (writeFan d v s) else refuse .badArg s := by
  unfold passFan; rw [h]

/-! ### The writes of the image -/

theorem flight_writeDrive (d : Drum) (v : DriveCmd) (s : State) : (writeDrive d v s).flight = s.flight := by
  unfold writeDrive; dsimp only; split <;> rfl

theorem flight_writeFan (d : Drum) (on : Bool) (s : State) : (writeFan d on s).flight = s.flight := by
  unfold writeFan; dsimp only; split <;> rfl

/-- A change to STOP is a change from RUN, so it sets the stop time (R15). -/
theorem writeDrive_stopTime_of_ne {v : DriveCmd} (h : v ≠ (s.drum d).port.image.drive) :
    ((writeDrive d v s).drum d).port.image.stopTime =
      if v = .stop then s.clock else (s.drum d).port.image.stopTime := by
  rw [writeDrive_stopTime]
  exact if_congr (and_iff_left_of_imp fun hstop => hstop ▸ h.symm) rfl rfl

end

/-! ### The gate of a RUN (R60, R61, R93) -/

section
variable {D : DrumState} {now : Clock} {dir : Direction}

theorem opposes_eq_false {held : DriveCmd} : held.opposes dir = false ↔ ∀ h v, held = .run h v → h = dir := by
  cases held <;> simp [DriveCmd.opposes]

theorem laterThan_iff {arrival stop : Clock} :
    laterThan arrival stop = true ↔ 0 < (arrival - stop).toNat ∧ (arrival - stop).toNat < 2 ^ 31 := by
  simp only [laterThan, Bool.and_eq_true, decide_eq_true_eq]
  rfl

theorem confirming_of_status {st : DriveStatus} (h : D.tumble.status = some st) :
    D.confirming = true ↔ st.motor = .stopped ∧ laterThan st.arrival D.port.image.stopTime = true := by
  simp [DrumState.confirming, h]

theorem runGated_without_status (h : D.tumble.status = none) : runGated D now dir = true := by
  simp [runGated, h]

theorem runGated_of_status {st : DriveStatus} (h : D.tumble.status = some st) :
    runGated D now dir = false ↔
      D.port.image.drive.opposes dir = false ∧ D.confirming = true ∧ 2000 ≤ (now - st.arrival).toNat ∧
        D.port.readings.doorOpen = false := by
  simp only [runGated, h, Bool.or_eq_false_iff, Bool.not_eq_false', decide_eq_false_iff_not, not_lt, and_assoc]
  rfl

theorem runGated_eq_false :
    runGated D now dir = false ↔
      ∃ st, D.tumble.status = some st ∧ st.motor = .stopped ∧
        0 < (st.arrival - D.port.image.stopTime).toNat ∧ (st.arrival - D.port.image.stopTime).toNat < 2 ^ 31 ∧
        2000 ≤ (now - st.arrival).toNat ∧ D.port.readings.doorOpen = false ∧
        ∀ h v, D.port.image.drive = .run h v → h = dir := by
  cases hst : D.tumble.status with
  | none => simp [runGated_without_status hst]
  | some st =>
    rw [runGated_of_status hst, confirming_of_status hst, laterThan_iff, opposes_eq_false]
    constructor
    · rintro ⟨hdir, ⟨hstand, hlater, hhalf⟩, hlong, hdoor⟩
      exact ⟨st, rfl, hstand, hlater, hhalf, hlong, hdoor, hdir⟩
    · rintro ⟨st', hsame, hstand, hlater, hhalf, hlong, hdoor, hdir⟩
      obtain rfl := Option.some.inj hsame
      exact ⟨hdir, ⟨hstand, hlater, hhalf⟩, hlong, hdoor⟩

end

/-! ### An accepted frame -/

section
variable {s : State} {r : Request} {rest : List Request} {d : Drum} {f : PassFrame}

/-- A frame that is no actuator command takes the slot (R59). -/
theorem exec_passThrough_slot (ho : s.offers r rest) (hm : isCode 19 r = true)
    (h : passThrough r (s.taken rest) = passSlot d f (s.taken rest)) (hfree : (s.drum d).port.slot = none) :
    ∃ t : State, exec .passThrough s = .next (t.answered r rest .ok []) ∧
      t = s.onPort d fun p => { p with slot := some f } :=
  have hserved := h.trans (passSlot_free (s := s.taken rest) hfree)
  ⟨_, (exec_passThrough_ok (op := fun u => u.onPort d fun p => { p with slot := some f }) ho hm hserved
    (besides_onPort d _ _)).1, rfl⟩

/-- A DRIVE_CMD that passes writes the DRIVE entry as any owner's write does (R15, R60). -/
theorem exec_passThrough_drive {v : DriveCmd} (ho : s.offers r rest) (hm : isCode 19 r = true)
    (h : passThrough r (s.taken rest) = ok (writeDrive d v (s.taken rest))) :
    ∃ t : State, exec .passThrough s = .next (t.answered r rest .ok []) ∧
      t.besides d = s.besides d ∧ t.flight = s.flight ∧ (t.drum d).port.image.drive = v ∧
      (v = (s.drum d).port.image.drive → t = s) ∧
      (v ≠ (s.drum d).port.image.drive →
        (t.drum d).port.image.stopTime = if v = .stop then s.clock else (s.drum d).port.image.stopTime) := by
  obtain ⟨hexec, hbesides⟩ := exec_passThrough_ok (op := writeDrive d v) ho hm h (besides_writeDrive d v _)
  refine ⟨_, hexec, hbesides, flight_writeDrive d v (s.taken rest), writeDrive_drive d v (s.taken rest), fun hheld => ?_,
    fun hchange => writeDrive_stopTime_of_ne (s := s.taken rest) hchange⟩
  rw [writeDrive_same (s := s.taken rest) hheld.symm]
  rfl

/-- A FAN_CMD that passes writes the FAN entry (R60). -/
theorem exec_passThrough_fan {v : Bool} (ho : s.offers r rest) (hm : isCode 19 r = true)
    (h : passThrough r (s.taken rest) = ok (writeFan d v (s.taken rest))) :
    ∃ t : State, exec .passThrough s = .next (t.answered r rest .ok []) ∧
      t.besides d = s.besides d ∧ t.flight = s.flight ∧ (t.drum d).port.image.fan = v := by
  obtain ⟨hexec, hbesides⟩ := exec_passThrough_ok (op := writeFan d v) ho hm h (besides_writeFan d v _)
  exact ⟨_, hexec, hbesides, flight_writeFan d v (s.taken rest), writeFan_fan d v (s.taken rest)⟩

end

/-- Settles O33: the checks in their order, each by the gate's equation for its kind and gate mode. -/
theorem commandGateAdmitsByRule : Obligations.CommandGateAdmitsByRule := by
  refine ⟨fun s r rest d dest kind channel payload ho hcode hv ha => ?_,
    fun D now dir speed => ⟨rfl, runGated_eq_false⟩⟩
  have hm : isCode 19 r = true := isCode_of_valid hv (by rw [hcode]; rfl)
  have kind_eq (n : Byte) : kind = n ↔ kind.toNat = n.toNat := BitVec.toNat_inj.symm
  refine ⟨fun hbad => exec_passThrough_refused ho hm (passThrough_outOfRange ha ?_),
    fun hdest hdest' hkind hchannel hlength => ?_⟩
  · rw [ha, Bool.eq_false_iff, ne_eq, passInRange_args]
    rintro ⟨hdest, hdest', hkind, hchannel, hlength⟩
    rcases hbad with rfl | hbad
    · exact absurd hdest (by decide)
    · omega
  have hrange : passInRange r.args = true := by
    rw [ha]; exact passInRange_args.mpr ⟨hdest, hdest', hkind, hchannel, hlength⟩
  refine ⟨fun hport => exec_passThrough_refused ho hm (passThrough_portDown (u := s.taken rest) ha hrange hport),
    fun hport => ?_⟩
  have hgate := passThrough_up (u := s.taken rest) ha hrange hport
  have refused {st : Status}
      (h : gate d ⟨dest.toNat, kind.toNat, channel.toNat, payload⟩ (s.taken rest) = refuse st (s.taken rest)) :
      exec .passThrough s = .next (s.answered r rest st []) := exec_passThrough_refused ho hm (hgate.trans h)
  refine ⟨fun h16 h17 h18 => ?_, fun hmode hact => ?_, fun hmode => ⟨fun h17 => ?_, fun h16 => ?_, fun h18 => ?_⟩⟩
  · have hplain := gate_plain (d := d) (s := s.taken rest) (f := ⟨dest.toNat, kind.toNat, channel.toNat, payload⟩)
      (mt (kind_eq 16).mpr h16) (mt (kind_eq 17).mpr h17) (mt (kind_eq 18).mpr h18)
    exact ⟨fun hfull => refused (hplain.trans (passSlot_full hfull)),
      exec_passThrough_slot ho hm (hgate.trans hplain)⟩
  · rw [kind_eq, kind_eq, kind_eq] at hact
    exact refused (gate_auto hmode hact)
  · exact refused (gate_flame hmode ((kind_eq 17).mp h17))
  · have hdrive := gate_drive (d := d) (s := s.taken rest) (f := ⟨dest.toNat, kind.toNat, channel.toNat, payload⟩) hmode
      ((kind_eq 16).mp h16)
    refine ⟨fun hinvalid => refused (hdrive.trans (passDrive_invalid hinvalid)), fun v hv =>
      ⟨fun hgated => refused (hdrive.trans (passDrive_gated hv hgated)), fun hfree => ?_⟩⟩
    have hadmit := hdrive.trans (passDrive_admitted (s := s.taken rest) hv hfree)
    exact ⟨fun hother => refused (hadmit.trans (if_neg (mt (boundTo_iff hdest).mp hother))), fun hbound =>
      exec_passThrough_drive ho hm (hgate.trans (hadmit.trans (if_pos ((boundTo_iff hdest).mpr hbound))))⟩
  · have hfan := gate_fan (d := d) (s := s.taken rest) (f := ⟨dest.toNat, kind.toNat, channel.toNat, payload⟩) hmode
      ((kind_eq 18).mp h18)
    refine ⟨fun hbad => refused (hfan.trans ?_), fun v hv hbound => exec_passThrough_fan ho hm
      (hgate.trans (hfan.trans ((passFan_valid hv).trans (if_pos ((boundTo_iff hdest).mpr hbound)))))⟩
    cases hv : fanCmdOf payload with
    | none => exact passFan_invalid hv
    | some v =>
      have hother : dest.toNat ≠ (s.drum d).config.fanNode := hbad.resolve_left (by rw [hv]; exact Option.some_ne_none v)
      exact (passFan_valid hv).trans (if_neg (mt (boundTo_iff hdest).mp hother))

end Sys2Proof.Machine
end

section
/-! What a change of cycle state, HOLD, STOP and START make of a drum (R71, R94, R95, R103): one lemma for each. -/

namespace Sys2Proof.Machine

section
variable {s t u : State} {d : Drum}

/-! ### A change of cycle state (R71) -/

theorem dryness_setCycle (d : Drum) (new : CycleState) (f : Cycle → Cycle) (s : State) :
    ((setCycle d new f s).drum d).dryness =
      (s.drum d).dryness.onCycleState new { f (s.drum d).cycle with state := new }.dryingElectrode
        (s.drum d).config.starvation := by
  have hconfig (on : Bool) (u : State) : ((writeFan d on u).drum d).config = (u.drum d).config :=
    config_of_besides (besides_writeFan d on u) d
  simp [setCycle, hconfig]

/-- The burner is recomputed with the wanted stage and the inlet starvation timer that the change gives it (R141, R143). -/
theorem burner_setCycle_eq (d : Drum) (new : CycleState) (f : Cycle → Cycle) (s : State) :
    ∃ (D : DrumState) (g : Nat), ((setCycle d new f s).drum d).burner = D.burnerNow g ∧
      D.burner = (s.drum d).burner.onCycleState (s.drum d).cycle.state new (s.drum d).config.starvation := by
  have hconfig (on : Bool) (u : State) : ((writeFan d on u).drum d).config = (u.drum d).config :=
    config_of_besides (besides_writeFan d on u) d
  unfold setCycle
  dsimp only
  simp only [keeps_settleStandby, (burnerUpdate_writes d _).1]
  exact ⟨_, _, rfl, by simp [hconfig]⟩

/-- The lockout, the temperatures and the exhaust-high flag are no matter of the cycle state. -/
theorem keeps_burner_setCycle (d : Drum) (new : CycleState) (f : Cycle → Cycle) (s : State) :
    ((setCycle d new f s).drum d).burner.lockout = (s.drum d).burner.lockout ∧
      ((setCycle d new f s).drum d).burner.exhaust = (s.drum d).burner.exhaust ∧
      ((setCycle d new f s).drum d).burner.exhaustHigh = (s.drum d).burner.exhaustHigh := by
  obtain ⟨D, g, hb, hD⟩ := burner_setCycle_eq d new f s
  have hnow : (D.burnerNow g).lockout = D.burner.lockout ∧ (D.burnerNow g).exhaust = D.burner.exhaust ∧
      (D.burnerNow g).exhaustHigh = D.burner.exhaustHigh := ⟨rfl, rfl, rfl⟩
  rw [hb, hnow.1, hnow.2.1, hnow.2.2, hD]
  unfold Burner.onCycleState
  (repeat' split) <;> exact ⟨rfl, rfl, rfl⟩

/-- Entry to DRYING clears the wanted stage and starts the inlet starvation timer (R141, R143). -/
theorem burner_setCycle_drying (d : Drum) (f : Cycle → Cycle) (s : State) :
    ((setCycle d .drying f s).drum d).burner.wanted = 0 ∧
      ((setCycle d .drying f s).drum d).burner.starvation = seconds (s.drum d).config.starvation := by
  obtain ⟨D, g, hb, hD⟩ := burner_setCycle_eq d .drying f s
  have hnow : (D.burnerNow g).wanted = D.burner.wanted ∧ (D.burnerNow g).starvation = D.burner.starvation := ⟨rfl, rfl⟩
  rw [hb, hnow.1, hnow.2, hD]
  exact ⟨rfl, rfl⟩

/-- A change between states other than DRYING leaves the wanted stage as it stands (R141). -/
theorem wanted_setCycle {new : CycleState} (hold : (s.drum d).cycle.state ≠ .drying) (hnew : new ≠ .drying)
    (f : Cycle → Cycle) : ((setCycle d new f s).drum d).burner.wanted = (s.drum d).burner.wanted := by
  obtain ⟨D, g, hb, hD⟩ := burner_setCycle_eq d new f s
  have hnow : (D.burnerNow g).wanted = D.burner.wanted := rfl
  rw [hb, hnow, hD]
  unfold Burner.onCycleState
  rw [if_neg hnew, if_neg hold]

/-- No standby time runs in a state other than VACANT and DONE (R19). -/
theorem standby_setCycle {new : CycleState} (hv : new ≠ .vacant) (hd : new ≠ .done) (f : Cycle → Cycle) :
    ((setCycle d new f s).drum d).port.standby = none := by
  unfold setCycle settleStandby
  simp [DrumState.standbyRuns, hv, hd]

theorem stopTime_writeFan (d : Drum) (on : Bool) (s : State) :
    ((writeFan d on s).drum d).port.image.stopTime = (s.drum d).port.image.stopTime := by
  unfold writeFan; dsimp only; split <;> simp

theorem stopTime_setCycle (d : Drum) (new : CycleState) (f : Cycle → Cycle) (s : State) :
    ((setCycle d new f s).drum d).port.image.stopTime = (s.drum d).port.image.stopTime := by
  unfold setCycle
  simp only [keeps_settleStandby, stopTime_burnerUpdate]
  simp [stopTime_writeFan]

/-! ### The FLAME entry outside DRYING -/

/-- The drum's cycle is not in DRYING and its FLAME entry stands at stage 0. -/
def Unheated (s : State) (d : Drum) : Prop :=
  (s.drum d).cycle.state ≠ .drying ∧ (s.drum d).port.image.flameStage = 0

theorem unheated_of_same (hc : (t.drum d).cycle.state = (s.drum d).cycle.state)
    (hf : (t.drum d).port.image.flameStage = (s.drum d).port.image.flameStage) (h : Unheated s d) : Unheated t d :=
  ⟨by rw [hc]; exact h.1, by rw [hf]; exact h.2⟩

theorem unheated_setCycle {new : CycleState} (hnew : new ≠ .drying) (f : Cycle → Cycle) (s : State) :
    Unheated (setCycle d new f s) d :=
  ⟨by rw [(setCycle_cycle d new f s).1]; exact hnew, (burner_setCycle (.inr hnew)).2⟩

theorem unheated_leaveRun (h : Unheated s d) (f : Tumble → Tumble) : Unheated (leaveRun d f s) d :=
  ⟨by simpa using h.1, (burnerUpdate_of_cap (cap_of_state (by simpa using h.1))).2⟩

theorem unheated_enterStopped (h : Unheated s d) : Unheated (enterStopped d s) d := by
  have hleave := unheated_leaveRun h fun t => { t.timersOff with state := .stopped, target := none, guardLength := none }
  unfold enterStopped
  dsimp only
  split
  · exact unheated_of_same (by simp) (by simp) hleave
  · exact hleave

theorem unheated_enterDecel (h : Unheated s d) (target : Target) : Unheated (enterDecel d target s) d :=
  unheated_leaveRun (unheated_of_same (by simp) (by simp) h) _

theorem unheated_beginRun (h : Unheated s d) : Unheated (beginRun d s) d := by
  have hcap (u : State) (hu : (u.drum d).cycle.state = (s.drum d).cycle.state) :
      ((burnerUpdate d u).drum d).port.image.flameStage = 0 :=
    (burnerUpdate_of_cap (cap_of_state (by rw [hu]; exact h.1))).2
  exact ⟨by simpa using h.1, hcap _ (by simp)⟩

theorem unheated_startFromStopped (h : Unheated s d) : Unheated (startFromStopped d s) d := by
  unfold startFromStopped startDwell
  (repeat' split)
  · exact h
  · exact unheated_beginRun h
  · exact unheated_leaveRun h _
  · exact unheated_enterDecel h _

theorem unheated_tumbleStart (h : Unheated s d) (profile : Nat) : Unheated (tumbleStart d profile s) d := by
  have hset : Unheated (s.onTumble d fun t => { t with inForce := some profile, stalls := 0, guardLength := none }) d :=
    unheated_of_same (by simp) (by simp) h
  unfold tumbleStart
  dsimp only
  split
  · exact unheated_startFromStopped hset
  · exact unheated_of_same (by simp) (by simp) hset
  · exact unheated_of_same (by simp) (by simp) hset
  all_goals exact hset

theorem unheated_tumbleHold (h : Unheated s d) : Unheated (tumbleHold d s) d := by
  have htarget : Unheated (setTarget d .stopped s) d := unheated_of_same (by simp) (by simp) h
  unfold tumbleHold
  dsimp only
  (repeat' split)
  · exact unheated_enterDecel h _
  · exact unheated_enterDecel h _
  · exact htarget
  · exact unheated_enterStopped h
  · exact htarget
  · exact unheated_enterStopped h
  · exact h

theorem unheated_tumbleStop (h : Unheated s d) : Unheated (tumbleStop d s) d :=
  unheated_of_same (by simp [tumbleStop]) (by simp [tumbleStop]) (unheated_tumbleHold h)

/-! ### HOLD and STOP (R103) -/

/-- HOLD of a controller in a run. -/
theorem tumbleHold_running (h : (s.drum d).tumble.state.running = true) : tumbleHold d s = enterDecel d .stopped s := by
  unfold tumbleHold
  dsimp only
  cases hs : (s.drum d).tumble.state
  case runFwd | runRev => rfl
  all_goals rw [hs] at h; cases h

/-- HOLD of a controller that stops: in DECEL, and in RECOVER before the recover delay. -/
theorem tumbleHold_stopping
    (h : (s.drum d).tumble.state = .decel ∨
      (s.drum d).tumble.state = .recover ∧ (s.drum d).tumble.recoverDelay = none) :
    tumbleHold d s = setTarget d .stopped s := by
  unfold tumbleHold
  dsimp only
  rcases h with hs | ⟨hs, hr⟩ <;> rw [hs]
  rw [hr]; rfl

/-- HOLD of a controller that stands and waits: in DWELL, and in RECOVER within the recover delay. -/
theorem tumbleHold_waiting
    (h : (s.drum d).tumble.state = .dwell ∨
      (s.drum d).tumble.state = .recover ∧ (s.drum d).tumble.recoverDelay ≠ none) :
    tumbleHold d s = enterStopped d s := by
  unfold tumbleHold
  dsimp only
  rcases h with hs | ⟨hs, hr⟩ <;> rw [hs]
  exact if_pos (Option.isSome_iff_ne_none.mpr hr)

theorem tumbleHold_stopped (h : (s.drum d).tumble.state = .stopped) : tumbleHold d s = s := by
  unfold tumbleHold; dsimp only; rw [h]

theorem running_eq_false {st : TumbleState} :
    st.running = false ↔ st = .stopped ∨ st = .decel ∨ st = .dwell ∨ st = .recover := by
  cases st <;> simp [TumbleState.running]

/-- The cases of a HOLD. -/
theorem tumbleHold_cases (d : Drum) (s : State) :
    ((s.drum d).tumble.state.running = true ∧ tumbleHold d s = enterDecel d .stopped s) ∨
      ((s.drum d).tumble.state.running = false ∧
        (tumbleHold d s = s ∨ tumbleHold d s = setTarget d .stopped s ∨ tumbleHold d s = enterStopped d s)) := by
  cases hr : (s.drum d).tumble.state.running
  case true => exact .inl ⟨rfl, tumbleHold_running hr⟩
  case false =>
    refine .inr ⟨rfl, ?_⟩
    rcases running_eq_false.mp hr with h | h | h | h
    · exact .inl (tumbleHold_stopped h)
    · exact .inr (.inl (tumbleHold_stopping (.inl h)))
    · exact .inr (.inr (tumbleHold_waiting (.inl h)))
    · by_cases hd : (s.drum d).tumble.recoverDelay = none
      · exact .inr (.inl (tumbleHold_stopping (.inr ⟨h, hd⟩)))
      · exact .inr (.inr (tumbleHold_waiting (.inr ⟨h, hd⟩)))

/-- What the end of a guard tumble may have reported on the way from s to t (R77, R104): nothing, or, in GUARD, FAN OFF and the
guard interval started again. -/
def ReportTaken (s t : State) (d : Drum) : Prop :=
  ((t.drum d).cycle = (s.drum d).cycle ∧ (t.drum d).port.image.fan = (s.drum d).port.image.fan) ∨
    ∃ g, (s.drum d).cycle.state = .guarding ∧ (s.drum d).cycle.record.bind (·.guardPart) = some g ∧
      (t.drum d).cycle = { (s.drum d).cycle with guardInterval := seconds g.interval } ∧
      (t.drum d).port.image.fan = false

theorem reportTaken_enterStopped (d : Drum) (s : State) : ReportTaken s (enterStopped d s) d := by
  unfold enterStopped guardTumbleDone
  dsimp only
  split
  · split
    next g hc hg => exact .inr ⟨g, by simpa using hc, by simpa using hg, by simp, by simp⟩
    · exact .inl (by simp)
  · exact .inl (by simp)

theorem reportTaken_tumbleHold (d : Drum) (s : State) : ReportTaken s (tumbleHold d s) d := by
  rcases tumbleHold_cases d s with ⟨-, h⟩ | ⟨-, h | h | h⟩ <;> rw [h]
  · exact .inl (by simp)
  · exact .inl ⟨rfl, rfl⟩
  · exact .inl (by simp)
  · exact reportTaken_enterStopped d s

theorem reportTaken_tumbleStop (d : Drum) (s : State) : ReportTaken s (tumbleStop d s) d := by
  have h := reportTaken_tumbleHold d s
  unfold ReportTaken tumbleStop at *
  simpa using h

theorem fan_of_reportTaken (h : ReportTaken s t d) (hs : (s.drum d).cycle.state ≠ .guarding) :
    (t.drum d).port.image.fan = (s.drum d).port.image.fan := by
  obtain ⟨-, hf⟩ | ⟨g, hg, -⟩ := h
  · exact hf
  · exact absurd hg hs

theorem fanOff_of_reportTaken (h : ReportTaken s t d) (hs : (s.drum d).port.image.fan = false) :
    (t.drum d).port.image.fan = false := by
  obtain ⟨-, hf⟩ | ⟨g, -, -, -, hf⟩ := h
  · exact hf.trans hs
  · exact hf

theorem setTarget_tumble (d : Drum) (target : Target) (s : State) :
    ((setTarget d target s).drum d).tumble = { (s.drum d).tumble with target := some target } := by
  simp [setTarget]

/-- What no HOLD touches in the tumble controller, and that it ends every run. -/
theorem keeps_tumble_tumbleHold (d : Drum) (s : State) :
    ((tumbleHold d s).drum d).tumble.state.running = false ∧
      ((tumbleHold d s).drum d).tumble.multiplier = (s.drum d).tumble.multiplier ∧
      ((tumbleHold d s).drum d).tumble.reduction = (s.drum d).tumble.reduction ∧
      ((tumbleHold d s).drum d).tumble.status = (s.drum d).tumble.status := by
  rcases tumbleHold_cases d s with ⟨-, h⟩ | ⟨hr, h | h | h⟩ <;> rw [h]
  · rw [(enterDecel_writes d .stopped s).1]; exact ⟨rfl, rfl, rfl, rfl⟩
  · exact ⟨hr, rfl, rfl, rfl⟩
  · rw [setTarget_tumble]; exact ⟨hr, rfl, rfl, rfl⟩
  · rw [(enterStopped_writes d s).1]; exact ⟨rfl, rfl, rfl, rfl⟩

/-- STOP is HOLD with the persistence cleared (R114). -/
theorem tumble_tumbleStop (d : Drum) (s : State) :
    ((tumbleStop d s).drum d).tumble = { ((tumbleHold d s).drum d).tumble with multiplier := 1, reduction := 0 } :=
  (clearPersistence_writes d _).1

theorem running_tumbleStop (d : Drum) (s : State) : ((tumbleStop d s).drum d).tumble.state.running = false := by
  rw [tumble_tumbleStop]; exact (keeps_tumble_tumbleHold d s).1

theorem drive_tumbleStop_running (h : (s.drum d).tumble.state.running = true) :
    ((tumbleStop d s).drum d).port.image.drive = .stop :=
  drive_tumbleStop d s fun hf => by rw [h] at hf; cases hf

/-! ### START (R94, R95, R103) -/

@[simp] theorem handed_beginRun (d : Drum) (s : State) : (beginRun d s).handed = s.handed := by
  have hdryness (f : Dryness → Dryness) (u : State) : (u.onDryness d f).handed = u.handed := rfl
  simp [beginRun, hdryness]

@[simp] theorem handed_enterDecel (d : Drum) (target : Target) (s : State) :
    (enterDecel d target s).handed = s.handed := by
  simp [enterDecel]

@[simp] theorem handed_startFromStopped (d : Drum) (s : State) : (startFromStopped d s).handed = s.handed := by
  unfold startFromStopped startDwell; (repeat' split) <;> simp

@[simp] theorem handed_tumbleStart (d : Drum) (n : Nat) (s : State) : (tumbleStart d n s).handed = s.handed := by
  unfold tumbleStart setTarget; dsimp only; split <;> simp

@[simp] theorem handed_tumbleGuard (d : Drum) (n : Nat) (s : State) : (tumbleGuard d n s).handed = s.handed := by
  unfold tumbleGuard; split <;> simp

theorem status_of_confirming {D : DrumState} (h : D.confirming = true) : ∃ st, D.tumble.status = some st := by
  unfold DrumState.confirming at h
  split at h
  next st hst => exact ⟨st, hst⟩
  · cases h

/-- From STOPPED a controller starts by a stop first, by the start dwell, or at once. -/
theorem startFromStopped_cases (d : Drum) (s : State) :
    ((s.drum d).confirming = false ∧ startFromStopped d s = enterDecel d .run s) ∨
      ∃ st, (s.drum d).confirming = true ∧ (s.drum d).tumble.status = some st ∧
        ((2000 ≤ elapsed s.clock st.arrival ∧ startFromStopped d s = beginRun d s) ∨
          (elapsed s.clock st.arrival < 2000 ∧ startFromStopped d s = startDwell d s)) := by
  unfold startFromStopped
  cases hc : (s.drum d).confirming
  case false => exact .inl ⟨rfl, rfl⟩
  case true =>
    obtain ⟨st, hst⟩ := status_of_confirming hc
    refine .inr ⟨st, rfl, hst, ?_⟩
    by_cases h : 2000 ≤ elapsed s.clock st.arrival
    · exact .inl ⟨h, (startDwell_of_status hst).1 h⟩
    · exact .inr ⟨not_le.mp h, rfl⟩

/-- What a start from STOPPED leaves of the controller, and that it leaves STOPPED. -/
theorem keeps_tumble_startFromStopped (d : Drum) (s : State) :
    ((startFromStopped d s).drum d).tumble.guardLength = (s.drum d).tumble.guardLength ∧
      ((startFromStopped d s).drum d).tumble.inForce = (s.drum d).tumble.inForce ∧
      ((startFromStopped d s).drum d).tumble.stalls = (s.drum d).tumble.stalls ∧
      ((startFromStopped d s).drum d).tumble.state ≠ .stopped := by
  rcases startFromStopped_cases d s with ⟨-, h⟩ | ⟨st, -, hst, ⟨-, h⟩ | ⟨hlt, h⟩⟩ <;> rw [h]
  · rw [(enterDecel_writes d .run s).1]; exact ⟨rfl, rfl, rfl, nofun⟩
  · rw [beginRun_tumble]
    refine ⟨rfl, rfl, rfl, ?_⟩
    cases (s.drum d).tumble.nextDir <;> exact nofun
  · rw [((startDwell_of_status hst).2 hlt).1]; exact ⟨rfl, rfl, rfl, nofun⟩

/-- A start changes the dryness monitor's settle count alone (R157). -/
theorem dryness_startFromStopped (d : Drum) (s : State) :
    ∃ n, ((startFromStopped d s).drum d).dryness = { (s.drum d).dryness with settle := n } := by
  rcases startFromStopped_cases d s with ⟨-, h⟩ | ⟨st, -, hst, ⟨-, h⟩ | ⟨hlt, h⟩⟩ <;> rw [h]
  · exact ⟨_, by rw [(keeps_enterDecel d .run s).2.2.2.2.2.2.2.2]⟩
  · exact ⟨_, by simp [beginRun]; rfl⟩
  · refine ⟨(s.drum d).dryness.settle, ?_⟩
    unfold startDwell
    rw [hst]
    dsimp only
    rw [if_neg (not_le.mpr hlt)]
    simp

theorem dryness_tumbleStart (d : Drum) (profile : Nat) (s : State) :
    ∃ n, ((tumbleStart d profile s).drum d).dryness = { (s.drum d).dryness with settle := n } := by
  unfold tumbleStart
  dsimp only
  split
  · obtain ⟨n, h⟩ := dryness_startFromStopped d
      (s.onTumble d fun t => { t with inForce := some profile, stalls := 0, guardLength := none })
    exact ⟨n, by rw [h]; simp⟩
  all_goals exact ⟨(s.drum d).dryness.settle, by simp⟩

end

end Sys2Proof.Machine
end

section
/-! START from every tumble state, as an accepted CYCLE_START and CYCLE_RESUME give it (R94, R95, R103). -/

namespace Sys2Proof.Machine

section
variable {s t u : State} {d : Drum} {profile : Nat} {first : Bool}

/-- The drum as START leaves its tumble controller before it acts by tumble state. -/
def startMarked (d : Drum) (profile : Nat) (s : State) : State :=
  s.onTumble d fun t => { t with inForce := some profile, stalls := 0, guardLength := none }

/-- START of a controller that tumbles or is about to. -/
theorem tumbleStart_going (h : (s.drum d).tumble.state ∈ [TumbleState.dwell, .runFwd, .runRev]) :
    tumbleStart d profile s = startMarked d profile s := by
  simp only [List.mem_cons, List.not_mem_nil, or_false] at h
  unfold tumbleStart
  rcases h with h | h | h <;> rw [h] <;> rfl

/-- START of a controller that stops. -/
theorem tumbleStart_stopping (h : (s.drum d).tumble.state ∈ [TumbleState.decel, .recover]) :
    tumbleStart d profile s = setTarget d .run (startMarked d profile s) := by
  simp only [List.mem_cons, List.not_mem_nil, or_false] at h
  unfold tumbleStart
  rcases h with h | h <;> rw [h] <;> rfl

theorem tumbleStart_stopped (h : (s.drum d).tumble.state = .stopped) :
    tumbleStart d profile s = startFromStopped d (startMarked d profile s) := by
  unfold tumbleStart; rw [h]; rfl

theorem tumble_startMarked (d : Drum) (profile : Nat) (s : State) :
    ((startMarked d profile s).drum d).tumble =
      { (s.drum d).tumble with inForce := some profile, stalls := 0, guardLength := none } := by
  simp [startMarked]

theorem confirming_startMarked (d : Drum) (profile : Nat) (s : State) :
    ((startMarked d profile s).drum d).confirming = (s.drum d).confirming := by
  simp [startMarked, DrumState.confirming]

/-- What START sets, whatever the tumble state. -/
theorem tumbleStart_sets (d : Drum) (profile : Nat) (s : State) :
    ((tumbleStart d profile s).drum d).tumble.inForce = some profile ∧
      ((tumbleStart d profile s).drum d).tumble.stalls = 0 ∧
      ((tumbleStart d profile s).drum d).tumble.guardLength = none := by
  have hmark : ((startMarked d profile s).drum d).tumble.inForce = some profile ∧
      ((startMarked d profile s).drum d).tumble.stalls = 0 ∧
      ((startMarked d profile s).drum d).tumble.guardLength = none := by
    rw [tumble_startMarked]; exact ⟨rfl, rfl, rfl⟩
  cases hs : (s.drum d).tumble.state
  case stopped =>
    obtain ⟨hguard, hforce, hstalls, -⟩ := keeps_tumble_startFromStopped d (startMarked d profile s)
    rw [tumbleStart_stopped hs, hguard, hforce, hstalls]
    exact hmark
  case decel | recover =>
    rw [tumbleStart_stopping (by simp [hs]), setTarget_tumble]
    exact hmark
  case dwell | runFwd | runRev =>
    rw [tumbleStart_going (by simp [hs])]
    exact hmark

/-- The profile values a run reads under the profile START puts in force (R91, R92). -/
theorem runValues_of_inForce {n : Fin 8} (h : (s.drum d).tumble.inForce = some profile)
    (hn : profile = n.val ∨ (profile = 255 ∧ n = 0)) : (runValues s d).1 = s.profiles[n] := by
  unfold runValues
  dsimp only
  rw [h]
  dsimp only
  rcases hn with rfl | ⟨rfl, rfl⟩
  · rw [if_neg (by omega)]
    simp
  · rfl

theorem nextDir_eq {x : Tumble} {dir : Direction} (hguard : x.guardLength = none) (hfirst : x.first255 = true → dir = .fwd)
    (hnext : x.first255 = false → dir = if x.lastDir = some .fwd then .rev else .fwd) : x.nextDir = dir := by
  unfold Tumble.nextDir
  rw [hguard]
  cases h255 : x.first255
  case true => rw [hfirst h255]; rfl
  case false =>
    rw [hnext h255]
    cases x.lastDir with
    | none => rfl
    | some l => cases l <;> rfl

theorem runSpeed_eq (p : Profile) (dir : Direction) (n : Nat) :
    runSpeed p dir n = max 20 ((if dir = .fwd then p.fwdSpeed else p.revSpeed) - n) := by
  cases dir <;> rfl

/-- START gives what R94 and R103 say, on a drum whose stall count and first-run mark have been set since s. -/
theorem started_tumbleStart
    (htumble : (u.drum d).tumble = { (s.drum d).tumble with stalls := 0, first255 := first })
    (hdrive : (u.drum d).port.image.drive = (s.drum d).port.image.drive)
    (hstop : (u.drum d).port.image.stopTime = (s.drum d).port.image.stopTime)
    (hclock : u.clock = s.clock) (hprofiles : u.profiles = s.profiles) :
    Started s (tumbleStart d profile u) d profile first := by
  have hmarked : ((startMarked d profile u).drum d).tumble =
      { (s.drum d).tumble with inForce := some profile, stalls := 0, guardLength := none, first255 := first } := by
    rw [tumble_startMarked, htumble]
  have hport : ((startMarked d profile u).drum d).port = (u.drum d).port := by simp [startMarked]
  have hstate : (u.drum d).tumble.state = (s.drum d).tumble.state := by rw [htumble]
  have hconfirm : ((startMarked d profile u).drum d).confirming = (s.drum d).confirming := by
    rw [confirming_startMarked]; unfold DrumState.confirming; rw [htumble, hstop]
  obtain ⟨hforce, hstalls, hguard⟩ := tumbleStart_sets d profile u
  refine ⟨hforce, hstalls, hguard, fun h => ?_, fun h => ?_, fun h => ?_, fun h hc => ?_, fun st h hst hc => ?_⟩
  · rw [tumbleStart_going (by rw [hstate]; exact h)]; exact hmarked
  · rw [tumbleStart_stopping (by rw [hstate]; exact h), setTarget_tumble, hmarked]
  · rw [← hdrive, ← hport]
    cases hs : (s.drum d).tumble.state
    case stopped => exact absurd hs h
    case decel | recover => rw [tumbleStart_stopping (by rw [hstate]; simp [hs])]; simp
    case dwell | runFwd | runRev => rw [tumbleStart_going (by rw [hstate]; simp [hs])]
  all_goals rw [tumbleStart_stopped (hstate.trans h)]
  · obtain ⟨hw, -, hd⟩ := enterDecel_writes d .run (startMarked d profile u)
    have hdecel : startFromStopped d (startMarked d profile u) = enterDecel d .run (startMarked d profile u) := by
      rw [startFromStopped, hconfirm, hc]; rfl
    rw [hdecel, hw, hd, hmarked]
    exact ⟨rfl, rfl, rfl, rfl, rfl⟩
  · have hheld : ((startMarked d profile u).drum d).tumble.status = some st := by rw [hmarked]; exact hst
    have htime : (startMarked d profile u).clock = s.clock := hclock
    obtain ⟨hrun, hdwell⟩ := startDwell_of_status hheld
    rw [startFromStopped, hconfirm, hc, if_pos rfl]
    rw [htime] at hrun hdwell
    refine ⟨fun hlt => ?_, fun hge dir hfirst hnext => ?_⟩
    · obtain ⟨hw, hd⟩ := hdwell hlt
      rw [hw, hd, hmarked, hport]
      exact ⟨rfl, rfl, rfl, rfl, hdrive⟩
    · obtain ⟨-, -, hd, -⟩ := beginRun_writes d (startMarked d profile u)
      have hdir : ((startMarked d profile u).drum d).tumble.nextDir = dir := by
        rw [hmarked]; exact nextDir_eq rfl hfirst hnext
      rw [hrun hge, hd, beginRun_tumble, hdir, runSpeed_eq]
      refine ⟨by cases dir <;> rfl, rfl, rfl, fun n hn => ?_⟩
      have hvalues : (runValues (startMarked d profile u) d).1 = s.profiles[n] := by
        rw [runValues_of_inForce (by rw [hmarked]) hn]; exact congrArg (·[n]) hprofiles
      rw [hvalues, hmarked]
      exact ⟨rfl, rfl⟩

end

end Sys2Proof.Machine
end

section
/-! CYCLE_LOAD, CYCLE_UNLOAD, CYCLE_START and CYCLE_RESUME; settles O22, O23, O24 and O26. -/

namespace Sys2Proof.Machine

section
variable {s u : State} {r : Request} {rest : List Request} {d : Drum} {b : Byte} {body : List Byte} {x : CycleRecord}

/-! ### Requests on one drum -/

/-- A request that its owner answers OK with work on one drum, by what the work makes of the drum and hands on. -/
theorem exec_drumDone {c : Instr} {o : Owner} {op : State → State} (hc : ownerOf c = some o) (ho : s.offers r rest)
    (hm : o.mine r = true) (hr : o.serves r (s.taken rest) = ok (op (s.taken rest)))
    (hb : (op (s.taken rest)).besides d = (s.taken rest).besides d) :
    ∃ t : State, exec c s = .next (t.answered r rest .ok []) ∧ t.besides d = s.besides d ∧
      t.drum d = (op (s.taken rest)).drum d ∧ t.flight = (op (s.taken rest)).flight := by
  obtain ⟨hexec, hbesides⟩ := exec_drumWork hc ho hm hr hb
  exact ⟨_, hexec, hbesides, rfl, rfl⟩

/-- A request of one argument byte. -/
theorem isCode_args {n : Nat} (hn : r.code.toNat = n) (ha : r.args = [b]) (hl : lengthAllowed n 1 = true) :
    isCode n r = true :=
  isCode_of_length hn (by rw [ha]; exact hl)

/-- The requests of one argument byte refuse a drum above 3. -/
theorem exec_drum_above {p : Instr × Byte} (ho : s.offers r rest) (hcode : r.code = p.2) (ha : r.args = [b])
    (hb : 3 < b.toNat)
    (hp : p ∈ [(Instr.cycleUnload, (10 : Byte)), (.cycleStart, 11), (.cyclePause, 12), (.cycleResume, 13),
      (.cycleEndHeat, 14), (.cycleAbort, 15)]) :
    exec p.1 s = .next { s with cabinet := s.replied r rest .badArg [] } := by
  have habove : 3 < natAt r.args 0 := by rw [ha]; exact hb
  have hlength : ∀ p ∈ [(Instr.cycleUnload, (10 : Byte)), (.cycleStart, 11), (.cyclePause, 12), (.cycleResume, 13),
      (.cycleEndHeat, 14), (.cycleAbort, 15)], lengthAllowed p.2.toNat 1 = true := by decide
  have hv : r.valid = true := by
    unfold Request.valid
    rw [hcode, ha]
    exact hlength p hp
  exact refuses_drum_above ho hv habove p (by simp only [List.mem_cons] at hp ⊢; tauto) hcode

/-! ### CYCLE_LOAD (R69) -/

theorem loads_iff {c : CycleState} : c.loads = true ↔ c ∈ [CycleState.vacant, .ready, .done] := by
  cases c <;> simp [CycleState.loads]

theorem bound_iff {c : DrumConfig} {n : Nat} :
    c.bound n = true ↔ c.motorNode ≠ 0 ∧ c.fanNode ≠ 0 ∧ (n = 0 ∨ c.burnerNode ≠ 0) := by
  simp [DrumConfig.bound, and_assoc]

/-- CYCLE_LOAD refuses a record it cannot take before it looks at the drum. -/
theorem cycleLoad_badArg (ha : r.args = byte d.val :: body) (hx : recordOf r.args = none) :
    cycleLoad r u = refuse .badArg u := by
  unfold cycleLoad; rw [onDrumArg_args ha]; dsimp only; rw [hx]

/-- CYCLE_LOAD of a readable record, check by check. -/
theorem cycleLoad_record (ha : r.args = byte d.val :: body) (hx : recordOf r.args = some x) :
    cycleLoad r u =
      if !(u.drum d).cycle.state.loads then refuse .state u
      else if (u.drum d).port.state ≠ .up then refuse .portDown u
      else if (u.drum d).config.gateMode = .service then refuse .gated u
      else if !(u.drum d).config.bound x.maxStage then refuse .badArg u
      else ok (loadCycle d x u) := by
  unfold cycleLoad; rw [onDrumArg_args ha]; dsimp only; rw [hx]

/-- A loaded drum: READY with the record, everything else of the cycle at rest. -/
theorem loadCycle_writes (d : Drum) (x : CycleRecord) (s : State) :
    (loadCycle d x s).handed = s.handed ∧
      ((loadCycle d x s).drum d).cycle = { state := .ready, record := some x } ∧
      ((loadCycle d x s).drum d).port.image.fan = false ∧ ((loadCycle d x s).drum d).port.standby = none ∧
      ((loadCycle d x s).drum d).port.image.drive = (s.drum d).port.image.drive ∧
      ((loadCycle d x s).drum d).tumble = { (s.drum d).tumble with stalls := 0 } ∧
      ((loadCycle d x s).drum d).tangle = (s.drum d).tangle ∧
      ((loadCycle d x s).drum d).burner.lockout = (s.drum d).burner.lockout := by
  unfold loadCycle
  obtain ⟨hcycle, hfan⟩ := setCycle_cycle d .ready
    (fun c => { c.cleared with
      record := some x, drying := 0, cooling := 0, minCoolPassed := false, reason := .none, halt := .none }) s
  refine ⟨handed_setCycle d _ _ s, hcycle, hfan, standby_setCycle (by decide) (by decide) _, ?_, tumble_setCycle d _ _ s, ?_,
    (keeps_burner_setCycle d _ _ s).1⟩ <;> simp

end

/-- Settles O22: the checks in their order, each on the drum's state as the request finds it. -/
theorem cycleLoadChecksThenTakesTheRecord : Obligations.CycleLoadChecksThenTakesTheRecord := by
  intro s r rest d body ho hcode hv ha
  have hm : isCode 9 r = true := isCode_of_valid hv (code_toNat (by decide) hcode)
  have refused {st : Status} (h : cycleLoad r (s.taken rest) = refuse st (s.taken rest)) :
      exec .cycleLoad s = .next (s.answered r rest st []) := exec_refused rfl ho hm h
  refine ⟨fun hx => refused (cycleLoad_badArg ha hx), fun x hx => ?_⟩
  have hload := cycleLoad_record (u := s.taken rest) ha hx
  rw [drum_taken] at hload
  refine ⟨fun hstate => refused ?_, fun hstate => ⟨fun hport => refused ?_, fun hport hgate => refused ?_,
    fun hport hgate => ⟨fun hnode => refused ?_, fun hmotor hfan hburner => ?_⟩⟩⟩
  · rw [hload, if_pos (by rwa [← loads_iff, Bool.not_eq_true, ← Bool.not_eq_true'] at hstate)]
  all_goals rw [← loads_iff] at hstate
  · rw [hload, if_neg (by simp [hstate]), if_pos hport]
  · rw [hload, if_neg (by simp [hstate]), if_neg (not_not.mpr hport), if_pos hgate]
  · have hunbound : ((s.drum d).config.bound x.maxStage) = false := by
      rw [Bool.eq_false_iff, ne_eq, bound_iff]; omega
    rw [hload, if_neg (by simp [hstate]), if_neg (not_not.mpr hport), if_neg (by simp [hgate]), if_pos (by simp [hunbound])]
  · have hbound : (s.drum d).config.bound x.maxStage = true := bound_iff.mpr ⟨hmotor, hfan, hburner⟩
    have hwork : cycleLoad r (s.taken rest) = ok (loadCycle d x (s.taken rest)) := by
      rw [hload, if_neg (by simp [hstate]), if_neg (not_not.mpr hport), if_neg (by simp [hgate]), if_neg (by simp [hbound])]
    obtain ⟨t, hexec, hbesides, hdrum, hflight⟩ := exec_drumDone (c := .cycleLoad) rfl ho hm hwork
      (besides_loadCycle d x _)
    obtain ⟨hhanded, hwrites⟩ := loadCycle_writes d x (s.taken rest)
    refine ⟨t, hexec, hbesides, ?_⟩
    rw [hdrum, hflight]
    exact ⟨events_of_handed hhanded, increments_of_handed hhanded, hwrites⟩

/-- Settles O23. -/
theorem cycleUnloadEmptiesAReadyDrum : Obligations.CycleUnloadEmptiesAReadyDrum := by
  intro s r rest b ho hcode ha
  refine ⟨fun hb => exec_drum_above (p := (.cycleUnload, 10)) ho hcode ha hb (by decide), fun d hb => ?_⟩
  subst hb
  have hm : isCode 10 r = true := isCode_args (code_toNat (by decide) hcode) ha rfl
  have hserve : cycleUnload r (s.taken rest) =
      if (s.drum d).cycle.state = .ready then ok (enterVacant d (s.taken rest)) else refuse .state (s.taken rest) :=
    onDrumArg_args ha
  refine ⟨fun hstate => exec_refused rfl ho hm (hserve.trans (if_neg hstate)), fun hstate => ?_⟩
  have hhanded := handed_enterVacant d (s.taken rest)
  obtain ⟨t, hexec, hbesides, hdrum, hflight⟩ := exec_drumDone (c := .cycleUnload) rfl ho hm
    (hserve.trans (if_pos hstate)) (besides_enterVacant d _)
  refine ⟨t, hexec, hbesides, ?_⟩
  rw [hdrum, hflight]
  exact ⟨events_of_handed hhanded, increments_of_handed hhanded, cycle_enterVacant d (s.taken rest)⟩

/-! ### CYCLE_START and CYCLE_RESUME (R72, R73, R83) -/

section
variable {s u : State} {r : Request} {rest : List Request} {d : Drum} {x : CycleRecord}

theorem boundPresent_iff {D : DrumState} :
    D.boundPresent = true ↔ ∀ n ∈ D.boundNodes, D.port.nodePresent n = true := List.all_eq_true

theorem boundPresent_false {D : DrumState} :
    D.boundPresent = false ↔ ∃ n ∈ D.boundNodes, D.port.nodePresent n = false := by
  simp [DrumState.boundPresent]

theorem noStart_iff : s.noStart d = true ↔ ∃ a, (s.attr d a).noStart = true := by
  unfold State.noStart State.attr
  rw [List.any_eq_true]
  constructor
  · rintro ⟨x, hx, hset⟩
    obtain ⟨i, hi, rfl⟩ := Vector.mem_iff_getElem.mp (Vector.mem_toList_iff.mp hx)
    exact ⟨⟨i, hi⟩, hset⟩
  · rintro ⟨a, ha⟩
    exact ⟨_, Vector.mem_toList_iff.mpr (Vector.getElem_mem a.isLt), ha⟩

theorem cycleProfile_of_record (h : (s.drum d).cycle.record = some x) : s.cycleProfile d = x.profile := by
  unfold State.cycleProfile; rw [h]

theorem enterPurge_writes (d : Drum) (target : Option Phase) (f : Cycle → Cycle) (s : State) :
    ((enterPurge d target f s).drum d).cycle =
        { f (s.drum d).cycle with
          state := .purge
          purgeTarget := target
          prove :=
            if (s.drum d).port.readings.airflowNotProven then seconds (s.drum d).config.proveTimeout else none
          air := if (s.drum d).port.readings.airflowNotProven then none else seconds (s.drum d).config.minAir } ∧
      ((enterPurge d target f s).drum d).port.image.fan = true ∧
      ((enterPurge d target f s).drum d).tumble = { (s.drum d).tumble with stalls := 0 } ∧
      ((enterPurge d target f s).drum d).port.image.drive = (s.drum d).port.image.drive ∧
      ((enterPurge d target f s).drum d).port.image.stopTime = (s.drum d).port.image.stopTime ∧
      ((enterPurge d target f s).drum d).dryness = { (s.drum d).dryness with starvation := none } ∧
      (enterPurge d target f s).handed = s.handed ∧ Unheated (enterPurge d target f s) d := by
  unfold enterPurge
  obtain ⟨hcycle, hfan⟩ := setCycle_cycle d .purge
    (fun c =>
      { f c with
        purgeTarget := target
        prove := if (s.drum d).port.readings.airflowNotProven then seconds (s.drum d).config.proveTimeout else none
        air := if (s.drum d).port.readings.airflowNotProven then none else seconds (s.drum d).config.minAir }) s
  exact ⟨hcycle, hfan, tumble_setCycle d _ _ s, by simp, stopTime_setCycle d _ _ s, dryness_setCycle d _ _ s,
    handed_setCycle d _ _ s, unheated_setCycle (by decide) _ s⟩

theorem started_congr {t t' : State} {profile : Nat} {first : Bool} (hclock : u.clock = s.clock)
    (hprofiles : u.profiles = s.profiles) (hdrum : u.drum d = s.drum d) (h' : t'.drum d = t.drum d)
    (h : Started u t d profile first) : Started s t' d profile first := by
  unfold Started at *
  rw [hclock, hprofiles, hdrum, ← h'] at h
  exact h

theorem drynessStart_dryness (d : Drum) (s : State) :
    ((drynessStart d s).drum d).dryness = { settle := (s.drum d).dryness.settle } := by
  simp [drynessStart]

theorem handed_drynessStart (d : Drum) (s : State) : (drynessStart d s).handed = s.handed := rfl

/-- An accepted CYCLE_START (R72, R73). -/
theorem startCycle_writes (hx : (s.drum d).cycle.record = some x) :
    (startCycle d s).handed = s.handed ∧
      ((startCycle d s).drum d).cycle =
        { (s.drum d).cycle with
          state := .purge
          purgeTarget := some .drying
          prove :=
            if (s.drum d).port.readings.airflowNotProven then seconds (s.drum d).config.proveTimeout else none
          air := if (s.drum d).port.readings.airflowNotProven then none else seconds (s.drum d).config.minAir } ∧
      ((startCycle d s).drum d).port.image.fan = true ∧ ((startCycle d s).drum d).port.image.flameStage = 0 ∧
      Started s (startCycle d s) d x.profile (decide (x.profile = 255)) ∧
      ∃ n, ((startCycle d s).drum d).dryness = { settle := n } := by
  obtain ⟨hport, hcycle, htumble, -⟩ := keeps_drynessStart d s
  have hconfig : ((drynessStart d s).drum d).config = (s.drum d).config := by simp [drynessStart]
  obtain ⟨hwcycle, hwfan, hwtumble, -, hwstop, hwdryness, hwhanded, hwflame⟩ :=
    enterPurge_writes d (some .drying) id (drynessStart d s)
  rw [hport, hcycle, hconfig] at hwcycle
  rw [htumble] at hwtumble
  rw [hport] at hwstop
  rw [drynessStart_dryness] at hwdryness
  have hbesides : (firstStart d x.profile (enterPurge d (some .drying) id (drynessStart d s))).besides d = s.besides d := by
    simp [drynessStart]
  have hfirst : ((firstStart d x.profile (enterPurge d (some .drying) id (drynessStart d s))).drum d).tumble =
      { (s.drum d).tumble with stalls := 0, first255 := decide (x.profile = 255) } := by
    simp only [firstStart, drum_onTumble_self, hwtumble]
    rfl
  unfold startCycle
  rw [cycleProfile_of_record hx]
  refine ⟨?_, ?_, ?_, ?_, ?_, ?_⟩
  · rw [handed_tumbleStart, firstStart, handed_onTumble, hwhanded, handed_drynessStart]
  · simp only [keeps_tumbleStart, keeps_firstStart, hwcycle]; rfl
  · simp only [keeps_tumbleStart, keeps_firstStart, hwfan]
  · exact (unheated_tumbleStart (unheated_of_same (by simp) (by simp) hwflame) _).2
  · exact started_tumbleStart hfirst (by simp) (by simpa using hwstop) (clock_of_besides hbesides)
      (profiles_of_besides hbesides)
  · obtain ⟨n, h⟩ := dryness_tumbleStart d x.profile
      (firstStart d x.profile (enterPurge d (some .drying) id (drynessStart d s)))
    exact ⟨n, by rw [h]; simp [hwdryness]⟩

/-- CYCLE_START of a READY drum whose port is in UP, check by check. -/
theorem cycleStart_up (ha : r.args = [byte d.val]) (hready : (u.drum d).cycle.state = .ready)
    (hx : (u.drum d).cycle.record = some x) (hport : (u.drum d).port.state = .up) :
    cycleStart r u =
      if ((u.drum d).port.readings.doorOpen || (u.drum d).port.readings.lintOut) = true then refuse .busy u
      else if (u.drum d).boundPresent = false then refuse .busy u
      else if 0 < x.maxStage ∧ (u.drum d).burner.lockout ≠ none then refuse .lockout u
      else if u.noStart d = true then refuse .lockout u
      else ok (startCycle d u) := by
  unfold cycleStart
  rw [onDrumArg_args ha]
  simp only [hready, hx, hport, not_true_eq_false, ne_eq, if_false, Bool.not_eq_true', Bool.and_eq_true, bne_iff_ne,
    Option.isSome_iff_ne_none, Nat.pos_iff_ne_zero]

end

/-- Settles O24: the checks in their order; the accepted start is PURGE and then START. -/
theorem cycleStartChecksThenPurges : Obligations.CycleStartChecksThenPurges := by
  refine ⟨fun s r rest b ho hcode ha hb => exec_drum_above (p := (.cycleStart, 11)) ho hcode ha hb (by decide),
    fun s r rest d ho hcode ha => ?_⟩
  have hm : isCode 11 r = true := isCode_args (code_toNat (by decide) hcode) ha rfl
  have refused {st : Status} (h : cycleStart r (s.taken rest) = refuse st (s.taken rest)) :
      exec .cycleStart s = .next (s.answered r rest st []) := exec_refused rfl ho hm h
  refine ⟨fun hstate => refused ?_, fun x hready hx => ⟨fun hport => refused ?_, fun hport => ?_⟩⟩
  · unfold cycleStart
    rw [onDrumArg_args ha]
    exact if_pos hstate
  · unfold cycleStart
    rw [onDrumArg_args ha]
    exact (if_neg (not_not.mpr hready)).trans (if_pos hport)
  have hstart := cycleStart_up (u := s.taken rest) ha hready hx hport
  rw [drum_taken] at hstart
  refine ⟨fun hbusy => refused ?_, fun hdoor hlint hnodes => ?_⟩
  · rw [hstart]
    rcases hbusy with h | h | h
    · exact if_pos (by rw [h]; rfl)
    · exact if_pos (by rw [h, Bool.or_true])
    · split
      · rfl
      · exact if_pos (boundPresent_false.mpr h)
  rw [if_neg (by rw [hdoor, hlint]; exact nofun), if_neg (by rw [boundPresent_iff.mpr hnodes]; exact nofun)] at hstart
  refine ⟨fun hlocked => refused ?_, fun hstage hclear => ?_⟩
  · rw [hstart]
    rcases hlocked with h | h
    · exact if_pos h
    · split
      · rfl
      · exact if_pos (noStart_iff.mpr h)
  · have hstart' : cycleStart r (s.taken rest) = ok (startCycle d (s.taken rest)) := by
      have hnone : ¬(s.taken rest).noStart d = true := by
        rw [noStart_iff]
        rintro ⟨a, h⟩
        exact absurd (hclear a) (by rw [show (s.attr d a).noStart = true from h]; exact nofun)
      rw [hstart, if_neg (fun ⟨hpos, hlock⟩ => hstage.elim hpos.ne' hlock), if_neg hnone]
    obtain ⟨t, hexec, hbesides, hdrum, hflight⟩ := exec_drumDone (c := .cycleStart) rfl ho hm hstart'
      (besides_startCycle d _)
    obtain ⟨hhanded, hcycle, hfan, hflame, hstarted, n, hdryness⟩ := startCycle_writes (s := s.taken rest) hx
    have hstarted' : Started s t d x.profile (decide (x.profile = 255)) := started_congr rfl rfl rfl hdrum hstarted
    refine ⟨t, hexec, hbesides, ?_⟩
    rw [hdrum, hflight]
    exact ⟨events_of_handed hhanded, increments_of_handed hhanded, hcycle, hfan, hflame, hstarted',
      by rw [hdryness], by rw [hdryness], by rw [hdryness], by rw [hdryness]⟩

section
variable {s u : State} {r : Request} {d : Drum} {x : CycleRecord}

/-- An accepted CYCLE_RESUME (R83). -/
theorem resumeCycle_writes (d : Drum) (s : State) :
    (resumeCycle d s).handed = s.handed ∧
      ((resumeCycle d s).drum d).cycle =
        { (s.drum d).cycle.cleared with
          state := .purge
          purgeTarget := (s.drum d).cycle.pausedFrom
          prove :=
            if (s.drum d).port.readings.airflowNotProven then seconds (s.drum d).config.proveTimeout else none
          air := if (s.drum d).port.readings.airflowNotProven then none else seconds (s.drum d).config.minAir } ∧
      ((resumeCycle d s).drum d).port.image.fan = true ∧
      (∀ x, (s.drum d).cycle.record = some x →
        Started s (resumeCycle d s) d x.profile (s.drum d).tumble.first255) ∧
      ∃ n, ((resumeCycle d s).drum d).dryness =
        { (s.drum d).dryness with confirm := 0, starvation := none, settle := n } := by
  obtain ⟨hwcycle, hwfan, hwtumble, -, hwstop, hwdryness, hwhanded, -⟩ :=
    enterPurge_writes d (s.drum d).cycle.pausedFrom Cycle.cleared (s.onDryness d fun m => { m with confirm := 0 })
  have hbesides : (enterPurge d (s.drum d).cycle.pausedFrom Cycle.cleared
      (s.onDryness d fun m => { m with confirm := 0 })).besides d = s.besides d := by simp
  unfold resumeCycle
  dsimp only
  refine ⟨?_, ?_, ?_, fun x hx => ?_, ?_⟩
  · rw [handed_tumbleStart]; exact hwhanded
  · simp only [keeps_tumbleStart, hwcycle, drum_onDryness_self]
  · simp only [keeps_tumbleStart, hwfan]
  · rw [cycleProfile_of_record (x := x) (by rw [hwcycle]; simp [Cycle.cleared, hx])]
    exact started_tumbleStart (by rw [hwtumble]; simp) (by simp) (by simpa using hwstop)
      (clock_of_besides hbesides) (profiles_of_besides hbesides)
  · obtain ⟨n, h⟩ := dryness_tumbleStart d
      ((enterPurge d (s.drum d).cycle.pausedFrom Cycle.cleared
        (s.onDryness d fun m => { m with confirm := 0 })).cycleProfile d)
      (enterPurge d (s.drum d).cycle.pausedFrom Cycle.cleared (s.onDryness d fun m => { m with confirm := 0 }))
    exact ⟨n, by rw [h, hwdryness]; simp⟩

/-- CYCLE_RESUME of a paused drum. -/
theorem cycleResume_paused (ha : r.args = [byte d.val]) (hpaused : (u.drum d).cycle.state = .paused) :
    cycleResume r u =
      if (u.drum d).port.readings.doorOpen = true ∨ (u.drum d).port.state ≠ .up ∨ (u.drum d).boundPresent = false then
        refuse .busy u
      else ok (resumeCycle d u) := by
  unfold cycleResume
  rw [onDrumArg_args ha]
  simp only [hpaused, not_true_eq_false, ne_eq, if_false, Bool.or_eq_true, bne_iff_ne, Bool.not_eq_true', or_assoc]

end

/-- Settles O26: the three refusals in one check; the accepted resume is PURGE and then START. -/
theorem cycleResumePurgesTowardThePhase : Obligations.CycleResumePurgesTowardThePhase := by
  refine ⟨fun s r rest b ho hcode ha hb => exec_drum_above (p := (.cycleResume, 13)) ho hcode ha hb (by decide),
    fun s r rest d ho hcode ha => ?_⟩
  have hm : isCode 13 r = true := isCode_args (code_toNat (by decide) hcode) ha rfl
  refine ⟨fun hstate => exec_refused rfl ho hm ?_, fun hpaused => ?_⟩
  · show cycleResume r (s.taken rest) = _
    unfold cycleResume
    rw [onDrumArg_args ha]
    exact if_pos hstate
  have hresume := cycleResume_paused (u := s.taken rest) ha hpaused
  rw [drum_taken] at hresume
  refine ⟨fun hbusy => exec_refused rfl ho hm (hresume.trans (if_pos (by rwa [boundPresent_false]))),
    fun hdoor hport hnodes => ?_⟩
  rw [boundPresent_iff.mpr hnodes, hdoor, hport, if_neg (by simp)] at hresume
  obtain ⟨t, hexec, hbesides, hdrum, hflight⟩ := exec_drumDone (c := .cycleResume) rfl ho hm hresume
    (besides_resumeCycle d _)
  obtain ⟨hhanded, hcycle, hfan, hstarted, n, hdryness⟩ := resumeCycle_writes d (s.taken rest)
  have hstarted' : ∀ x, (s.drum d).cycle.record = some x → Started s t d x.profile (s.drum d).tumble.first255 :=
    fun x hx => started_congr rfl rfl rfl hdrum (hstarted x hx)
  refine ⟨t, hexec, hbesides, ?_⟩
  rw [hdrum, hflight]
  exact ⟨events_of_handed hhanded, increments_of_handed hhanded, hcycle, hfan, hstarted',
    by rw [hdryness], by rw [hdryness]; rfl, by rw [hdryness]; rfl⟩

end Sys2Proof.Machine
end

section
/-! CYCLE_PAUSE, CYCLE_END_HEAT and CYCLE_ABORT; settles O25 and O27. -/

namespace Sys2Proof.Machine

section
variable {s u : State} {r : Request} {rest : List Request} {d : Drum}

/-! ### CYCLE_PAUSE (R79, R81, R82) -/

theorem cyclePause_idle (ha : r.args = [byte d.val])
    (h : (u.drum d).cycle.state ∈ [CycleState.vacant, .ready, .guarding, .done, .halted]) :
    cyclePause r u = refuse .state u := by
  simp only [List.mem_cons, List.not_mem_nil, or_false] at h
  unfold cyclePause
  rw [onDrumArg_args ha]
  rcases h with h | h | h | h | h <;> rw [h]

theorem cyclePause_paused (ha : r.args = [byte d.val]) (h : (u.drum d).cycle.state = .paused) :
    cyclePause r u = ok (joinCause d .request u) := by
  unfold cyclePause pauseOrJoin
  rw [onDrumArg_args ha]
  simp only [h]

theorem cyclePause_active (ha : r.args = [byte d.val])
    (h : (u.drum d).cycle.state ∈ [CycleState.purge, .drying, .cooling]) :
    cyclePause r u = ok (pauseCycle d .request u) := by
  simp only [List.mem_cons, List.not_mem_nil, or_false] at h
  unfold cyclePause pauseOrJoin
  rw [onDrumArg_args ha]
  rcases h with h | h | h <;> simp only [h]

theorem drum_joinCause (d : Drum) (c : PauseCause) (s : State) :
    (joinCause d c s).drum d =
      { s.drum d with
        cycle :=
          { (s.drum d).cycle with
            causes := if c ∈ (s.drum d).cycle.causes then (s.drum d).cycle.causes else (s.drum d).cycle.causes ++ [c] } } := by
  unfold joinCause
  rw [State.onCycle, drum_onDrum_self]
  split <;> rfl

/-- The phase a cycle under way is paused from (R79). -/
theorem pausePhase_eq {c : Cycle} (h : c.state ∈ [CycleState.purge, .drying, .cooling]) :
    c.pausePhase =
      if c.state = .drying then some .drying else if c.state = .cooling then some .cooling else c.purgeTarget := by
  simp only [List.mem_cons, List.not_mem_nil, or_false] at h
  unfold Cycle.pausePhase
  rcases h with h | h | h <;> rw [h] <;> rfl

/-- The cycle record as entry to PAUSED leaves it (R79). -/
def Cycle.pausedBy (c : Cycle) (cause : PauseCause) (fanOverrun pauseLimit : Nat) : Cycle :=
  { c with
    state := .paused
    causes := [cause]
    pausedFrom := c.pausePhase
    purgeTarget := none
    prove := none
    air := none
    fanOverrun := if fanOverrun = 0 then none else seconds fanOverrun
    pauseLimit := if pauseLimit = 0 then none else minutes pauseLimit }

/-- Entry to PAUSED before its HOLD (R79). -/
def pauseEntered (d : Drum) (cause : PauseCause) (s : State) : State :=
  setCycle d .paused
    (fun c => c.pausedBy cause (s.drum d).config.fanOverrun (s.drum d).config.pauseLimit) s

theorem cycle_pauseEntered (d : Drum) (cause : PauseCause) (s : State) :
    ((pauseEntered d cause s).drum d).cycle =
      (s.drum d).cycle.pausedBy cause (s.drum d).config.fanOverrun (s.drum d).config.pauseLimit :=
  (setCycle_cycle d .paused _ s).1

theorem fan_pauseEntered (d : Drum) (cause : PauseCause) (s : State) :
    ((pauseEntered d cause s).drum d).port.image.fan = true :=
  (setCycle_cycle d .paused _ s).2

theorem tumble_pauseEntered (d : Drum) (cause : PauseCause) (s : State) :
    ((pauseEntered d cause s).drum d).tumble = { (s.drum d).tumble with stalls := 0 } :=
  tumble_setCycle d .paused _ s

theorem unheated_pauseEntered (d : Drum) (cause : PauseCause) (s : State) : Unheated (pauseEntered d cause s) d :=
  unheated_setCycle (by decide) _ s

theorem pauseCycle_eq (d : Drum) (cause : PauseCause) (s : State) :
    pauseCycle d cause s =
      raise (.cycle d) .cyclePaused d (some (byte cause.code))
        (if (s.drum d).config.fanOverrun = 0 then writeFan d false (tumbleHold d (pauseEntered d cause s))
         else tumbleHold d (pauseEntered d cause s)) := rfl

/-- What CYCLE_PAUSE makes of a drum under way: PAUSED with its timers, HOLD, the flame out, and the fan as its overrun says. -/
theorem pauseCycle_writes (d : Drum) (cause : PauseCause) (s : State) :
    ((pauseCycle d cause s).drum d).cycle =
        (s.drum d).cycle.pausedBy cause (s.drum d).config.fanOverrun (s.drum d).config.pauseLimit ∧
      ((pauseCycle d cause s).drum d).port.image.fan = decide ((s.drum d).config.fanOverrun ≠ 0) ∧
      ((pauseCycle d cause s).drum d).port.image.flameStage = 0 ∧
      (((s.drum d).tumble.state.running = true →
        ((pauseCycle d cause s).drum d).tumble.state = .decel ∧
          ((pauseCycle d cause s).drum d).tumble.target = some .stopped ∧
          ((pauseCycle d cause s).drum d).port.image.drive = .stop) ∧
      ((pauseCycle d cause s).drum d).tumble.multiplier = (s.drum d).tumble.multiplier ∧
      ((pauseCycle d cause s).drum d).tumble.reduction = (s.drum d).tumble.reduction) := by
  have hheld : ((pauseEntered d cause s).drum d).cycle.state ≠ .guarding := by
    rw [cycle_pauseEntered]; exact nofun
  have hcycle := (cycle_tumbleHold hheld).trans (cycle_pauseEntered d cause s)
  have hfan := (fan_of_reportTaken (reportTaken_tumbleHold d (pauseEntered d cause s)) hheld).trans (fan_pauseEntered d cause s)
  have hflame := (unheated_tumbleHold (unheated_pauseEntered d cause s)).2
  obtain ⟨-, hmultiplier, hreduction, -⟩ := keeps_tumble_tumbleHold d (pauseEntered d cause s)
  rw [tumble_pauseEntered] at hmultiplier hreduction
  have hdecel (hrun : (s.drum d).tumble.state.running = true) :
      ((tumbleHold d (pauseEntered d cause s)).drum d).tumble.state = .decel ∧
        ((tumbleHold d (pauseEntered d cause s)).drum d).tumble.target = some .stopped ∧
        ((tumbleHold d (pauseEntered d cause s)).drum d).port.image.drive = .stop := by
    obtain ⟨htumble, -, hdrive⟩ := enterDecel_writes d .stopped (pauseEntered d cause s)
    rw [tumbleHold_running (by rw [tumble_pauseEntered]; exact hrun), htumble]
    exact ⟨rfl, rfl, hdrive⟩
  rw [pauseCycle_eq]
  by_cases hover : (s.drum d).config.fanOverrun = 0
  · rw [if_pos hover]
    simp only [keeps_raise, keeps_writeFan, writeFan_fan]
    exact ⟨hcycle, by simp [hover], hflame, hdecel, hmultiplier, hreduction⟩
  · rw [if_neg hover]
    simp only [keeps_raise]
    exact ⟨hcycle, by simp [hover, hfan], hflame, hdecel, hmultiplier, hreduction⟩

/-! ### CYCLE_END_HEAT (R75) -/

theorem cycleEndHeat_idle (ha : r.args = [byte d.val])
    (h : (u.drum d).cycle.state ∈ [CycleState.vacant, .ready, .done, .halted]) : cycleEndHeat r u = refuse .state u := by
  simp only [List.mem_cons, List.not_mem_nil, or_false] at h
  unfold cycleEndHeat
  rw [onDrumArg_args ha]
  rcases h with h | h | h | h <;> rw [h]

theorem cycleEndHeat_active (ha : r.args = [byte d.val])
    (h : (u.drum d).cycle.state ∉ [CycleState.vacant, .ready, .done, .halted]) :
    cycleEndHeat r u = ok (heatEnd d .endHeat u) := by
  unfold cycleEndHeat
  rw [onDrumArg_args ha]
  split <;> simp_all

/-- A heat end that finds no heat to end (R75). -/
theorem heatEnd_unheated
    (h : (s.drum d).cycle.state ∈ [CycleState.cooling, .guarding] ∨
      ((s.drum d).cycle.state = .purge ∧ (s.drum d).cycle.purgeTarget ≠ some .drying) ∨
      ((s.drum d).cycle.state = .paused ∧ (s.drum d).cycle.pausedFrom ≠ some .drying)) (x : Reason) :
    heatEnd d x s = s := by
  simp only [List.mem_cons, List.not_mem_nil, or_false] at h
  unfold heatEnd
  dsimp only
  rcases h with (h | h) | ⟨h, ht⟩ | ⟨h, ht⟩ <;> rw [h] <;> exact if_neg ht

theorem heatEnd_purge (h : (s.drum d).cycle.state = .purge) (ht : (s.drum d).cycle.purgeTarget = some .drying) (x : Reason) :
    heatEnd d x s = s.onCycle d fun c => { c with purgeTarget := some .cooling, reason := x } := by
  unfold heatEnd
  dsimp only
  rw [h]
  exact if_pos ht

theorem heatEnd_paused (h : (s.drum d).cycle.state = .paused) (ht : (s.drum d).cycle.pausedFrom = some .drying)
    (x : Reason) :
    heatEnd d x s = s.onCycle d fun c => { c with pausedFrom := some .cooling, reason := x } := by
  unfold heatEnd
  dsimp only
  rw [h]
  exact if_pos ht

/-- Entry to COOLING (R74, R84). -/
theorem startCooling_writes (d : Drum) (x : Reason) (s : State) :
    (startCooling d x s).handed = s.handed ∧
      ((startCooling d x s).drum d).cycle =
        { (s.drum d).cycle.cleared with state := .cooling, cooling := 0, minCoolPassed := false, reason := x } ∧
      ((startCooling d x s).drum d).port.image.flameStage = 0 ∧
      ((startCooling d x s).drum d).port.image.fan = true ∧
      ((startCooling d x s).drum d).tumble = { (s.drum d).tumble with stalls := 0 } ∧
      ((startCooling d x s).drum d).dryness.extraDry = none := by
  unfold startCooling
  obtain ⟨hcycle, hfan⟩ := setCycle_cycle d .cooling
    (fun c => { c.cleared with cooling := 0, minCoolPassed := false, reason := x }) s
  refine ⟨handed_setCycle d _ _ s, hcycle, (burner_setCycle (.inr (by decide))).2, hfan, tumble_setCycle d _ _ s, ?_⟩
  rw [dryness_setCycle]
  rfl

/-- Departure from DRYING clears the wanted stage (R141). -/
theorem wanted_startCooling (h : (s.drum d).cycle.state = .drying) (x : Reason) :
    ((startCooling d x s).drum d).burner.wanted = 0 := by
  unfold startCooling
  rw [(burner_setCycle (.inr (by decide))).1, h]
  rfl

end

/-- Settles O25: by cycle state; a pause by its HOLD, a heat end by its target or its entry to COOLING. -/
theorem pauseHoldsAndEndHeatCools : Obligations.PauseHoldsAndEndHeatCools := by
  refine ⟨fun s r rest d ho hcode ha => ?_, fun s r rest d ho hcode ha => ?_⟩
  · have hm : isCode 12 r = true := isCode_args (code_toNat (by decide) hcode) ha rfl
    refine ⟨fun h => exec_refused rfl ho hm (cyclePause_idle (u := s.taken rest) ha h), fun h => ?_, fun h => ?_⟩
    · obtain ⟨t, hexec, hbesides, hdrum, hflight⟩ := exec_drumDone (c := .cyclePause) rfl ho hm
        (cyclePause_paused (u := s.taken rest) ha h) (besides_joinCause d .request _)
      refine ⟨t, hexec, hbesides, hflight, ?_⟩
      rw [hdrum, drum_joinCause]
      rfl
    · obtain ⟨t, hexec, hbesides, hdrum, hflight⟩ := exec_drumDone (c := .cyclePause) rfl ho hm
        (cyclePause_active (u := s.taken rest) ha h) (besides_pauseCycle d .request _)
      obtain ⟨hcycle, hfan, hflame, hheld⟩ := pauseCycle_writes d .request (s.taken rest)
      have hhanded := handed_pauseCycle d .request (s.taken rest)
      have hphase := pausePhase_eq (c := ((s.taken rest).drum d).cycle) h
      refine ⟨t, hexec, hbesides, ?_⟩
      rw [hdrum, hflight, hcycle, window_pauseCycle, Cycle.pausedBy, hphase]
      exact ⟨congrArg Prod.fst hhanded, congrArg Prod.snd hhanded, rfl, hfan, hflame, hheld.1, hheld.2.1, hheld.2.2, rfl⟩
  · have hm : isCode 14 r = true := isCode_args (code_toNat (by decide) hcode) ha rfl
    have hserve (h : (s.drum d).cycle.state ∉ [CycleState.vacant, .ready, .done, .halted]) :
        cycleEndHeat r (s.taken rest) = ok (heatEnd d .endHeat (s.taken rest)) := cycleEndHeat_active ha h
    refine ⟨fun h => exec_refused rfl ho hm (cycleEndHeat_idle (u := s.taken rest) ha h), fun h => ?_, fun h => ?_,
      fun h ht => ?_, fun h ht => ?_⟩
    · have hkept : heatEnd d .endHeat (s.taken rest) = s.taken rest := heatEnd_unheated (s := s.taken rest) h .endHeat
      refine exec_idle rfl ho hm ((hserve ?_).trans (congrArg ok hkept))
      rcases h with h | ⟨h, -⟩ | ⟨h, -⟩
      · revert h; cases (s.drum d).cycle.state <;> decide
      · rw [h]; decide
      · rw [h]; decide
    · obtain ⟨t, hexec, hbesides, hdrum, hflight⟩ := exec_drumDone (c := .cycleEndHeat) rfl ho hm
        ((hserve (by rw [h]; decide)).trans (congrArg ok (heatEnd_drying (s := s.taken rest) h _))) (besides_startCooling d _ _)
      obtain ⟨hhanded, hcycle, hflame, hfan, htumble, -⟩ := startCooling_writes d .endHeat (s.taken rest)
      refine ⟨t, hexec, hbesides, ?_⟩
      rw [hdrum, hflight]
      exact ⟨events_of_handed hhanded, hcycle, hflame, hfan, wanted_startCooling (s := s.taken rest) h _, htumble⟩
    · obtain ⟨t, hexec, hbesides, hdrum, hflight⟩ := exec_drumDone (c := .cycleEndHeat)
        (op := fun u => u.onCycle d fun c => { c with purgeTarget := some .cooling, reason := .endHeat }) rfl ho hm
        ((hserve (by rw [h]; decide)).trans (congrArg ok (heatEnd_purge (s := s.taken rest) h ht _))) (besides_onCycle d _ _)
      exact ⟨t, hexec, hbesides, hflight, hdrum.trans (drum_onDrum_self _ d _)⟩
    · obtain ⟨t, hexec, hbesides, hdrum, hflight⟩ := exec_drumDone (c := .cycleEndHeat)
        (op := fun u => u.onCycle d fun c => { c with pausedFrom := some .cooling, reason := .endHeat }) rfl ho hm
        ((hserve (by rw [h]; decide)).trans (congrArg ok (heatEnd_paused (s := s.taken rest) h ht _))) (besides_onCycle d _ _)
      exact ⟨t, hexec, hbesides, hflight, hdrum.trans (drum_onDrum_self _ d _)⟩

/-! ### CYCLE_ABORT (R84) -/

section
variable {s u : State} {r : Request} {d : Drum}

theorem cycleAbort_eq (ha : r.args = [byte d.val]) :
    cycleAbort r u = if (u.drum d).cycle.state.idle then refuse .state u else ok (abortCycle d u) :=
  onDrumArg_args ha

/-- Entry to DONE: STOP, the flame and the fan out (R78). -/
theorem enterDone_writes (d : Drum) (s : State) :
    ((enterDone d s).drum d).tumble =
        ((tumbleStop d (setCycle d .done Cycle.cleared s)).drum d).tumble ∧
      ((enterDone d s).drum d).port.image.flameStage = 0 ∧ ((enterDone d s).drum d).port.image.fan = false := by
  have hflame := (unheated_tumbleStop (unheated_setCycle (d := d) (new := .done) (by decide) Cycle.cleared s)).2
  have hfan := fanOff_of_reportTaken (reportTaken_tumbleStop d (setCycle d .done Cycle.cleared s))
    (setCycle_cycle d .done Cycle.cleared s).2
  unfold enterDone
  dsimp only
  split
  · simp only [keeps_handIncrement, keeps_raise]
    exact ⟨trivial, hflame, hfan⟩
  · simp only [keeps_raise]
    exact ⟨trivial, hflame, hfan⟩

/-- The tumble controller of a drum that enters DONE has no run and no persistence. -/
theorem stopped_enterDone (d : Drum) (s : State) :
    ((enterDone d s).drum d).tumble.state.running = false ∧ ((enterDone d s).drum d).tumble.multiplier = 1 := by
  rw [(enterDone_writes d s).1]
  exact ⟨running_tumbleStop d _, by rw [tumble_tumbleStop]⟩

theorem abortCycle_heating
    (h : (s.drum d).cycle.state = .drying ∨
      ((s.drum d).cycle.state = .purge ∧ (s.drum d).cycle.purgeTarget ≠ some .cooling)) :
    abortCycle d s = startCooling d .aborted s := by
  unfold abortCycle
  dsimp only
  rcases h with h | ⟨h, ht⟩ <;> rw [h]
  exact if_neg ht

theorem abortCycle_purge (h : (s.drum d).cycle.state = .purge) (ht : (s.drum d).cycle.purgeTarget = some .cooling) :
    abortCycle d s = setCycle d .cooling (fun c => { c.cleared with reason := .aborted }) s := by
  unfold abortCycle
  dsimp only
  rw [h]
  exact if_pos ht

theorem abortCycle_ended (h : (s.drum d).cycle.state ∈ [CycleState.cooling, .guarding, .paused]) :
    abortCycle d s = enterDone d (setReason d .aborted s) := by
  simp only [List.mem_cons, List.not_mem_nil, or_false] at h
  unfold abortCycle
  dsimp only
  rcases h with h | h | h <;> rw [h]

theorem abortCycle_ready (h : (s.drum d).cycle.state = .ready) : abortCycle d s = enterVacant d s := by
  unfold abortCycle; dsimp only; rw [h]

theorem cycle_setReason (d : Drum) (x : Reason) (s : State) :
    ((setReason d x s).drum d).cycle = { (s.drum d).cycle with reason := x } := by
  simp [setReason]

/-- The cycle states in which an abort is accepted, each with what it does. -/
theorem abortCycle_cases (h : (s.drum d).cycle.state ∉ [CycleState.vacant, .done, .halted]) :
    abortCycle d s = startCooling d .aborted s ∨
      abortCycle d s = setCycle d .cooling (fun c => { c.cleared with reason := .aborted }) s ∨
      abortCycle d s = enterDone d (setReason d .aborted s) ∨ abortCycle d s = enterVacant d s := by
  cases hs : (s.drum d).cycle.state
  case vacant | done | halted => rw [hs] at h; exact absurd h (by decide)
  case drying => exact .inl (abortCycle_heating (.inl hs))
  case purge =>
    by_cases ht : (s.drum d).cycle.purgeTarget = some .cooling
    · exact .inr (.inl (abortCycle_purge hs ht))
    · exact .inl (abortCycle_heating (.inr ⟨hs, ht⟩))
  case cooling | guarding | paused => exact .inr (.inr (.inl (abortCycle_ended (by simp [hs]))))
  case ready => exact .inr (.inr (.inr (abortCycle_ready hs)))

/-- An abort counts no cycle and puts the flame out. -/
theorem abortCycle_writes (h : (s.drum d).cycle.state ∉ [CycleState.vacant, .done, .halted]) :
    (abortCycle d s).flight.increments = s.flight.increments ∧
      ((abortCycle d s).drum d).port.image.flameStage = 0 := by
  rcases abortCycle_cases h with h | h | h | h <;> rw [h]
  · obtain ⟨hhanded, -, hflame, -⟩ := startCooling_writes d .aborted s
    exact ⟨increments_of_handed hhanded, hflame⟩
  · exact ⟨increments_of_handed (handed_setCycle d _ _ s), (burner_setCycle (.inr (by decide))).2⟩
  · have hcount := congrArg Prod.snd (handed_enterDone d (setReason d .aborted s))
    rw [cycle_setReason] at hcount
    exact ⟨hcount.trans (List.append_nil _), (enterDone_writes d _).2.1⟩
  · exact ⟨increments_of_handed (handed_enterVacant d s), (burner_setCycle (.inr (by decide))).2⟩

end

/-- Settles O27: by the cycle state that the abort finds. -/
theorem abortEndsTheCycleByState : Obligations.AbortEndsTheCycleByState := by
  refine ⟨fun s r rest b ho hcode ha hb => exec_drum_above (p := (.cycleAbort, 15)) ho hcode ha hb (by decide),
    fun s r rest d ho hcode ha => ?_⟩
  have hm : isCode 15 r = true := isCode_args (code_toNat (by decide) hcode) ha rfl
  have hserve := cycleAbort_eq (u := s.taken rest) ha
  rw [drum_taken] at hserve
  refine ⟨fun h => exec_refused rfl ho hm (hserve.trans (if_pos (idle_iff.mpr h))), fun h => ?_⟩
  obtain ⟨t, hexec, hbesides, hdrum, hflight⟩ := exec_drumDone (c := .cycleAbort) rfl ho hm
    (hserve.trans (if_neg (mt idle_iff.mp h))) (besides_abortCycle d _)
  obtain ⟨hincrements, hflame⟩ := abortCycle_writes (s := s.taken rest) h
  refine ⟨t, hexec, hbesides, ?_⟩
  rw [hdrum, hflight]
  refine ⟨hincrements, hflame, fun hs => ?_, fun hs ht => ?_, fun hs => ?_, fun hs => ?_⟩
  · obtain ⟨hhanded, hcycle, -⟩ := startCooling_writes d .aborted (s.taken rest)
    rw [abortCycle_heating (s := s.taken rest) hs]
    exact ⟨hcycle, events_of_handed hhanded⟩
  · rw [abortCycle_purge (s := s.taken rest) hs ht]
    exact ⟨(setCycle_cycle d _ _ _).1, events_of_handed (handed_setCycle d _ _ _)⟩
  · have hevents := congrArg Prod.fst (handed_enterDone d (setReason d .aborted (s.taken rest)))
    rw [cycle_setReason] at hevents
    rw [abortCycle_ended (s := s.taken rest) hs, cycle_enterDone, cycle_setReason]
    exact ⟨rfl, hevents, (stopped_enterDone d _).1, (stopped_enterDone d _).2, (enterDone_writes d _).2.2⟩
  · rw [abortCycle_ready (s := s.taken rest) hs]
    exact ⟨cycle_enterVacant d _, events_of_handed (handed_enterVacant d _)⟩

end Sys2Proof.Machine
end

section
/-! The times of PURGE, DRYING, COOLING, GUARD and PAUSED; settles O44 and O45. -/

namespace Sys2Proof.Machine

section
variable {s u : State} {d : Drum} {x : CycleRecord}

/-! ### A timed command acts when its time has come, and not before -/

theorem exec_onlyIf_pos {c : Instr} {b : Bool} {f : State → State} (h : exec c s = .next (onlyIf b f s)) (hb : b = true) :
    exec c s = .next (f s) := by
  rw [h, onlyIf_pos hb]

theorem exec_onlyIf_neg {c : Instr} {b : Bool} {f : State → State} (h : exec c s = .next (onlyIf b f s)) (hb : b = false) :
    exec c s = .next s := by
  rw [h, onlyIf_neg (by rw [hb]; exact Bool.false_ne_true)]

theorem exec_proveTimeout (hrun : s.resetHeld = false) :
    exec (.proveTimeout d) s =
      .next (onlyIf ((s.drum d).cycle.state == .purge && due (s.drum d).cycle.prove) (cycleHalt d .airflow) s) := by
  have h : exec (.proveTimeout d) s = execProveTimeout d s := rfl
  rw [h, execProveTimeout, running_released _ hrun]

theorem exec_airTimeEnd (hrun : s.resetHeld = false) :
    exec (.airTimeEnd d) s =
      .next (onlyIf ((s.drum d).cycle.state == .purge && due (s.drum d).cycle.air) (enterTarget d) s) := by
  have h : exec (.airTimeEnd d) s = execAirTimeEnd d s := rfl
  rw [h, execAirTimeEnd, running_released _ hrun]

theorem exec_dryingTimeLimit (hrun : s.resetHeld = false) :
    exec (.dryingTimeLimit d) s = .next (onlyIf (s.drum d).cycle.dryingUp (startCooling d .timeLimit) s) := by
  have h : exec (.dryingTimeLimit d) s = execDryingTimeLimit d s := rfl
  rw [h, execDryingTimeLimit, running_released _ hrun]

theorem dryingUp_of_record (hs : (s.drum d).cycle.state = .drying) (hx : (s.drum d).cycle.record = some x)
    (h : x.maxDrying * 60000 ≤ (s.drum d).cycle.drying) : (s.drum d).cycle.dryingUp = true := by
  simp [Cycle.dryingUp, hs, hx, h]

theorem dryingUp_eq_false (hs : (s.drum d).cycle.state ≠ .drying) : (s.drum d).cycle.dryingUp = false := by
  simp [Cycle.dryingUp, hs]

/-! ### A change of cycle state with STOP (R77, R78, R85) -/

/-- STOP at a change of cycle state that writes FAN OFF ends the run, puts the flame out and clears the persistence. -/
theorem tumbleStop_setCycle_writes {new : CycleState} (hnew : new ≠ .drying) (hfan : new.fanOnEntry = false)
    (f : Cycle → Cycle) (s : State) :
    (tumbleStop d (setCycle d new f s)).handed = s.handed ∧
      ((tumbleStop d (setCycle d new f s)).drum d).port.image.fan = false ∧
      ((tumbleStop d (setCycle d new f s)).drum d).port.image.flameStage = 0 ∧
      ((tumbleStop d (setCycle d new f s)).drum d).tumble.state.running = false ∧
      ((s.drum d).tumble.state.running = true →
        ((tumbleStop d (setCycle d new f s)).drum d).port.image.drive = .stop) ∧
      ((tumbleStop d (setCycle d new f s)).drum d).tumble.multiplier = 1 ∧
      ((tumbleStop d (setCycle d new f s)).drum d).tumble.reduction = 0 := by
  refine ⟨by simp, ?_, (unheated_tumbleStop (unheated_setCycle hnew f s)).2, running_tumbleStop d _, fun hrun => ?_,
    by rw [tumble_tumbleStop], by rw [tumble_tumbleStop]⟩
  · exact fanOff_of_reportTaken (reportTaken_tumbleStop d _) ((setCycle_cycle d new f s).2.trans hfan)
  · exact drive_tumbleStop_running (by rw [tumble_setCycle]; exact hrun)

/-- The cycle record after STOP at a change to a state other than GUARD. -/
theorem cycle_tumbleStop_setCycle {new : CycleState} (hnew : new ≠ .guarding) (f : Cycle → Cycle) (s : State) :
    ((tumbleStop d (setCycle d new f s)).drum d).cycle = { f (s.drum d).cycle with state := new } := by
  rw [cycle_tumbleStop (by rw [(setCycle_cycle d new f s).1]; exact hnew), (setCycle_cycle d new f s).1]

theorem cycleHalt_eq (h : (s.drum d).cycle.state.halts = true) (cause : HaltCause) :
    cycleHalt d cause s =
      raise (.cycle d) .cycleHalted d (some (byte cause.code))
        (tumbleStop d (setCycle d .halted (fun c => { c.cleared with halt := cause }) s)) := by
  unfold cycleHalt
  exact if_pos h

/-- A halt cause acts: HALTED with the cause, CYCLE_HALTED raised (R85). -/
theorem cycleHalt_writes (h : (s.drum d).cycle.state.halts = true) (cause : HaltCause) :
    (cycleHalt d cause s).handed =
        (s.handed.1 ++ [⟨.cycle d, .cycleHalted, d, s.clock, some (byte cause.code)⟩], s.handed.2) ∧
      ((cycleHalt d cause s).drum d).cycle = { (s.drum d).cycle.cleared with state := .halted, halt := cause } := by
  obtain ⟨hhanded, -⟩ := tumbleStop_setCycle_writes (d := d) (new := .halted) (by decide) rfl
    (fun c => { c.cleared with halt := cause }) s
  have hclock : (tumbleStop d (setCycle d .halted (fun c => { c.cleared with halt := cause }) s)).clock = s.clock :=
    clock_of_besides (d := d) (by simp)
  rw [cycleHalt_eq h]
  refine ⟨?_, ?_⟩
  · rw [handed_raise, hhanded, hclock]
  · simp only [keeps_raise]
    exact cycle_tumbleStop_setCycle (by decide) _ s

/-- A halt writes FAN OFF, puts the flame out and stops the drum with its persistence cleared (R85). -/
theorem cycleHalt_stops (h : (s.drum d).cycle.state.halts = true) (cause : HaltCause) :
    ((cycleHalt d cause s).drum d).port.image.fan = false ∧ ((cycleHalt d cause s).drum d).port.image.flameStage = 0 ∧
      ((cycleHalt d cause s).drum d).tumble.state.running = false ∧
      ((s.drum d).tumble.state.running = true → ((cycleHalt d cause s).drum d).port.image.drive = .stop) ∧
      ((cycleHalt d cause s).drum d).tumble.multiplier = 1 ∧ ((cycleHalt d cause s).drum d).tumble.reduction = 0 := by
  rw [cycleHalt_eq h]
  simp only [keeps_raise]
  exact (tumbleStop_setCycle_writes (by decide) rfl _ s).2

/-! ### The end of a purge's air time (R73) -/

theorem enterTarget_eq {ph : Phase} (h : (s.drum d).cycle.purgeTarget = some ph) :
    enterTarget d s = setCycle d ph.state Cycle.cleared s := by
  unfold enterTarget; rw [h]

theorem phase_state_eq (ph : Phase) : ph.state = if ph = .drying then .drying else .cooling := by
  cases ph <;> rfl

/-- Entry to a phase writes FAN ON. -/
theorem fanOnEntry_phase (ph : Phase) : ph.state.fanOnEntry = true := by
  cases ph <;> rfl

/-- Entry to DRYING keeps a required extra drying time, entry to COOLING drops it (R164). -/
theorem extraDry_setCycle (new : CycleState) (f : Cycle → Cycle) (s : State) :
    (new = .drying → ((setCycle d new f s).drum d).dryness.extraDry = (s.drum d).dryness.extraDry) ∧
      (new = .cooling → ((setCycle d new f s).drum d).dryness.extraDry = none) := by
  rw [dryness_setCycle]
  refine ⟨?_, ?_⟩ <;> rintro rfl
  · unfold Dryness.onCycleState
    dsimp only
    split <;> rfl
  · rfl

end

/-- Settles O44: by the halt, the entry to the target phase and the entry to COOLING. -/
theorem purgeAndDryingEndByTheirTimes : Obligations.PurgeAndDryingEndByTheirTimes := by
  intro s d hrun
  refine ⟨fun hs hdue => ?_, fun ph hs hdue htarget => ?_, fun x hs hx htime => ?_, fun hs => ⟨?_, ?_⟩, fun hs => ?_⟩
  · have hhalts : (s.drum d).cycle.state.halts = true := by rw [hs]; rfl
    obtain ⟨hhanded, hcycle⟩ := cycleHalt_writes hhalts .airflow
    exact ⟨_, exec_onlyIf_pos (exec_proveTimeout hrun) (by simp [hs, hdue, due]), besides_cycleHalt d .airflow s, hcycle,
      congrArg Prod.fst hhanded, congrArg Prod.snd hhanded, cycleHalt_stops hhalts .airflow⟩
  · refine ⟨_, exec_onlyIf_pos (exec_airTimeEnd hrun) (by simp [hs, hdue, due]), besides_enterTarget d s, ?_⟩
    rw [enterTarget_eq htarget]
    have hhanded := handed_setCycle d ph.state Cycle.cleared s
    obtain ⟨hcycle, hfan⟩ := setCycle_cycle d ph.state Cycle.cleared s
    obtain ⟨hkeeps, hdrops⟩ := extraDry_setCycle (d := d) ph.state Cycle.cleared s
    refine ⟨events_of_handed hhanded, increments_of_handed hhanded, ?_, hfan.trans (fanOnEntry_phase ph), ?_, ?_,
      tumble_setCycle d _ _ s⟩
    · rw [hcycle, phase_state_eq]
    · rintro rfl
      obtain ⟨hwanted, hstarvation⟩ := burner_setCycle_drying d Cycle.cleared s
      exact ⟨hwanted, hstarvation, hkeeps rfl⟩
    · rintro rfl
      exact hdrops rfl
  · obtain ⟨hhanded, hcycle, hflame, hfan, htumble, hextra⟩ := startCooling_writes d .timeLimit s
    exact ⟨_, exec_onlyIf_pos (exec_dryingTimeLimit hrun) (dryingUp_of_record hs hx htime), besides_startCooling d _ s,
      events_of_handed hhanded, increments_of_handed hhanded, hcycle, hfan, hflame, hextra, htumble⟩
  · exact exec_onlyIf_neg (exec_proveTimeout hrun) (by simp [hs])
  · exact exec_onlyIf_neg (exec_airTimeEnd hrun) (by simp [hs])
  · exact exec_onlyIf_neg (exec_dryingTimeLimit hrun) (dryingUp_eq_false hs)

/-! ### The end of COOLING (R76, R77) -/

section
variable {s u : State} {d : Drum} {x : CycleRecord} {g : GuardPart}

theorem exec_minimumCoolTimeReached (hrun : s.resetHeld = false) :
    exec (.minimumCoolTimeReached d) s =
      .next (onlyIf ((s.drum d).cycle.coolingReached (·.minCool) && !(s.drum d).cycle.minCoolPassed)
        (fun u => coolTest d (u.onCycle d fun c => { c with minCoolPassed := true })) s) := by
  have h : exec (.minimumCoolTimeReached d) s = execMinimumCoolTimeReached d s := rfl
  rw [h, execMinimumCoolTimeReached, running_released _ hrun]

theorem exec_maximumCoolTime (hrun : s.resetHeld = false) :
    exec (.maximumCoolTime d) s =
      .next (onlyIf ((s.drum d).cycle.coolingReached (·.maxCool)) (coolingEnds d) s) := by
  have h : exec (.maximumCoolTime d) s = execMaximumCoolTime d s := rfl
  rw [h, execMaximumCoolTime, running_released _ hrun]

theorem coolingReached_of_record {limit : CycleRecord → Nat} (hs : (s.drum d).cycle.state = .cooling)
    (hx : (s.drum d).cycle.record = some x) (h : limit x * 60000 ≤ (s.drum d).cycle.cooling) :
    (s.drum d).cycle.coolingReached limit = true := by
  simp [Cycle.coolingReached, hs, hx, h]

/-- Once the minimum cool time is reached the cool condition is a matter of the held exhaust temperature alone. -/
theorem coolMet_iff {D : DrumState} (hx : D.cycle.record = some x) (htime : x.minCool * 60000 ≤ D.cycle.cooling) :
    D.coolMet = true ↔ ∃ v, D.burner.exhaust = some v ∧ v.value ≤ x.coolTarget := by
  unfold DrumState.coolMet
  rw [hx]
  cases hv : D.burner.exhaust <;> simp [htime]

theorem coolTest_of_met (hs : (s.drum d).cycle.state = .cooling) (h : (s.drum d).coolMet = true) :
    coolTest d s = coolingEnds d s := if_pos ⟨hs, h⟩

theorem coolTest_of_not_met (h : ¬(s.drum d).coolMet = true) : coolTest d s = s := if_neg fun hboth => h hboth.2

theorem coolingEnds_unguarded (hx : (s.drum d).cycle.record = some x) (hg : x.guardPart = none) :
    coolingEnds d s = enterDone d s := by
  unfold coolingEnds; rw [hx, Option.bind_some, hg]

/-- The cycle record as entry to GUARD leaves it, the state apart (R77). -/
def Cycle.guardedBy (c : Cycle) (g : GuardPart) : Cycle :=
  { c.cleared with guardInterval := seconds g.interval, guardElapsed := some 0 }

theorem coolingEnds_guarded (hx : (s.drum d).cycle.record = some x) (hg : x.guardPart = some g) :
    coolingEnds d s =
      tumbleStop d (setCycle d .guarding (·.guardedBy g) s) := by
  unfold coolingEnds; rw [hx, Option.bind_some, hg]; rfl

/-- Entry to GUARD: the guard interval and the guard elapsed time start; a guard tumble that the STOP ends would start the
same interval. -/
theorem cycle_coolingEnds_guarded (hx : (s.drum d).cycle.record = some x) (hg : x.guardPart = some g) :
    ((coolingEnds d s).drum d).cycle =
      { (s.drum d).cycle.cleared with
        state := .guarding, guardInterval := seconds g.interval, guardElapsed := some 0 } := by
  have hentered := (setCycle_cycle d .guarding (·.guardedBy g) s).1
  rw [coolingEnds_guarded hx hg]
  rcases reportTaken_tumbleStop d (setCycle d .guarding (·.guardedBy g) s) with
    ⟨hsame, -⟩ | ⟨g', -, hg', hreported, -⟩
  · rw [hsame, hentered]; rfl
  · have hpart : some g' = some g := by
      rw [← hg', hentered]
      change (s.drum d).cycle.record.bind (·.guardPart) = some g
      rw [hx, Option.bind_some, hg]
    obtain rfl := Option.some.inj hpart
    rw [hreported, hentered]; rfl

/-- COOLING ends in DONE without a guard part, in GUARD with one. -/
theorem state_coolingEnds (hx : (s.drum d).cycle.record = some x) :
    (x.guardPart = none → ((coolingEnds d s).drum d).cycle.state = .done) ∧
      (x.guardPart ≠ none → ((coolingEnds d s).drum d).cycle.state = .guarding) := by
  refine ⟨fun hg => ?_, fun hg => ?_⟩
  · rw [coolingEnds_unguarded hx hg, cycle_enterDone]
  · obtain ⟨g, hg⟩ := Option.ne_none_iff_exists'.mp hg
    rw [cycle_coolingEnds_guarded hx hg]

theorem coolingEnds_stops (hx : (s.drum d).cycle.record = some x) :
    ((coolingEnds d s).drum d).port.image.fan = false ∧ ((coolingEnds d s).drum d).port.image.flameStage = 0 ∧
      ((coolingEnds d s).drum d).tumble.state.running = false := by
  cases hg : x.guardPart
  case none =>
    obtain ⟨-, hflame, hfan⟩ := enterDone_writes d s
    rw [coolingEnds_unguarded hx hg]
    exact ⟨hfan, hflame, (stopped_enterDone d s).1⟩
  case some g =>
    obtain ⟨-, hfan, hflame, hrunning, -⟩ :=
      tumbleStop_setCycle_writes (d := d) (new := .guarding) (by decide) rfl (·.guardedBy g) s
    rw [coolingEnds_guarded hx hg]
    exact ⟨hfan, hflame, hrunning⟩

/-! ### GUARD (R77, R78, R104) -/

theorem exec_guardIntervalExpiry (hrun : s.resetHeld = false) :
    exec (.guardIntervalExpiry d) s =
      .next (onlyIf ((s.drum d).cycle.state == .guarding && due (s.drum d).cycle.guardInterval) (guardIntervalEnds d) s) := by
  have h : exec (.guardIntervalExpiry d) s = execGuardIntervalExpiry d s := rfl
  rw [h, execGuardIntervalExpiry, running_released _ hrun]

theorem exec_guardLimit (hrun : s.resetHeld = false) :
    exec (.guardLimit d) s = .next (onlyIf (s.drum d).cycle.guardUp (enterDone d) s) := by
  have h : exec (.guardLimit d) s = execGuardLimit d s := rfl
  rw [h, execGuardLimit, running_released _ hrun]

theorem guardUp_of_record {ms : Nat} (hs : (s.drum d).cycle.state = .guarding) (hx : (s.drum d).cycle.record = some x)
    (hg : x.guardPart = some g) (hms : (s.drum d).cycle.guardElapsed = some ms) (h : g.limit * 60000 ≤ ms) :
    (s.drum d).cycle.guardUp = true := by
  simp [Cycle.guardUp, hs, hx, hg, hms, h]

theorem guardUp_eq_false (hs : (s.drum d).cycle.state ≠ .guarding) : (s.drum d).cycle.guardUp = false := by
  simp [Cycle.guardUp, hs]

/-- The state in which the guard interval's end gives GUARD_TUMBLE: FAN ON, the interval over. -/
def guardIntervalOver (d : Drum) (s : State) : State :=
  writeFan d true (s.onCycle d fun c => { c with guardInterval := none })

theorem guardIntervalEnds_eq (hx : (s.drum d).cycle.record = some x) (hg : x.guardPart = some g) :
    guardIntervalEnds d s = tumbleGuard d g.tumbleLength (guardIntervalOver d s) := by
  unfold guardIntervalEnds; rw [hx, Option.bind_some, hg]; rfl

theorem tumble_guardIntervalOver (d : Drum) (s : State) :
    ((guardIntervalOver d s).drum d).tumble = (s.drum d).tumble := by
  simp [guardIntervalOver]

theorem tumbleGuard_going (n : Nat) (h : (s.drum d).tumble.state ≠ .stopped) : tumbleGuard d n s = s := by
  unfold tumbleGuard
  cases hs : (s.drum d).tumble.state
  case stopped => exact absurd hs h
  all_goals rfl

/-- GUARD_TUMBLE from STOPPED: a start that keeps the profile in force and the stalls (R104). -/
theorem tumbleGuard_stopped (n : Nat) (h : (s.drum d).tumble.state = .stopped) :
    ((tumbleGuard d n s).drum d).tumble.guardLength = some n ∧
      ((tumbleGuard d n s).drum d).tumble.inForce = (s.drum d).tumble.inForce ∧
      ((tumbleGuard d n s).drum d).tumble.stalls = (s.drum d).tumble.stalls ∧
      ((tumbleGuard d n s).drum d).tumble.state ≠ .stopped ∧
      ((s.drum d).confirming = false →
        ((tumbleGuard d n s).drum d).tumble.state = .decel ∧ ((tumbleGuard d n s).drum d).tumble.target = some .run) := by
  have hstart : tumbleGuard d n s = startFromStopped d (s.onTumble d fun t => { t with guardLength := some n }) := by
    unfold tumbleGuard; rw [h]
  obtain ⟨hlength, hforce, hstalls, hstate⟩ :=
    keeps_tumble_startFromStopped d (s.onTumble d fun t => { t with guardLength := some n })
  rw [hstart]
  refine ⟨hlength.trans (by simp), hforce.trans (by simp), hstalls.trans (by simp), hstate, fun hunconfirmed => ?_⟩
  have hsame : ((s.onTumble d fun t => { t with guardLength := some n }).drum d).confirming = (s.drum d).confirming := by
    simp [DrumState.confirming]
  rcases startFromStopped_cases d (s.onTumble d fun t => { t with guardLength := some n }) with
    ⟨-, hdecel⟩ | ⟨st, hconf, -⟩
  · rw [hdecel, (enterDecel_writes d .run _).1]
    exact ⟨rfl, rfl⟩
  · rw [hsame, hunconfirmed] at hconf
    cases hconf

/-- STOP of a controller that stands and waits enters STOPPED, its guard tumble ended (R103). -/
theorem tumbleStop_waiting
    (h : (s.drum d).tumble.state = .dwell ∨ (s.drum d).tumble.recoverDelay ≠ none ∧ (s.drum d).tumble.state = .recover) :
    ((tumbleStop d s).drum d).tumble.state = .stopped ∧ ((tumbleStop d s).drum d).tumble.guardLength = none := by
  rw [tumble_tumbleStop, tumbleHold_waiting (h.imp_right And.symm), (enterStopped_writes d s).1]
  exact ⟨rfl, rfl⟩

/-- STOP of a controller in a run or in DECEL leaves it in DECEL with its guard tumble's mark (R103, R104). -/
theorem tumbleStop_decelerating
    (h : (s.drum d).tumble.state = .decel ∨ (s.drum d).tumble.state.running = true) :
    ((tumbleStop d s).drum d).tumble.state = .decel ∧ ((tumbleStop d s).drum d).tumble.target = some .stopped ∧
      ((tumbleStop d s).drum d).tumble.guardLength = (s.drum d).tumble.guardLength := by
  rw [tumble_tumbleStop]
  rcases h with h | h
  · rw [tumbleHold_stopping (.inl h), setTarget_tumble]
    exact ⟨h, rfl, rfl⟩
  · rw [tumbleHold_running h, (enterDecel_writes d .stopped s).1]
    exact ⟨rfl, rfl, rfl⟩

/-! ### PAUSED (R81, R82) -/

theorem exec_fanOverrunExpiry (hrun : s.resetHeld = false) :
    exec (.fanOverrunExpiry d) s =
      .next (onlyIf ((s.drum d).cycle.state == .paused && due (s.drum d).cycle.fanOverrun)
        (fun u => writeFan d false (u.onCycle d fun c => { c with fanOverrun := none })) s) := by
  have h : exec (.fanOverrunExpiry d) s = execFanOverrunExpiry d s := rfl
  rw [h, execFanOverrunExpiry, running_released _ hrun]

theorem exec_pauseLimitExpiry (hrun : s.resetHeld = false) :
    exec (.pauseLimitExpiry d) s =
      .next (onlyIf ((s.drum d).cycle.state == .paused && due (s.drum d).cycle.pauseLimit) (pauseLimitEnds d) s) := by
  have h : exec (.pauseLimitExpiry d) s = execPauseLimitExpiry d s := rfl
  rw [h, execPauseLimitExpiry, running_released _ hrun]

/-- The pause limit abandons the cycle: PAUSE_EXPIRED, then CYCLE_DONE with reason ABANDONED, and no cycle counted. -/
theorem pauseLimitEnds_writes (d : Drum) (s : State) :
    (pauseLimitEnds d s).handed =
        (s.handed.1 ++ [⟨.cycle d, .pauseExpired, d, s.clock, none⟩, ⟨.cycle d, .cycleDone, d, s.clock, some 7⟩],
          s.handed.2) ∧
      ((pauseLimitEnds d s).drum d).cycle = { (s.drum d).cycle.cleared with state := .done, reason := .abandoned } ∧
      ((pauseLimitEnds d s).drum d).port.image.fan = false := by
  have hcycle : ((raise (.cycle d) .pauseExpired d none
      (s.onCycle d fun c => { c with reason := .abandoned })).drum d).cycle =
        { (s.drum d).cycle with reason := .abandoned } := by simp
  unfold pauseLimitEnds
  refine ⟨?_, ?_, (enterDone_writes d _).2.2⟩
  · rw [handed_enterDone, handed_raise, hcycle]
    simp [raise]
    rfl
  · rw [cycle_enterDone, hcycle]
    rfl

end

/-- Settles O45: the end of COOLING by the record's guard part, the guard's times by the tumble state, the pause's times by its
timers. -/
theorem coolingGuardAndPauseEndByTheirTimes : Obligations.CoolingGuardAndPauseEndByTheirTimes := by
  refine ⟨fun s d x hrun hs hx => ⟨fun htime hpassed => ?_, fun htime => ?_⟩,
    fun s d hrun => ⟨fun x g hs hx hg => ⟨fun hdue => ?_, fun ms hms hlimit => ?_⟩, fun hs hdue => ?_, fun hs hdue => ?_,
      fun hs => ⟨?_, ?_⟩, fun hs => ⟨?_, ?_⟩⟩⟩
  · have hreached := coolingReached_of_record (limit := (·.minCool)) hs hx htime
    have hpass : ((s.onCycle d fun c => { c with minCoolPassed := true }).drum d) =
        { s.drum d with cycle := { (s.drum d).cycle with minCoolPassed := true } } := drum_onDrum_self _ d _
    have hmet := coolMet_iff (D := (s.onCycle d fun c => { c with minCoolPassed := true }).drum d) (x := x)
      (by rw [hpass]; exact hx) (by rw [hpass]; exact htime)
    rw [hpass] at hmet
    refine ⟨_, exec_onlyIf_pos (exec_minimumCoolTimeReached hrun) (by rw [hreached, hpassed]; rfl), by simp, fun hhot => ?_,
      fun v hv hcool => ?_⟩
    · refine coolTest_of_not_met (by rw [hpass, hmet]; rintro ⟨v, hv, hle⟩; exact absurd hle (not_le.mpr (hhot v hv)))
    · rw [coolTest_of_met (by rw [hpass]; exact hs) (by rw [hpass]; exact hmet.mpr ⟨v, hv, hcool⟩)]
      exact state_coolingEnds (by rw [hpass]; exact hx)
  · obtain ⟨hfan, hflame, hrunning⟩ := coolingEnds_stops hx
    refine ⟨_, exec_onlyIf_pos (exec_maximumCoolTime hrun) (coolingReached_of_record hs hx htime), besides_coolingEnds d s,
      hfan, hflame, hrunning, fun hg => ?_, fun g hg => ⟨cycle_coolingEnds_guarded hx hg, ?_⟩⟩
    · rw [coolingEnds_unguarded hx hg]
      exact ⟨cycle_enterDone d s, congrArg Prod.fst (handed_enterDone d s), congrArg Prod.snd (handed_enterDone d s)⟩
    · rw [coolingEnds_guarded hx hg]
      obtain ⟨hhanded, -⟩ := tumbleStop_setCycle_writes (d := d) (new := .guarding) (by decide) rfl (·.guardedBy g) s
      exact ⟨events_of_handed hhanded, increments_of_handed hhanded⟩
  · refine ⟨_, exec_onlyIf_pos (exec_guardIntervalExpiry hrun) (by simp [hs, hdue, due]), besides_guardIntervalEnds d s, ?_⟩
    rw [guardIntervalEnds_eq hx hg]
    have htumble := tumble_guardIntervalOver d s
    have hconfirming : ((guardIntervalOver d s).drum d).confirming = (s.drum d).confirming := by
      unfold DrumState.confirming
      rw [htumble, guardIntervalOver, stopTime_writeFan]
      simp
    refine ⟨by simp [guardIntervalOver], by simp [guardIntervalOver], ?_, fun hgoing => ?_, fun hstopped => ?_⟩
    · exact events_of_handed ((handed_tumbleGuard d _ _).trans (by simp [guardIntervalOver]))
    · rw [tumbleGuard_going _ (by rw [htumble]; exact hgoing), htumble]
    · have hstart := tumbleGuard_stopped (d := d) (s := guardIntervalOver d s) g.tumbleLength (by rw [htumble]; exact hstopped)
      rwa [htumble, hconfirming] at hstart
  · obtain ⟨htumble, -, hfan⟩ := enterDone_writes d s
    have hentered := tumble_setCycle d .done Cycle.cleared s
    refine ⟨_, exec_onlyIf_pos (exec_guardLimit hrun) (guardUp_of_record hs hx hg hms hlimit), besides_enterDone d s,
      cycle_enterDone d s, (stopped_enterDone d s).1, hfan, fun hwaits => ?_, fun hgoes => ?_,
      congrArg Prod.fst (handed_enterDone d s)⟩
    · rw [htumble]
      exact tumbleStop_waiting (by rw [hentered]; exact hwaits)
    · have hstop := tumbleStop_decelerating (d := d) (s := setCycle d .done Cycle.cleared s) (by rw [hentered]; exact hgoes)
      rw [htumble]
      rwa [hentered] at hstop
  · exact ⟨_, exec_onlyIf_pos (exec_fanOverrunExpiry hrun) (by simp [hs, hdue, due]), by simp, flight_writeFan d _ _, by simp,
      by simp, by simp⟩
  · obtain ⟨hhanded, hcycle, hfan⟩ := pauseLimitEnds_writes d s
    exact ⟨_, exec_onlyIf_pos (exec_pauseLimitExpiry hrun) (by simp [hs, hdue, due]), besides_pauseLimitEnds d s, hcycle, hfan,
      congrArg Prod.snd hhanded, congrArg Prod.fst hhanded⟩
  · exact exec_onlyIf_neg (exec_guardIntervalExpiry hrun) (by simp [hs])
  · exact exec_onlyIf_neg (exec_guardLimit hrun) (guardUp_eq_false hs)
  · exact exec_onlyIf_neg (exec_fanOverrunExpiry hrun) (by simp [hs])
  · exact exec_onlyIf_neg (exec_pauseLimitExpiry hrun) (by simp [hs])

end Sys2Proof.Machine
end

section
/-! Temperatures (R139, R141 to R144, R76); settles O50. -/

namespace Sys2Proof.Machine

/-! ### What the cool test leaves of the burner supervisor -/

/-- The wanted stage, the exhaust-high flag and the held exhaust temperature of a drum. -/
def State.heating (s : State) (d : Drum) : Nat × Bool × Option Temperature :=
  ((s.drum d).burner.wanted, (s.drum d).burner.exhaustHigh, (s.drum d).burner.exhaust)

section
variable {s t u : State} {d : Drum} {x : CycleRecord} {v : Temperature}

theorem heating_of_burner (h : (t.drum d).burner = (s.drum d).burner) : t.heating d = s.heating d := by
  unfold State.heating; rw [h]

theorem heating_burnerUpdate (d : Drum) (s : State) : (burnerUpdate d s).heating d = s.heating d := by
  unfold State.heating; rw [(burnerUpdate_writes d s).1]; rfl

theorem heating_leaveRun (d : Drum) (f : Tumble → Tumble) (s : State) : (leaveRun d f s).heating d = s.heating d :=
  (heating_burnerUpdate d _).trans (heating_of_burner (by simp))

theorem heating_enterStopped (d : Drum) (s : State) : (enterStopped d s).heating d = s.heating d := by
  have hleave := heating_leaveRun d (fun t => { t.timersOff with state := .stopped, target := none, guardLength := none }) s
  unfold enterStopped
  dsimp only
  split
  · refine (heating_of_burner ?_).trans hleave
    unfold guardTumbleDone
    split <;> simp
  · exact hleave

theorem heating_tumbleHold (d : Drum) (s : State) : (tumbleHold d s).heating d = s.heating d := by
  rcases tumbleHold_cases d s with ⟨-, h⟩ | ⟨-, h | h | h⟩ <;> rw [h]
  · exact (heating_leaveRun d _ _).trans (heating_of_burner (by simp))
  · exact heating_of_burner (by simp [setTarget])
  · exact heating_enterStopped d s

theorem heating_tumbleStop (d : Drum) (s : State) : (tumbleStop d s).heating d = s.heating d :=
  (heating_of_burner (by simp [tumbleStop])).trans (heating_tumbleHold d s)

theorem heating_setCycle {new : CycleState} (hold : (s.drum d).cycle.state ≠ .drying) (hnew : new ≠ .drying)
    (f : Cycle → Cycle) : (setCycle d new f s).heating d = s.heating d := by
  obtain ⟨-, hexhaust, hhigh⟩ := keeps_burner_setCycle d new f s
  unfold State.heating
  rw [wanted_setCycle hold hnew, hexhaust, hhigh]

theorem heating_enterDone (hold : (s.drum d).cycle.state ≠ .drying) : (enterDone d s).heating d = s.heating d := by
  have hstop : (tumbleStop d (setCycle d .done Cycle.cleared s)).heating d = s.heating d :=
    (heating_tumbleStop d _).trans (heating_setCycle hold (by decide) _)
  unfold enterDone
  dsimp only
  split
  · exact (heating_of_burner (by simp)).trans hstop
  · exact (heating_of_burner (by simp)).trans hstop

theorem heating_coolingEnds (hold : (s.drum d).cycle.state ≠ .drying) : (coolingEnds d s).heating d = s.heating d := by
  unfold coolingEnds
  split
  · exact (heating_tumbleStop d _).trans (heating_setCycle hold (by decide) _)
  · exact heating_enterDone hold

/-- The cool test acts in COOLING alone, where it ends COOLING. -/
theorem coolTest_elsewhere (h : (s.drum d).cycle.state ≠ .cooling) : coolTest d s = s := if_neg fun hboth => h hboth.1

theorem heating_coolTest (d : Drum) (s : State) : (coolTest d s).heating d = s.heating d := by
  unfold coolTest
  split
  next h => exact heating_coolingEnds (by rw [h.1]; exact nofun)
  · rfl

theorem eventsGrow_coolTest (d : Drum) (s : State) : s.flight.events <+: (coolTest d s).flight.events := by
  unfold coolTest coolingEnds
  split
  · split
    · exact eventsGrow_of_handed (by simp)
    · exact eventsGrow_enterDone d s
  · exact List.prefix_rfl

/-! ### An inlet temperature (R139, R141, R143) -/

theorem exec_inletTempAbsorbed_next (hrun : s.resetHeld = false)
    (h : s.flight.nextAbsorbed d .burner = some (d, .inletTemp v)) :
    exec (.inletTempAbsorbed d) s = .next (takeInlet d v (dropAbsorbed (d, .inletTemp v) s)) := by
  have hexec : exec (.inletTempAbsorbed d) s = execInletTempAbsorbed d s := rfl
  rw [hexec, execInletTempAbsorbed, running_released _ hrun, h]

theorem exec_exhaustTempAbsorbed_next (hrun : s.resetHeld = false)
    (h : s.flight.nextAbsorbed d .burner = some (d, .exhaustTemp v)) :
    exec (.exhaustTempAbsorbed d) s = .next (takeExhaust d v (dropAbsorbed (d, .exhaustTemp v) s)) := by
  have hexec : exec (.exhaustTempAbsorbed d) s = execExhaustTempAbsorbed d s := rfl
  rw [hexec, execExhaustTempAbsorbed, running_released _ hrun, h]

theorem exec_temperature_none (hrun : s.resetHeld = false) (h : s.flight.nextAbsorbed d .burner = none) :
    exec (.inletTempAbsorbed d) s = .next s ∧ exec (.exhaustTempAbsorbed d) s = .next s := by
  have hinlet : exec (.inletTempAbsorbed d) s = execInletTempAbsorbed d s := rfl
  have hexhaust : exec (.exhaustTempAbsorbed d) s = execExhaustTempAbsorbed d s := rfl
  rw [hinlet, hexhaust, execInletTempAbsorbed, execExhaustTempAbsorbed, running_released _ hrun, running_released _ hrun, h]
  exact ⟨rfl, rfl⟩

theorem takeInlet_elsewhere (h : (s.drum d).cycle.state ≠ .drying) (v : Temperature) :
    takeInlet d v s = s.onBurner d fun b => { b with inlet := some v } := by
  unfold takeInlet
  dsimp only
  split
  next hs _ => exact absurd hs h
  · rfl

theorem handed_setWanted (d : Drum) (w : Nat) (s : State) : (setWanted d w s).handed = s.handed := by
  unfold setWanted; rw [handed_burnerUpdate]; rfl

theorem handed_takeInlet (d : Drum) (v : Temperature) (s : State) : (takeInlet d v s).handed = s.handed := by
  unfold takeInlet
  dsimp only
  split
  · rw [handed_setWanted]; rfl
  · rfl

theorem inlet_takeInlet (d : Drum) (v : Temperature) (s : State) :
    ((takeInlet d v s).drum d).burner.inlet = some v := by
  have hset (w : Nat) (u : State) : ((setWanted d w u).drum d).burner.inlet = (u.drum d).burner.inlet := by
    unfold setWanted
    rw [(burnerUpdate_writes d _).1]
    simp [DrumState.burnerNow]
  unfold takeInlet
  dsimp only
  split
  · rw [hset]; simp
  · simp

/-- The wanted stage an inlet temperature calls for in DRYING (R141, R142). -/
def Burner.wantedAt (b : Burner) (x : CycleRecord) (v : Temperature) : Nat :=
  if b.exhaustHigh then 0 else regulate x v.value b.wanted

/-- The drum in DRYING as it is recomputed for an inlet temperature: the value held, the starvation timer restarted, the
wanted stage regulated. -/
def inletRegulated (d : Drum) (v : Temperature) (x : CycleRecord) (s : State) : State :=
  s.onBurner d fun b =>
    { b with inlet := some v, starvation := seconds (s.drum d).config.starvation, wanted := b.wantedAt x v }

theorem takeInlet_drying (hs : (s.drum d).cycle.state = .drying) (hx : (s.drum d).cycle.record = some x)
    (v : Temperature) : takeInlet d v s = burnerUpdate d (inletRegulated d v x s) := by
  unfold takeInlet setWanted
  dsimp only
  rw [hs, hx]
  dsimp only
  congr 1
  unfold inletRegulated State.onBurner State.onDrum State.drum
  simp [Burner.wantedAt]

theorem drum_inletRegulated (d : Drum) (v : Temperature) (x : CycleRecord) (s : State) :
    (inletRegulated d v x s).drum d =
      { s.drum d with
        burner :=
          { (s.drum d).burner with
            inlet := some v
            starvation := seconds (s.drum d).config.starvation
            wanted := (s.drum d).burner.wantedAt x v } } :=
  drum_onDrum_self _ d _

/-- In DRYING an inlet temperature restarts the starvation timer, sets the wanted stage and recomputes (R141, R143, R144). -/
theorem takeInlet_drying_writes (hs : (s.drum d).cycle.state = .drying) (hx : (s.drum d).cycle.record = some x)
    (v : Temperature) :
    ((takeInlet d v s).drum d).burner.starvation = seconds (s.drum d).config.starvation ∧
      ((takeInlet d v s).drum d).burner.wanted = (s.drum d).burner.wantedAt x v ∧
      ((takeInlet d v s).drum d).burner.demand = min ((takeInlet d v s).drum d).burner.wanted (s.drum d).permissiveCap ∧
      ((takeInlet d v s).drum d).burner.commanded = min ((takeInlet d v s).drum d).burner.demand (s.heatLimit d) ∧
      (takeInlet d v s).flight.demands =
        s.flight.demands ++
          (if ((takeInlet d v s).drum d).burner.demand = (s.drum d).burner.demand then []
           else [(d, ((takeInlet d v s).drum d).burner.demand)]) := by
  obtain ⟨hburner, -, hdemands⟩ := burnerUpdate_writes d (inletRegulated d v x s)
  rw [takeInlet_drying hs hx, hburner, hdemands, drum_inletRegulated]
  refine ⟨rfl, rfl, rfl, rfl, ?_⟩
  split
  next h => exact (if_pos h).symm ▸ (List.append_nil _).symm
  next h => exact (if_neg h).symm ▸ rfl

/-- Table 8-1: at or above the setpoint no stage, in the high band stage 2, between them stage 1 or 0 by hysteresis. -/
theorem regulate_table (x : CycleRecord) (n : Int) (w : Nat) :
    (x.setpoint ≤ n → regulate x n w = 0) ∧
      (n < x.setpoint → n ≤ x.setpoint - x.highBand → regulate x n w = 2) ∧
      (n < x.setpoint → x.setpoint - x.highBand < n →
        (w ≠ 0 → regulate x n w = 1) ∧
        (w = 0 → n ≤ x.setpoint - x.hysteresis → regulate x n w = 1) ∧
        (w = 0 → x.setpoint - x.hysteresis < n → regulate x n w = 0)) := by
  unfold regulate
  refine ⟨fun h => if_pos h, fun h hband => ?_, fun h hband => ?_⟩
  · rw [if_neg (not_le.mpr h), if_pos hband]
  · rw [if_neg (not_le.mpr h), if_neg (not_le.mpr hband)]
    exact ⟨fun hw => if_neg hw, fun hw hlow => by rw [if_pos hw, if_pos hlow],
      fun hw hhigh => by rw [if_pos hw, if_neg (not_le.mpr hhigh)]⟩

/-! ### An exhaust temperature (R139, R142, R76) -/

/-- An exhaust temperature above the cap sets the exhaust-high flag with wanted stage 0, and raises EXHAUST_HIGH at the first. -/
theorem judgeExhaust_above (h : (s.drum d).config.exhaustCap < v.value) :
    (judgeExhaust d v s).heating d = (0, true, (s.drum d).burner.exhaust) ∧
      ((s.drum d).burner.exhaustHigh = false →
        (judgeExhaust d v s).flight.events = s.flight.events ++ [⟨.burner d, .exhaustHigh, d, s.clock, none⟩]) := by
  have hset : (setWanted d 0 (s.onBurner d fun b => { b with exhaustHigh := true })).heating d =
      (0, true, (s.drum d).burner.exhaust) := by
    refine (heating_burnerUpdate d _).trans ?_
    simp [State.heating]
  have hclock : (setWanted d 0 (s.onBurner d fun b => { b with exhaustHigh := true })).clock = s.clock :=
    clock_of_besides (d := d) (by simp)
  unfold judgeExhaust
  dsimp only
  rw [if_pos h]
  split
  next hhigh => exact ⟨hset, fun hlow => by rw [hhigh] at hlow; cases hlow⟩
  · refine ⟨(heating_of_burner (by simp)).trans hset, fun _ => ?_⟩
    rw [events_raise, hclock, events_of_handed (handed_setWanted d 0 _)]
    simp

/-- At or below the cap the exhaust-high flag is clear. -/
theorem judgeExhaust_within (h : v.value ≤ (s.drum d).config.exhaustCap) :
    (judgeExhaust d v s).heating d = ((s.drum d).burner.wanted, false, (s.drum d).burner.exhaust) := by
  unfold judgeExhaust
  dsimp only
  rw [if_neg (not_lt.mpr h)]
  simp [State.heating]

/-- A drum that holds a new exhaust temperature and has judged it, before the cool test. -/
def exhaustJudged (d : Drum) (v : Temperature) (s : State) : State :=
  judgeExhaust d v (s.onBurner d fun b => { b with exhaust := some v })

theorem takeExhaust_eq (d : Drum) (v : Temperature) (s : State) : takeExhaust d v s = coolTest d (exhaustJudged d v s) := rfl

theorem drum_exhaustHeld (d : Drum) (v : Temperature) (s : State) :
    (s.onBurner d fun b => { b with exhaust := some v }).drum d =
      { s.drum d with burner := { (s.drum d).burner with exhaust := some v } } := drum_onDrum_self _ d _

theorem cycle_exhaustJudged (d : Drum) (v : Temperature) (s : State) :
    ((exhaustJudged d v s).drum d).cycle = (s.drum d).cycle := by
  simp [exhaustJudged]

theorem takeExhaust_above (h : (s.drum d).config.exhaustCap < v.value) :
    (takeExhaust d v s).heating d = (0, true, some v) ∧
      ((s.drum d).burner.exhaustHigh = false →
        s.flight.events ++ [⟨.burner d, .exhaustHigh, d, s.clock, none⟩] <+: (takeExhaust d v s).flight.events) := by
  have hjudge := judgeExhaust_above (d := d) (v := v) (s := s.onBurner d fun b => { b with exhaust := some v })
    (by rw [drum_exhaustHeld]; exact h)
  rw [drum_exhaustHeld] at hjudge
  obtain ⟨hheating, hevents⟩ := hjudge
  refine ⟨(heating_coolTest d _).trans hheating, fun hlow => ?_⟩
  have hgrow := eventsGrow_coolTest d (exhaustJudged d v s)
  rw [exhaustJudged, hevents hlow] at hgrow
  exact hgrow

theorem takeExhaust_within (h : v.value ≤ (s.drum d).config.exhaustCap) :
    (takeExhaust d v s).heating d = ((s.drum d).burner.wanted, false, some v) := by
  have hjudge := judgeExhaust_within (d := d) (v := v) (s := s.onBurner d fun b => { b with exhaust := some v })
    (by rw [drum_exhaustHeld]; exact h)
  rw [drum_exhaustHeld] at hjudge
  exact (heating_coolTest d _).trans hjudge

theorem exhaust_exhaustJudged (d : Drum) (v : Temperature) (s : State) :
    ((exhaustJudged d v s).drum d).burner.exhaust = some v := by
  have hheating : (exhaustJudged d v s).heating d = (takeExhaust d v s).heating d := (heating_coolTest d _).symm
  have hheld : ((exhaustJudged d v s).heating d).2.2 = some v := by
    rw [hheating]
    rcases lt_or_ge (s.drum d).config.exhaustCap v.value with h | h
    · rw [(takeExhaust_above h).1]
    · rw [takeExhaust_within h]
  exact hheld

theorem exhaust_takeExhaust (d : Drum) (v : Temperature) (s : State) :
    ((takeExhaust d v s).drum d).burner.exhaust = some v :=
  (congrArg (·.2.2) (heating_coolTest d (exhaustJudged d v s))).trans (exhaust_exhaustJudged d v s)

theorem cycle_takeExhaust_elsewhere (h : (s.drum d).cycle.state ≠ .cooling) (v : Temperature) :
    ((takeExhaust d v s).drum d).cycle = (s.drum d).cycle := by
  rw [takeExhaust_eq, coolTest_elsewhere (by rw [cycle_exhaustJudged]; exact h), cycle_exhaustJudged]

/-- In COOLING an exhaust temperature ends COOLING exactly if it meets the cool target at or after the minimum cool time. -/
theorem cycle_takeExhaust_cooling (hs : (s.drum d).cycle.state = .cooling) (hx : (s.drum d).cycle.record = some x)
    (v : Temperature) :
    (v.value ≤ x.coolTarget → x.minCool * 60000 ≤ (s.drum d).cycle.cooling →
        (x.guardPart = none → ((takeExhaust d v s).drum d).cycle.state = .done) ∧
          (x.guardPart ≠ none → ((takeExhaust d v s).drum d).cycle.state = .guarding)) ∧
      (x.coolTarget < v.value ∨ (s.drum d).cycle.cooling < x.minCool * 60000 →
        ((takeExhaust d v s).drum d).cycle = (s.drum d).cycle) := by
  have hcycle := cycle_exhaustJudged d v s
  have hmet : ((exhaustJudged d v s).drum d).coolMet =
      (decide (v.value ≤ x.coolTarget) && decide (x.minCool * 60000 ≤ (s.drum d).cycle.cooling)) := by
    unfold DrumState.coolMet
    rw [hcycle, hx, exhaust_exhaustJudged]
  rw [takeExhaust_eq]
  refine ⟨fun hcool htime => ?_, fun hnot => ?_⟩
  · rw [coolTest_of_met (by rw [hcycle]; exact hs) (by rw [hmet]; simp [hcool, htime])]
    exact state_coolingEnds (by rw [hcycle]; exact hx)
  · rw [coolTest_of_not_met (by rw [hmet, Bool.and_eq_true, decide_eq_true_iff, decide_eq_true_iff]; omega), hcycle]

end

/-- Settles O50: an inlet value by the regulation table and the recomputation, an exhaust value by the cap and the cool test. -/
theorem temperaturesRegulateHeat : Obligations.TemperaturesRegulateHeat := by
  intro s d v hrun
  refine ⟨fun hnext => ?_, fun hnext => ?_, fun hnone => exec_temperature_none hrun hnone⟩
  · obtain ⟨u, hu⟩ : ∃ u, u = dropAbsorbed (d, .inletTemp v) s := ⟨_, rfl⟩
    have hdrum : u.drum d = s.drum d := by rw [hu]; rfl
    have hlimit : u.heatLimit d = s.heatLimit d := by rw [hu]; rfl
    have hdemands : u.flight.demands = s.flight.demands := by rw [hu]; rfl
    obtain ⟨-, -, -, -, -, -, -, -, hcycle, htumble, -⟩ := keeps_takeInlet d v u
    refine ⟨takeInlet d v u, hu ▸ exec_inletTempAbsorbed_next hrun hnext, (besides_takeInlet d v u).trans (by rw [hu]; rfl),
      (events_of_handed (handed_takeInlet d v u)).trans (by rw [hu]; rfl), inlet_takeInlet d v u,
      hdrum ▸ hcycle, hdrum ▸ htumble, fun hs => ?_, fun x hs hx => ?_⟩
    · rw [takeInlet_elsewhere (by rw [hdrum]; exact hs), ← hdrum]
      exact drum_onDrum_self u d _
    · obtain ⟨hstarvation, hwanted, hdemand, hcommanded, hhanded⟩ :=
        takeInlet_drying_writes (d := d) (s := u) (by rw [hdrum]; exact hs) (by rw [hdrum]; exact hx) v
      rw [hdrum] at hstarvation hwanted hdemand hhanded
      rw [hlimit] at hcommanded
      rw [hdemands] at hhanded
      have hregulated := regulate_table x v.value (s.drum d).burner.wanted
      refine ⟨hstarvation, fun hhigh => ?_, fun hlow => ?_, hdemand, fun hnone => ?_, hcommanded, hhanded⟩
      · rw [hwanted, Burner.wantedAt, if_pos hhigh]
      · rwa [hwanted, Burner.wantedAt, if_neg (by rw [hlow]; exact Bool.false_ne_true)]
      · rw [hcommanded, State.heatLimit, limited_of_none _ hnone]
  · obtain ⟨u, hu⟩ : ∃ u, u = dropAbsorbed (d, .exhaustTemp v) s := ⟨_, rfl⟩
    have hdrum : u.drum d = s.drum d := by rw [hu]; rfl
    have hclock : u.clock = s.clock := by rw [hu]; rfl
    have hevents : u.flight.events = s.flight.events := by rw [hu]; rfl
    refine ⟨takeExhaust d v u, hu ▸ exec_exhaustTempAbsorbed_next hrun hnext,
      (besides_takeExhaust d v u).trans (by rw [hu]; rfl), exhaust_takeExhaust d v u, fun habove => ?_, fun hwithin => ?_,
      fun hs => ?_, fun x hs hx => ?_⟩
    · obtain ⟨hheating, hraised⟩ := takeExhaust_above (d := d) (s := u) (v := v) (by rw [hdrum]; exact habove)
      refine ⟨congrArg (·.2.1) hheating, congrArg (·.1) hheating, fun hlow => ?_⟩
      obtain ⟨more, hmore⟩ := hraised (by rw [hdrum]; exact hlow)
      exact ⟨more, by rw [← hmore, hclock, hevents, List.append_assoc]; rfl⟩
    · have hheating := takeExhaust_within (d := d) (s := u) (v := v) (by rw [hdrum]; exact hwithin)
      rw [hdrum] at hheating
      exact ⟨congrArg (·.2.1) hheating, congrArg (·.1) hheating⟩
    · rw [← hdrum]
      exact cycle_takeExhaust_elsewhere (by rw [hdrum]; exact hs) v
    · have hcooling := cycle_takeExhaust_cooling (d := d) (s := u) (by rw [hdrum]; exact hs) (by rw [hdrum]; exact hx) v
      rwa [hdrum] at hcooling

end Sys2Proof.Machine
end

section
/-! Motor current and drive status (R93, R96, R97, R100 to R102, R108 to R113); settles O48. -/

namespace Sys2Proof.Machine

section
variable {s s' t u : State} {d : Drum} {st : DriveStatus}

/-! ### A halt that finds the drum at rest or in RECOVER -/

theorem halts_iff {c : CycleState} :
    c.halts = true ↔ c ∈ [CycleState.purge, .drying, .cooling, .guarding, .paused, .done] := by
  cases c <;> simp [CycleState.halts]

theorem cycleHalt_disregarded (h : (s.drum d).cycle.state.halts = false) (cause : HaltCause) : cycleHalt d cause s = s := by
  unfold cycleHalt
  exact if_neg (by rw [h]; exact Bool.false_ne_true)

/-- A halt hands on no increment. -/
theorem increments_cycleHalt (d : Drum) (cause : HaltCause) (s : State) :
    (cycleHalt d cause s).flight.increments = s.flight.increments := by
  cases h : (s.drum d).cycle.state.halts
  case false => rw [cycleHalt_disregarded h]
  case true => exact congrArg Prod.snd (cycleHalt_writes h cause).1

theorem eventsGrow_cycleHalt (d : Drum) (cause : HaltCause) (s : State) :
    s.flight.events <+: (cycleHalt d cause s).flight.events := by
  cases h : (s.drum d).cycle.state.halts
  case false => rw [cycleHalt_disregarded h]
  case true =>
    have hevents : (cycleHalt d cause s).flight.events = s.flight.events ++ _ := congrArg Prod.fst (cycleHalt_writes h cause).1
    rw [hevents]
    exact List.prefix_append _ _

/-- STOP of a controller in STOPPED, or in RECOVER before the recover delay, changes at most its target and persistence. -/
theorem tumbleStop_at_rest
    (h : (s.drum d).tumble.state = .stopped ∨
      (s.drum d).tumble.state = .recover ∧ (s.drum d).tumble.recoverDelay = none) :
    ((tumbleStop d s).drum d).port = (s.drum d).port ∧
      ∃ target, ((tumbleStop d s).drum d).tumble =
        { (s.drum d).tumble with target := target, multiplier := 1, reduction := 0 } := by
  have hport : ((tumbleStop d s).drum d).port = ((tumbleHold d s).drum d).port := by simp [tumbleStop, clearPersistence]
  rw [hport, tumble_tumbleStop]
  rcases h with h | h
  · rw [tumbleHold_stopped h]
    exact ⟨rfl, _, rfl⟩
  · rw [tumbleHold_stopping (.inr h), setTarget_tumble]
    exact ⟨by simp, _, rfl⟩

/-- A halt of a controller in STOPPED, or in RECOVER before the recover delay, changes at most its target, stalls and
persistence, and leaves the DRIVE entry. -/
theorem cycleHalt_at_rest
    (h : (s.drum d).tumble.state = .stopped ∨
      (s.drum d).tumble.state = .recover ∧ (s.drum d).tumble.recoverDelay = none) (cause : HaltCause) :
    ((cycleHalt d cause s).drum d).port.image.drive = (s.drum d).port.image.drive ∧
      ∃ target stalls multiplier reduction, ((cycleHalt d cause s).drum d).tumble =
        { (s.drum d).tumble with
          target := target, stalls := stalls, multiplier := multiplier, reduction := reduction } := by
  cases hc : (s.drum d).cycle.state.halts
  case false =>
    rw [cycleHalt_disregarded hc]
    exact ⟨rfl, _, _, _, _, rfl⟩
  case true =>
    have htumble := tumble_setCycle d .halted (fun c => { c.cleared with halt := cause }) s
    obtain ⟨hport, target, hstop⟩ := tumbleStop_at_rest (d := d)
      (s := setCycle d .halted (fun c => { c.cleared with halt := cause }) s) (by rw [htumble]; exact h)
    rw [htumble] at hstop
    rw [cycleHalt_eq hc]
    simp only [keeps_raise]
    rw [hport, hstop]
    exact ⟨by simp, _, _, _, _, rfl⟩

/-- The state of the cycle after a halt cause, in a state where it acts. -/
theorem halted_of_cycleHalt (h : (s.drum d).cycle.state ∈ [CycleState.purge, .drying, .cooling, .guarding, .paused, .done])
    (cause : HaltCause) :
    ((cycleHalt d cause s).drum d).cycle.state = .halted ∧ ((cycleHalt d cause s).drum d).cycle.halt = cause := by
  rw [(cycleHalt_writes (halts_iff.mpr h) cause).2]
  exact ⟨rfl, rfl⟩

/-! ### A state that differs where the ends of a run and of a guard tumble do not look -/

/-- s' is s but for what the ends of a run and of a guard tumble do not read of the controller and the tangle monitor. -/
structure EndsAlike (s' s : State) (d : Drum) : Prop where
  port : (s'.drum d).port = (s.drum d).port
  cycle : (s'.drum d).cycle = (s.drum d).cycle
  dryness : (s'.drum d).dryness = (s.drum d).dryness
  values : (s'.drum d).tumble.values = (s.drum d).tumble.values
  multiplier : (s'.drum d).tumble.multiplier = (s.drum d).tumble.multiplier
  reduction : (s'.drum d).tumble.reduction = (s.drum d).tumble.reduction
  guardLength : (s'.drum d).tumble.guardLength = (s.drum d).tumble.guardLength
  earlyRuns : (s'.drum d).tangle.earlyRuns = (s.drum d).tangle.earlyRuns
  clock : s'.clock = s.clock
  handed : s'.handed = s.handed

theorem EndsAlike.events (h : EndsAlike s' s d) : s'.flight.events = s.flight.events := events_of_handed h.handed

theorem EndsAlike.increments (h : EndsAlike s' s d) : s'.flight.increments = s.flight.increments :=
  increments_of_handed h.handed

theorem EndsAlike.endedNormally (h : EndsAlike s' s d) (ht : EndedNormally s' t d) : EndedNormally s t d := by
  unfold EndedNormally at *
  rwa [h.port, h.cycle, h.dryness, h.values, h.clock, h.events, h.increments] at ht

theorem EndsAlike.endedEarly {n : Nat} (h : EndsAlike s' s d) (ht : EndedEarly s' t d n) : EndedEarly s t d n := by
  unfold EndedEarly at *
  rwa [h.cycle, h.values, h.multiplier, h.reduction, h.earlyRuns, h.clock, h.events, h.increments] at ht

theorem EndsAlike.guardTumbleReported (h : EndsAlike s' s d) (ht : GuardTumbleReported s' t d) :
    GuardTumbleReported s t d := by
  unfold GuardTumbleReported at *
  rwa [h.port, h.cycle, h.guardLength] at ht

/-! ### A motor current value (R109) -/

theorem takeCurrent_open (v : Nat) (hrun : (s.drum d).tumble.state.running = true) (hopen : (s.drum d).tangle.windowOpen = true) :
    (takeCurrent d v s).drum d =
      { s.drum d with
        tangle :=
          { (s.drum d).tangle with
            greatest := if (s.drum d).tangle.samples = 0 then v else max (s.drum d).tangle.greatest v
            least := if (s.drum d).tangle.samples = 0 then v else min (s.drum d).tangle.least v
            samples := min ((s.drum d).tangle.samples + 1) 65535 } } := by
  unfold takeCurrent
  dsimp only
  rw [if_pos (by rw [hrun, hopen]; rfl)]
  exact drum_onDrum_self _ d _

theorem takeCurrent_discarded (v : Nat)
    (h : (s.drum d).tumble.state.running = false ∨ (s.drum d).tangle.windowOpen = false) : takeCurrent d v s = s := by
  unfold takeCurrent
  exact if_neg (by rw [Bool.and_eq_true]; rcases h with h | h <;> simp [h])

theorem flight_takeCurrent (d : Drum) (v : Nat) (s : State) : (takeCurrent d v s).flight = s.flight := by
  unfold takeCurrent; dsimp only; split <;> rfl

/-! ### A drive status by tumble state (R93) -/

/-- A drum that holds a new drive status and has not acted on it. -/
def statusHeld (d : Drum) (st : DriveStatus) (s : State) : State := s.onTumble d fun t => { t with status := some st }

theorem drum_statusHeld (d : Drum) (st : DriveStatus) (s : State) :
    (statusHeld d st s).drum d = { s.drum d with tumble := { (s.drum d).tumble with status := some st } } :=
  drum_onDrum_self _ d _

theorem endsAlike_statusHeld (d : Drum) (st : DriveStatus) (s : State) : EndsAlike (statusHeld d st s) s d := by
  have hdrum := drum_statusHeld d st s
  exact ⟨by rw [hdrum], by rw [hdrum], by rw [hdrum], by rw [hdrum], by rw [hdrum], by rw [hdrum], by rw [hdrum],
    by rw [hdrum], rfl, rfl⟩

theorem takeDriveStat_tripped (h : st.motor = .tripped) : takeDriveStat d st s = trip d st (statusHeld d st s) :=
  if_pos h

theorem takeDriveStat_resting (h : st.motor ≠ .tripped)
    (hs : (s.drum d).tumble.state = .dwell ∨ (s.drum d).tumble.state = .stopped) :
    takeDriveStat d st s = statusHeld d st s := by
  unfold takeDriveStat
  dsimp only
  rw [if_neg h]
  rcases hs with hs | hs <;> rw [hs] <;> rfl

theorem takeDriveStat_running (h : st.motor ≠ .tripped) (hrun : (s.drum d).tumble.state.running = true) :
    takeDriveStat d st s =
      if st.motor = .stalled then stall d st (statusHeld d st s) else statusInRun d st (statusHeld d st s) := by
  unfold takeDriveStat
  dsimp only
  rw [if_neg h]
  cases hs : (s.drum d).tumble.state
  case runFwd | runRev => rfl
  all_goals rw [hs] at hrun; cases hrun

theorem takeDriveStat_decel (h : st.motor ≠ .tripped) (hs : (s.drum d).tumble.state = .decel) :
    takeDriveStat d st s =
      if ((statusHeld d st s).drum d).confirming then reachTarget d (statusHeld d st s) else statusHeld d st s := by
  unfold takeDriveStat
  dsimp only
  rw [if_neg h, hs]
  rfl

theorem takeDriveStat_recover (h : st.motor ≠ .tripped) (hs : (s.drum d).tumble.state = .recover) :
    takeDriveStat d st s =
      if ((statusHeld d st s).drum d).confirming then recoverConfirmed d (statusHeld d st s) else statusHeld d st s := by
  unfold takeDriveStat
  dsimp only
  rw [if_neg h, hs]
  rfl

/-- A STOPPED status that arrived after the last STOP confirms the stop (R93). -/
theorem confirming_statusHeld (hm : st.motor = .stopped)
    (hlate : laterThan st.arrival (s.drum d).port.image.stopTime = true) :
    ((statusHeld d st s).drum d).confirming = true := by
  rw [drum_statusHeld]
  simp [DrumState.confirming, hm, hlate]

/-! ### A confirming status in DECEL and in RECOVER (R97, R101) -/

theorem reachTarget_dwell (h : (s.drum d).tumble.target = some .dwell) :
    ((reachTarget d s).drum d).tumble =
      { (s.drum d).tumble.timersOff with
        state := .dwell, target := none, dwell := seconds ((s.drum d).tumble.values.dwell * (s.drum d).tumble.multiplier) } := by
  unfold reachTarget
  rw [h]
  exact (leaveRun_writes d _ s).1

theorem reachTarget_stopped (h : (s.drum d).tumble.target = some .stopped) : reachTarget d s = enterStopped d s := by
  unfold reachTarget; rw [h]

theorem reachTarget_run (h : (s.drum d).tumble.target = some .run) :
    reachTarget d s = startDwell d (s.onTumble d Tumble.timersOff) := by
  unfold reachTarget; rw [h]

theorem reachTarget_none (h : (s.drum d).tumble.target = none) : reachTarget d s = s := by
  unfold reachTarget; rw [h]

/-- The run or the start dwell that a confirming status begins, by the 2 s after its arrival (R94). -/
theorem startDwell_cases (hst : (s.drum d).tumble.status = some st) :
    (2000 ≤ elapsed s.clock st.arrival → ((startDwell d s).drum d).tumble.state.running = true) ∧
      (elapsed s.clock st.arrival < 2000 →
        ((startDwell d s).drum d).tumble.state = .dwell ∧
          ((startDwell d s).drum d).tumble.dwell = some (2000 - elapsed s.clock st.arrival)) ∧
      ((startDwell d s).drum d).tumble.status = some st := by
  obtain ⟨hat, hwait⟩ := startDwell_of_status hst
  rcases le_or_gt 2000 (elapsed s.clock st.arrival) with h | h
  · rw [hat h, beginRun_tumble]
    exact ⟨fun _ => by dsimp only; split <;> rfl, fun hlt => absurd h (not_le.mpr hlt), hst⟩
  · rw [(hwait h).1]
    exact ⟨fun hge => absurd hge (not_le.mpr h), fun _ => ⟨rfl, rfl⟩, hst⟩

theorem recoverConfirmed_run (h : (s.drum d).tumble.target = some .run) (hr : (s.drum d).tumble.recoverDelay = none) :
    ((recoverConfirmed d s).drum d).tumble =
      { (s.drum d).tumble.timersOff with recoverDelay := seconds (s.drum d).tumble.values.recoverDelay } := by
  unfold recoverConfirmed
  dsimp only
  rw [hr, h]
  simp

theorem recoverConfirmed_stopped (h : (s.drum d).tumble.target = some .stopped) (hr : (s.drum d).tumble.recoverDelay = none) :
    recoverConfirmed d s = enterStopped d s := by
  unfold recoverConfirmed
  dsimp only
  rw [hr, h]
  rfl

/-- Every target is reached with the status held. -/
theorem status_reachTarget (hst : (s.drum d).tumble.status = some st) :
    ((reachTarget d s).drum d).tumble.status = some st := by
  cases h : (s.drum d).tumble.target
  case none => rw [reachTarget_none h]; exact hst
  case some target =>
    cases target
    case dwell => rw [reachTarget_dwell h]; exact hst
    case stopped => rw [reachTarget_stopped h, (enterStopped_writes d s).1]; exact hst
    case run =>
      rw [reachTarget_run h]
      exact (startDwell_cases (by simpa [Tumble.timersOff] using hst)).2.2

theorem status_recoverConfirmed (hst : (s.drum d).tumble.status = some st) :
    ((recoverConfirmed d s).drum d).tumble.status = some st := by
  unfold recoverConfirmed
  dsimp only
  (repeat' split)
  · exact hst
  · simpa [Tumble.timersOff] using hst
  · rw [(enterStopped_writes d s).1]; exact hst
  · exact hst
  · exact hst

/-! ### A trip (R102) -/

theorem status_counted (d : Drum) (n : BitVec 16) (s : State) :
    ((s.onTumble d fun t => t.takeCounter n).drum d).tumble.status = (s.drum d).tumble.status := by
  rw [State.onTumble, drum_onDrum_self]
  unfold Tumble.takeCounter
  split <;> rfl

theorem trip_stopped (h : (s.drum d).tumble.state = .stopped) : trip d st s = cycleHalt d .trip s := by
  unfold trip; rw [h]

/-- In any other state a trip writes STOP and enters STOPPED, the revolution count of a run taken first. -/
theorem trip_moving (h : (s.drum d).tumble.state ≠ .stopped) :
    ∃ u, trip d st s = cycleHalt d .trip (enterStopped d (writeDrive d .stop u)) ∧
      (u.drum d).tumble.status = (s.drum d).tumble.status ∧ (u.drum d).cycle = (s.drum d).cycle := by
  unfold trip
  cases hs : (s.drum d).tumble.state
  case stopped => exact absurd hs h
  case runFwd | runRev => exact ⟨_, rfl, status_counted d _ s, by simp⟩
  case decel | dwell | recover => exact ⟨_, rfl, rfl, rfl⟩

theorem trip_writes (d : Drum) (st : DriveStatus) (s : State) :
    ((trip d st s).drum d).tumble.state = .stopped ∧
      ((trip d st s).drum d).tumble.status = (s.drum d).tumble.status ∧
      ((s.drum d).tumble.state ≠ .stopped →
        ((trip d st s).drum d).port.image.drive = .stop ∧ ((trip d st s).drum d).tumble.guardLength = none) ∧
      ((s.drum d).cycle.state ∈ [CycleState.purge, .drying, .cooling, .guarding, .paused, .done] →
        ((trip d st s).drum d).cycle.state = .halted ∧ ((trip d st s).drum d).cycle.halt = .trip) := by
  by_cases hs : (s.drum d).tumble.state = .stopped
  · obtain ⟨-, target, stalls, multiplier, reduction, htumble⟩ := cycleHalt_at_rest (.inl hs) .trip
    rw [trip_stopped hs, htumble]
    exact ⟨hs, rfl, fun h => absurd hs h, fun h => halted_of_cycleHalt h .trip⟩
  · obtain ⟨u, htrip, hstatus, hcycle⟩ := trip_moving (st := st) hs
    have hentered := (enterStopped_writes d (writeDrive d .stop u)).1
    obtain ⟨hdrive, target, stalls, multiplier, reduction, htumble⟩ :=
      cycleHalt_at_rest (d := d) (s := enterStopped d (writeDrive d .stop u)) (.inl (by rw [hentered])) .trip
    rw [htrip, htumble, hdrive, hentered]
    exact ⟨rfl, by simpa [Tumble.timersOff] using hstatus, fun _ => ⟨by simp, rfl⟩,
      fun h => halted_of_cycleHalt (by simpa [hcycle] using h) .trip⟩

/-! ### A stall (R100, R101) -/

/-- The state in which a stall beyond the retry limit reports its halt cause: RECOVER with STOP written, the stall counted,
raised and handed on. -/
def stalled (d : Drum) (st : DriveStatus) (s : State) : State :=
  leaveRun d
    (fun t =>
      { t.timersOff with
        state := .recover
        target := some (if t.guardLength.isSome then .stopped else .run)
        decel := seconds t.values.decelTimeout })
    (handIncrement (.tumble d) d 3
      (raise (.tumble d) .driveStall d (some (byte ((s.drum d).tumble.stalls + 1)))
        (writeDrive d .stop
          (s.onTumble d fun t => { t.takeCounter st.counter with stalls := (s.drum d).tumble.stalls + 1 }))))

theorem stall_eq (d : Drum) (st : DriveStatus) (s : State) :
    stall d st s =
      if (s.drum d).tumble.values.retryLimit < (s.drum d).tumble.stalls + 1 then cycleHalt d .stall (stalled d st s)
      else stalled d st s := rfl

theorem takeCounter_keeps (t : Tumble) (n : BitVec 16) :
    (t.takeCounter n).values = t.values ∧ (t.takeCounter n).guardLength = t.guardLength ∧
      (t.takeCounter n).status = t.status ∧ (t.takeCounter n).state = t.state ∧
      (t.takeCounter n).noReversal = t.noReversal ∧ (t.takeCounter n).multiplier = t.multiplier ∧
      (t.takeCounter n).reduction = t.reduction := by
  unfold Tumble.takeCounter
  split <;> exact ⟨rfl, rfl, rfl, rfl, rfl, rfl, rfl⟩

theorem stalled_writes (d : Drum) (st : DriveStatus) (s : State) :
    ((stalled d st s).drum d).tumble.state = .recover ∧ ((stalled d st s).drum d).tumble.recoverDelay = none ∧
      ((stalled d st s).drum d).tumble.decel = seconds (s.drum d).tumble.values.decelTimeout ∧
      ((stalled d st s).drum d).tumble.guardLength = (s.drum d).tumble.guardLength ∧
      ((stalled d st s).drum d).tumble.status = (s.drum d).tumble.status ∧
      ((stalled d st s).drum d).tumble.stalls = (s.drum d).tumble.stalls + 1 ∧
      ((stalled d st s).drum d).tumble.target =
        some (if (s.drum d).tumble.guardLength = none then .run else .stopped) := by
  obtain ⟨hvalues, hguard, hstatus, -⟩ := takeCounter_keeps (s.drum d).tumble st.counter
  unfold stalled
  rw [(leaveRun_writes d _ _).1]
  simp only [keeps_handIncrement, keeps_raise, keeps_writeDrive]
  simp only [State.onTumble, drum_onDrum_self, Tumble.timersOff, hvalues, hguard, hstatus]
  exact ⟨trivial, trivial, trivial, trivial, trivial, trivial, by cases (s.drum d).tumble.guardLength <;> rfl⟩

/-- A stall writes STOP, leaves the cycle, and hands on DRIVE_STALL with its count and one DRIVE_STALLS increment. -/
theorem stalled_handed (d : Drum) (st : DriveStatus) (s : State) :
    ((stalled d st s).drum d).port.image.drive = .stop ∧ ((stalled d st s).drum d).cycle = (s.drum d).cycle ∧
      (stalled d st s).flight.events =
        s.flight.events ++ [⟨.tumble d, .driveStall, d, s.clock, some (byte ((s.drum d).tumble.stalls + 1))⟩] ∧
      (stalled d st s).flight.increments = s.flight.increments ++ [⟨.tumble d, d, 3⟩] := by
  have hclock : (writeDrive d .stop
      (s.onTumble d fun t => { t.takeCounter st.counter with stalls := (s.drum d).tumble.stalls + 1 })).clock = s.clock :=
    clock_of_besides (d := d) (by simp)
  have hhanded : (stalled d st s).handed =
      (s.handed.1 ++ [⟨.tumble d, .driveStall, d, s.clock, some (byte ((s.drum d).tumble.stalls + 1))⟩],
        s.handed.2 ++ [⟨.tumble d, d, 3⟩]) := by
    unfold stalled
    simp only [handed_leaveRun, handed_handIncrement, handed_raise, handed_writeDrive, handed_onTumble, hclock]
  exact ⟨by simp [stalled], by simp [stalled], congrArg Prod.fst hhanded, congrArg Prod.snd hhanded⟩

/-- What a stall leaves, with and without the halt beyond the retry limit. -/
theorem stall_writes (d : Drum) (st : DriveStatus) (s : State) :
    ((stall d st s).drum d).tumble.state = .recover ∧ ((stall d st s).drum d).port.image.drive = .stop ∧
      ((stall d st s).drum d).tumble.decel = seconds (s.drum d).tumble.values.decelTimeout ∧
      ((stall d st s).drum d).tumble.recoverDelay = none ∧
      ((stall d st s).drum d).tumble.guardLength = (s.drum d).tumble.guardLength ∧
      ((stall d st s).drum d).tumble.status = (s.drum d).tumble.status := by
  obtain ⟨hstate, hdelay, hdecel, hguard, hstatus, -⟩ := stalled_writes d st s
  obtain ⟨hdrive, -⟩ := stalled_handed d st s
  obtain ⟨hhalt, target, stalls, multiplier, reduction, htumble⟩ := cycleHalt_at_rest (.inr ⟨hstate, hdelay⟩) .stall
  rw [stall_eq]
  split
  · rw [htumble, hhalt]
    exact ⟨hstate, hdrive, hdecel, hdelay, hguard, hstatus⟩
  · exact ⟨hstate, hdrive, hdecel, hdelay, hguard, hstatus⟩

theorem stall_handed (d : Drum) (st : DriveStatus) (s : State) :
    (stall d st s).flight.increments = s.flight.increments ++ [⟨.tumble d, d, 3⟩] ∧
      ∃ more, (stall d st s).flight.events =
        s.flight.events ++ ⟨.tumble d, .driveStall, d, s.clock, some (byte ((s.drum d).tumble.stalls + 1))⟩ :: more := by
  obtain ⟨-, -, hevents, hincrements⟩ := stalled_handed d st s
  rw [stall_eq]
  split
  · obtain ⟨more, hmore⟩ := eventsGrow_cycleHalt d .stall (stalled d st s)
    refine ⟨(increments_cycleHalt d .stall _).trans hincrements, more, ?_⟩
    rw [← hmore, hevents, List.append_assoc]
    rfl
  · exact ⟨hincrements, [], hevents⟩

/-! ### A running status in a run (R96, R108, R110, R111) -/

/-- The tangle monitor after a revolution: the window closed and judged, opened, or left alone in a guard tumble. -/
def Tangle.revolved (m : Tangle) (threshold : Nat) (guarded : Bool) : Tangle :=
  if m.windowOpen then m.judge threshold else if guarded then m else m.opened

/-- A running drum that has taken a status's revolution counter. -/
def counted (d : Drum) (st : DriveStatus) (s : State) : State :=
  s.onTumble d fun _ => (s.drum d).tumble.takeCounter st.counter

/-- A running drum that has taken a revolution, before the ends of the run are judged. -/
def revolved (d : Drum) (st : DriveStatus) (s : State) : State :=
  if (s.drum d).tangle.windowOpen then
    (counted d st s).onTangle d fun m => m.judge (s.drum d).tumble.values.swingThreshold
  else if (s.drum d).tumble.guardLength.isSome then counted d st s
  else (counted d st s).onTangle d Tangle.opened

theorem drum_counted (d : Drum) (st : DriveStatus) (s : State) :
    (counted d st s).drum d = { s.drum d with tumble := (s.drum d).tumble.takeCounter st.counter } := drum_onDrum_self _ d _

theorem drum_revolved (d : Drum) (st : DriveStatus) (s : State) :
    (revolved d st s).drum d =
      { s.drum d with
        tumble := (s.drum d).tumble.takeCounter st.counter
        tangle := (s.drum d).tangle.revolved (s.drum d).tumble.values.swingThreshold (s.drum d).tumble.guardLength.isSome } := by
  unfold revolved Tangle.revolved
  (repeat' split) <;> simp only [State.onTangle, drum_onDrum_self, drum_counted]

/-- A status that does not move the revolution count is counted and no more. -/
theorem statusInRun_still
    (h : ((s.drum d).tumble.takeCounter st.counter).revCount = (s.drum d).tumble.revCount) :
    statusInRun d st s = counted d st s := by
  unfold statusInRun
  exact if_pos h

/-- A status that moves the revolution count ends the run normally, or early, or lets it go on. -/
theorem statusInRun_moved
    (h : ((s.drum d).tumble.takeCounter st.counter).revCount ≠ (s.drum d).tumble.revCount) :
    statusInRun d st s =
      if ((s.drum d).tumble.takeCounter st.counter).revolutionsUp then endNormalRun d (revolved d st s)
      else if ((s.drum d).tangle.windowOpen && decide (2 ≤ (s.drum d).tangle.samples)) &&
          ((revolved d st s).drum d).earlyTest then
        endEarlyRun d (revolved d st s)
      else revolved d st s := by
  obtain ⟨hvalues, hguard, -⟩ := takeCounter_keeps (s.drum d).tumble st.counter
  unfold statusInRun revolved
  dsimp only
  rw [if_neg h, hvalues, hguard]
  rfl

/-- A running status that ends no run. -/
theorem statusInRun_goes_on
    (h : ((s.drum d).tumble.takeCounter st.counter).revCount ≠ (s.drum d).tumble.revCount)
    (hup : ¬((s.drum d).tumble.takeCounter st.counter).revolutionsUp = true)
    (hearly : (s.drum d).tangle.windowOpen = false ∨ (s.drum d).tangle.samples < 2 ∨
      ¬((revolved d st s).drum d).earlyTest = true) :
    statusInRun d st s = revolved d st s := by
  rw [statusInRun_moved h, if_neg hup, if_neg]
  rw [Bool.and_eq_true, Bool.and_eq_true, decide_eq_true_iff]
  rintro ⟨⟨hopen, hsamples⟩, htest⟩
  rcases hearly with hearly | hearly | hearly
  · rw [hopen] at hearly; cases hearly
  · omega
  · exact hearly htest

theorem takeCounter_first {t : Tumble} (h : t.baseTaken = false) (n : BitVec 16) :
    t.takeCounter n =
      { t with
        baseTaken := true
        revBase := n
        runTiming := true
        runTimer := if t.runTiming then t.runTimer else 0
        statusWait := none } := by
  unfold Tumble.takeCounter
  exact if_neg (by rw [h]; exact Bool.false_ne_true)

theorem takeCounter_later {t : Tumble} (h : t.baseTaken = true) (n : BitVec 16) :
    t.takeCounter n = { t with revCount := n - t.revBase } := by
  unfold Tumble.takeCounter
  exact if_pos h

/-! The revolution window -/

theorem revolved_judged {m : Tangle} (hopen : m.windowOpen = true) (h : 2 ≤ m.samples) (threshold : Nat) (guarded : Bool) :
    m.revolved threshold guarded =
      { m.opened with lastSwing := m.greatest - m.least, count := m.judgedCount threshold } := by
  unfold Tangle.revolved Tangle.judge
  rw [if_pos hopen, if_neg (not_lt.mpr h)]
  rfl

theorem revolved_few {m : Tangle} (hopen : m.windowOpen = true) (h : m.samples < 2) (threshold : Nat) (guarded : Bool) :
    m.revolved threshold guarded = { m with greatest := 0, least := 0, samples := 0 } := by
  unfold Tangle.revolved Tangle.judge Tangle.opened
  rw [if_pos hopen, if_pos h, hopen]

theorem revolved_guarded {m : Tangle} (hclosed : m.windowOpen = false) (threshold : Nat) :
    m.revolved threshold true = m := by
  unfold Tangle.revolved; rw [hclosed]; rfl

theorem revolved_first {m : Tangle} (hclosed : m.windowOpen = false) (threshold : Nat) :
    m.revolved threshold false = m.opened := by
  unfold Tangle.revolved; rw [hclosed]; rfl

theorem earlyRuns_revolved (m : Tangle) (threshold : Nat) (guarded : Bool) :
    (m.revolved threshold guarded).earlyRuns = m.earlyRuns := by
  unfold Tangle.revolved Tangle.judge
  (repeat' split) <;> rfl

theorem endsAlike_revolved (d : Drum) (st : DriveStatus) (s : State) : EndsAlike (revolved d st s) s d := by
  obtain ⟨hvalues, hguard, -, -, -, hmultiplier, hreduction⟩ := takeCounter_keeps (s.drum d).tumble st.counter
  have hdrum := drum_revolved d st s
  refine ⟨by rw [hdrum], by rw [hdrum], by rw [hdrum], by rw [hdrum]; exact hvalues, by rw [hdrum]; exact hmultiplier,
    by rw [hdrum]; exact hreduction, by rw [hdrum]; exact hguard, by rw [hdrum]; exact earlyRuns_revolved _ _ _, ?_, ?_⟩
  · unfold revolved; (repeat' split) <;> rfl
  · unfold revolved; (repeat' split) <;> rfl

theorem EndsAlike.trans (h : EndsAlike s' s d) (hs : EndsAlike s u d) : EndsAlike s' u d :=
  ⟨h.port.trans hs.port, h.cycle.trans hs.cycle, h.dryness.trans hs.dryness, h.values.trans hs.values,
    h.multiplier.trans hs.multiplier, h.reduction.trans hs.reduction, h.guardLength.trans hs.guardLength,
    h.earlyRuns.trans hs.earlyRuns, h.clock.trans hs.clock, h.handed.trans hs.handed⟩

/-! The tests that end a run -/

theorem revolutionsUp_iff {t : Tumble} (hbase : t.baseTaken = true) (hrun : t.state.running = true) (n : BitVec 16) :
    (t.takeCounter n).revolutionsUp = true ↔
      t.noReversal = false ∧ t.guardLength = none ∧ t.values.timebase = .revolutions ∧
        t.runLength ≤ (n - t.revBase).toNat := by
  have hlength : ({ t with revCount := n - t.revBase } : Tumble).runLength = t.runLength := rfl
  rw [takeCounter_later hbase]
  simp [Tumble.revolutionsUp, Tumble.reverses, hrun, hlength, and_assoc]

theorem earlyTest_iff (hbase : (s.drum d).tumble.baseTaken = true) (hrun : (s.drum d).tumble.state.running = true) :
    ((revolved d st s).drum d).earlyTest = true ↔
      (s.drum d).tumble.noReversal = false ∧ (s.drum d).tumble.guardLength = none ∧
        (s.drum d).tumble.runTiming = true ∧
        (s.drum d).tumble.values.trigger ≤ ((revolved d st s).drum d).tangle.count ∧
        (s.drum d).tumble.values.minRun * 1000 ≤ (s.drum d).tumble.runTimer := by
  unfold DrumState.earlyTest
  rw [drum_revolved, takeCounter_later hbase]
  simp [Tumble.reverses, hrun, and_assoc]

/-! What the ends of a run keep -/

theorem endNormalRun_keeps (d : Drum) (s : State) :
    ((endNormalRun d s).drum d).tumble.revCount = (s.drum d).tumble.revCount ∧
      ((endNormalRun d s).drum d).tumble.status = (s.drum d).tumble.status ∧
      ((endNormalRun d s).drum d).tangle.lastSwing = (s.drum d).tangle.lastSwing ∧
      ((endNormalRun d s).drum d).tangle.count = (s.drum d).tangle.count := by
  obtain ⟨htumble, htangle, -⟩ := enterDecel_writes d .dwell s
  unfold endNormalRun clearPersistence
  simp [htumble, htangle, Tumble.timersOff, Tangle.closed]

theorem endEarlyRun_keeps (d : Drum) (s : State) :
    ((endEarlyRun d s).drum d).tumble.revCount = (s.drum d).tumble.revCount ∧
      ((endEarlyRun d s).drum d).tumble.status = (s.drum d).tumble.status ∧
      ((endEarlyRun d s).drum d).tangle.lastSwing = (s.drum d).tangle.lastSwing ∧
      ((endEarlyRun d s).drum d).tangle.count = (s.drum d).tangle.count := by
  obtain ⟨htumble, htangle, -⟩ := enterDecel_writes d .dwell s
  have hpersist (t : Tumble) : t.persist.revCount = t.revCount ∧ t.persist.status = t.status := by
    unfold Tumble.persist; split <;> exact ⟨rfl, rfl⟩
  unfold endEarlyRun applyPersistence
  dsimp only
  split <;> simp [htumble, htangle, Tumble.timersOff, Tangle.closed, hpersist]

/-- Whether or not it ends the run, a status that moves the revolution count leaves the counted controller's count and
status and the judged swing and count. -/
theorem statusInRun_moved_keeps
    (h : ((s.drum d).tumble.takeCounter st.counter).revCount ≠ (s.drum d).tumble.revCount) :
    ((statusInRun d st s).drum d).tumble.revCount = ((revolved d st s).drum d).tumble.revCount ∧
      ((statusInRun d st s).drum d).tumble.status = ((revolved d st s).drum d).tumble.status ∧
      ((statusInRun d st s).drum d).tangle.lastSwing = ((revolved d st s).drum d).tangle.lastSwing ∧
      ((statusInRun d st s).drum d).tangle.count = ((revolved d st s).drum d).tangle.count := by
  rw [statusInRun_moved h]
  split
  · exact endNormalRun_keeps d _
  · split
    · exact endEarlyRun_keeps d _
    · exact ⟨rfl, rfl, rfl, rfl⟩

theorem status_statusInRun (d : Drum) (st : DriveStatus) (s : State) :
    ((statusInRun d st s).drum d).tumble.status = (s.drum d).tumble.status := by
  obtain ⟨-, -, hstatus, -⟩ := takeCounter_keeps (s.drum d).tumble st.counter
  by_cases h : ((s.drum d).tumble.takeCounter st.counter).revCount = (s.drum d).tumble.revCount
  · rw [statusInRun_still h, drum_counted]
    exact hstatus
  · rw [(statusInRun_moved_keeps h).2.1, drum_revolved]
    exact hstatus

/-- A drive status replaces the held status in every tumble state (R93). -/
theorem status_takeDriveStat (d : Drum) (st : DriveStatus) (s : State) :
    ((takeDriveStat d st s).drum d).tumble.status = some st := by
  have hheld : ((statusHeld d st s).drum d).tumble.status = some st := by rw [drum_statusHeld]
  by_cases ht : st.motor = .tripped
  · rw [takeDriveStat_tripped ht, (trip_writes d st _).2.1, hheld]
  have hrun (h : (s.drum d).tumble.state.running = true) : ((takeDriveStat d st s).drum d).tumble.status = some st := by
    rw [takeDriveStat_running ht h]
    split
    · rw [(stall_writes d st _).2.2.2.2.2, hheld]
    · rw [status_statusInRun, hheld]
  cases hs : (s.drum d).tumble.state
  case runFwd | runRev => exact hrun (by rw [hs]; rfl)
  case dwell => rw [takeDriveStat_resting ht (.inl hs), hheld]
  case stopped => rw [takeDriveStat_resting ht (.inr hs), hheld]
  case decel =>
    rw [takeDriveStat_decel ht hs]
    split
    · exact status_reachTarget hheld
    · exact hheld
  case recover =>
    rw [takeDriveStat_recover ht hs]
    split
    · exact status_recoverConfirmed hheld
    · exact hheld

theorem exec_motorCurrentAbsorbed_next {v : Nat} {a : Clock} (hrun : s.resetHeld = false)
    (h : s.flight.nextAbsorbed d .tumble = some (d, .motorCurrent v a)) :
    exec (.motorCurrentAbsorbed d) s = .next (takeCurrent d v (dropAbsorbed (d, .motorCurrent v a) s)) := by
  have hexec : exec (.motorCurrentAbsorbed d) s = execMotorCurrentAbsorbed d s := rfl
  rw [hexec, execMotorCurrentAbsorbed, running_released _ hrun, h]

theorem exec_driveStatAbsorbed_next (hrun : s.resetHeld = false)
    (h : s.flight.nextAbsorbed d .tumble = some (d, .driveStat st)) :
    exec (.driveStatAbsorbed d) s = .next (takeDriveStat d st (dropAbsorbed (d, .driveStat st) s)) := by
  have hexec : exec (.driveStatAbsorbed d) s = execDriveStatAbsorbed d s := rfl
  rw [hexec, execDriveStatAbsorbed, running_released _ hrun, h]

/-- A value taken from the work in flight changes nothing that the ends of a run look at. -/
theorem endsAlike_dropAbsorbed (d : Drum) (p : Drum × Absorbed) (s : State) : EndsAlike (dropAbsorbed p s) s d :=
  ⟨rfl, rfl, rfl, rfl, rfl, rfl, rfl, rfl, rfl, rfl⟩

/-! The clauses of a drive status, state by state -/

theorem confirmed_decel (hs : (s.drum d).tumble.state = .decel) (hm : st.motor = .stopped)
    (hlate : laterThan st.arrival (s.drum d).port.image.stopTime = true) :
    ((s.drum d).tumble.target = some .dwell →
      ((takeDriveStat d st s).drum d).tumble.state = .dwell ∧
        ((takeDriveStat d st s).drum d).tumble.dwell =
          seconds ((s.drum d).tumble.values.dwell * (s.drum d).tumble.multiplier)) ∧
    ((s.drum d).tumble.target = some .stopped →
      GuardTumbleReported s (takeDriveStat d st s) d ∧ (takeDriveStat d st s).handed = s.handed) ∧
    ((s.drum d).tumble.target = some .run →
      (2000 ≤ elapsed s.clock st.arrival → ((takeDriveStat d st s).drum d).tumble.state.running = true) ∧
      (elapsed s.clock st.arrival < 2000 →
        ((takeDriveStat d st s).drum d).tumble.state = .dwell ∧
          ((takeDriveStat d st s).drum d).tumble.dwell = some (2000 - elapsed s.clock st.arrival))) := by
  have hdrum := drum_statusHeld d st s
  rw [takeDriveStat_decel (by rw [hm]; decide) hs, if_pos (confirming_statusHeld hm hlate)]
  refine ⟨fun h => ?_, fun h => ?_, fun h => ?_⟩
  · rw [reachTarget_dwell (by rw [hdrum]; exact h), hdrum]
    exact ⟨rfl, rfl⟩
  · rw [reachTarget_stopped (by rw [hdrum]; exact h)]
    exact ⟨(endsAlike_statusHeld d st s).guardTumbleReported (guardTumbleReported_enterStopped d _), handed_enterStopped d _⟩
  · rw [reachTarget_run (by rw [hdrum]; exact h)]
    obtain ⟨hat, hwait, -⟩ := startDwell_cases (d := d) (s := (statusHeld d st s).onTumble d Tumble.timersOff) (st := st)
      (by simp [hdrum, Tumble.timersOff])
    exact ⟨hat, hwait⟩

theorem confirmed_recover (hs : (s.drum d).tumble.state = .recover) (hr : (s.drum d).tumble.recoverDelay = none)
    (hm : st.motor = .stopped) (hlate : laterThan st.arrival (s.drum d).port.image.stopTime = true) :
    ((s.drum d).tumble.target = some .run →
      ((takeDriveStat d st s).drum d).tumble.state = .recover ∧
        ((takeDriveStat d st s).drum d).tumble.recoverDelay = seconds (s.drum d).tumble.values.recoverDelay) ∧
    ((s.drum d).tumble.target = some .stopped →
      GuardTumbleReported s (takeDriveStat d st s) d ∧ (takeDriveStat d st s).handed = s.handed) := by
  have hdrum := drum_statusHeld d st s
  rw [takeDriveStat_recover (by rw [hm]; decide) hs, if_pos (confirming_statusHeld hm hlate)]
  refine ⟨fun h => ?_, fun h => ?_⟩
  · rw [recoverConfirmed_run (by rw [hdrum]; exact h) (by rw [hdrum]; exact hr), hdrum]
    exact ⟨hs, rfl⟩
  · rw [recoverConfirmed_stopped (by rw [hdrum]; exact h) (by rw [hdrum]; exact hr)]
    exact ⟨(endsAlike_statusHeld d st s).guardTumbleReported (guardTumbleReported_enterStopped d _), handed_enterStopped d _⟩

/-- A stall within the retry limit keeps the cycle; beyond it the halt cause STALL is reported (R100, R101). -/
theorem stall_by_limit (d : Drum) (st : DriveStatus) (s : State) :
    ((s.drum d).tumble.stalls + 1 ≤ (s.drum d).tumble.values.retryLimit →
      ((stall d st s).drum d).tumble.stalls = (s.drum d).tumble.stalls + 1 ∧
        ((stall d st s).drum d).cycle = (s.drum d).cycle ∧
        ((stall d st s).drum d).tumble.target =
          some (if (s.drum d).tumble.guardLength = none then .run else .stopped)) ∧
    ((s.drum d).tumble.values.retryLimit < (s.drum d).tumble.stalls + 1 →
      (s.drum d).cycle.state ∈ [CycleState.purge, .drying, .cooling, .guarding, .paused, .done] →
        ((stall d st s).drum d).cycle.state = .halted ∧ ((stall d st s).drum d).cycle.halt = .stall) := by
  obtain ⟨-, -, -, -, -, hstalls, htarget⟩ := stalled_writes d st s
  obtain ⟨-, hcycle, -⟩ := stalled_handed d st s
  rw [stall_eq]
  refine ⟨fun h => ?_, fun h hs => ?_⟩
  · rw [if_neg (not_lt.mpr h)]
    exact ⟨hstalls, hcycle, htarget⟩
  · rw [if_pos h]
    exact halted_of_cycleHalt (by rw [hcycle]; exact hs) .stall

/-! The clauses of a running status -/

theorem statusInRun_takes_base (hbase : (s.drum d).tumble.baseTaken = false) :
    ((statusInRun d st s).drum d).tumble =
        { (s.drum d).tumble with
          baseTaken := true
          revBase := st.counter
          runTiming := true
          runTimer := if (s.drum d).tumble.runTiming then (s.drum d).tumble.runTimer else 0
          statusWait := none } ∧
      ((statusInRun d st s).drum d).tangle = (s.drum d).tangle := by
  have hfirst := takeCounter_first hbase st.counter
  rw [statusInRun_still (by rw [hfirst]), drum_counted, hfirst]
  exact ⟨rfl, rfl⟩

theorem takeCounter_moved (hbase : (s.drum d).tumble.baseTaken = true)
    (h : st.counter - (s.drum d).tumble.revBase ≠ (s.drum d).tumble.revCount) :
    ((s.drum d).tumble.takeCounter st.counter).revCount ≠ (s.drum d).tumble.revCount := by
  rw [takeCounter_later hbase]; exact h

theorem statusInRun_unmoved (hbase : (s.drum d).tumble.baseTaken = true)
    (h : st.counter - (s.drum d).tumble.revBase = (s.drum d).tumble.revCount) :
    statusInRun d st s = counted d st s :=
  statusInRun_still (by rw [takeCounter_later hbase]; exact h)

theorem revCount_statusInRun (hbase : (s.drum d).tumble.baseTaken = true) :
    ((statusInRun d st s).drum d).tumble.revCount = st.counter - (s.drum d).tumble.revBase := by
  by_cases h : st.counter - (s.drum d).tumble.revBase = (s.drum d).tumble.revCount
  · rw [statusInRun_unmoved hbase h, drum_counted, takeCounter_later hbase]
  · rw [(statusInRun_moved_keeps (takeCounter_moved hbase h)).1, drum_revolved, takeCounter_later hbase]

/-- A run that goes on at a revolution keeps its state and the port; the tangle monitor takes the revolution. -/
theorem revolved_goes_on (d : Drum) (st : DriveStatus) (s : State) :
    ((revolved d st s).drum d).tumble.state = (s.drum d).tumble.state ∧
      ((revolved d st s).drum d).port = (s.drum d).port := by
  rw [drum_revolved]
  exact ⟨(takeCounter_keeps _ _).2.2.2.1, rfl⟩

end

/-! A running status that moves the revolution count -/

section
variable {s : State} {d : Drum} {st : DriveStatus}
variable (hbase : (s.drum d).tumble.baseTaken = true) (hrun : (s.drum d).tumble.state.running = true)
  (hmoved : st.counter - (s.drum d).tumble.revBase ≠ (s.drum d).tumble.revCount)

include hbase hmoved

theorem statusInRun_judges (hopen : (s.drum d).tangle.windowOpen = true) (hsamples : 2 ≤ (s.drum d).tangle.samples) :
    ((statusInRun d st s).drum d).tangle.lastSwing = (s.drum d).tangle.greatest - (s.drum d).tangle.least ∧
      ((statusInRun d st s).drum d).tangle.count =
        (s.drum d).tangle.judgedCount (s.drum d).tumble.values.swingThreshold := by
  obtain ⟨-, -, hswing, hcount⟩ := statusInRun_moved_keeps (takeCounter_moved hbase hmoved)
  rw [hswing, hcount, drum_revolved, revolved_judged hopen hsamples]
  exact ⟨rfl, rfl⟩

include hrun

theorem statusInRun_ends_normally (hreversing : (s.drum d).tumble.noReversal = false)
    (hguard : (s.drum d).tumble.guardLength = none) (htime : (s.drum d).tumble.values.timebase = .revolutions)
    (hlength : (s.drum d).tumble.runLength ≤ (st.counter - (s.drum d).tumble.revBase).toNat) :
    EndedNormally s (statusInRun d st s) d := by
  rw [statusInRun_moved (takeCounter_moved hbase hmoved),
    if_pos ((revolutionsUp_iff hbase hrun st.counter).mpr ⟨hreversing, hguard, htime, hlength⟩)]
  exact (endsAlike_revolved d st s).endedNormally (endedNormally_endNormalRun d _)

/-- In a guard tumble no test ends the run (R104). -/
theorem statusInRun_guarded (hguard : (s.drum d).tumble.guardLength ≠ none) : statusInRun d st s = revolved d st s :=
  statusInRun_goes_on (takeCounter_moved hbase hmoved)
    (fun h => hguard ((revolutionsUp_iff hbase hrun st.counter).mp h).2.1)
    (.inr (.inr fun h => hguard ((earlyTest_iff hbase hrun).mp h).2.1))

variable (hshort : (s.drum d).tumble.noReversal = true ∨ (s.drum d).tumble.values.timebase = .seconds ∨
  (st.counter - (s.drum d).tumble.revBase).toNat < (s.drum d).tumble.runLength)

include hshort

omit hmoved in
theorem not_revolutionsUp : ¬((s.drum d).tumble.takeCounter st.counter).revolutionsUp = true := by
  rw [revolutionsUp_iff hbase hrun]
  rintro ⟨hreversing, -, htime, hlength⟩
  rcases hshort with h | h | h
  · rw [hreversing] at h; cases h
  · rw [htime] at h; cases h
  · omega

/-- Without a judged window a run that has not had its revolutions goes on. -/
theorem statusInRun_unjudged (h : (s.drum d).tangle.windowOpen = false ∨ (s.drum d).tangle.samples < 2) :
    statusInRun d st s = revolved d st s :=
  statusInRun_goes_on (takeCounter_moved hbase hmoved) (not_revolutionsUp hbase hrun hshort)
    (h.imp_right .inl)

/-- A judged window ends a run early exactly where the early-reversal test is met (R111). -/
theorem statusInRun_judged (hopen : (s.drum d).tangle.windowOpen = true) (hsamples : 2 ≤ (s.drum d).tangle.samples) :
    statusInRun d st s =
      if ((revolved d st s).drum d).earlyTest then endEarlyRun d (revolved d st s) else revolved d st s := by
  rw [statusInRun_moved (takeCounter_moved hbase hmoved), if_neg (not_revolutionsUp hbase hrun hshort), hopen,
    decide_eq_true hsamples]
  rfl

end

section
variable {s : State} {d : Drum} {st : DriveStatus}

/-- The early-reversal test after a judged window, in terms of the state before the status. -/
theorem earlyTest_judged_iff (hbase : (s.drum d).tumble.baseTaken = true) (hrun : (s.drum d).tumble.state.running = true)
    (hguard : (s.drum d).tumble.guardLength = none) (hopen : (s.drum d).tangle.windowOpen = true)
    (hsamples : 2 ≤ (s.drum d).tangle.samples) :
    ((revolved d st s).drum d).earlyTest = true ↔
      (s.drum d).tumble.noReversal = false ∧ (s.drum d).tumble.runTiming = true ∧
        (s.drum d).tumble.values.minRun * 1000 ≤ (s.drum d).tumble.runTimer ∧
        (s.drum d).tumble.values.trigger ≤
          (s.drum d).tangle.judgedCount (s.drum d).tumble.values.swingThreshold := by
  rw [earlyTest_iff hbase hrun, drum_revolved, revolved_judged hopen hsamples]
  tauto

theorem endedEarly_of_judged (hopen : (s.drum d).tangle.windowOpen = true) (hsamples : 2 ≤ (s.drum d).tangle.samples) :
    EndedEarly s (endEarlyRun d (revolved d st s)) d
      ((s.drum d).tangle.judgedCount (s.drum d).tumble.values.swingThreshold) := by
  have hended := (endsAlike_revolved d st s).endedEarly (endedEarly_endEarlyRun d (revolved d st s))
  rwa [drum_revolved, revolved_judged hopen hsamples] at hended

end

/-- Settles O48: by tumble state; in a run by the revolution base, the revolution window and the tests that end the run. -/
theorem driveStatusActsByTumbleState : Obligations.DriveStatusActsByTumbleState := by
  intro s d hrun
  refine ⟨fun v a hnext => ?_, fun st hnext => ?_⟩
  · refine ⟨_, exec_motorCurrentAbsorbed_next hrun hnext, flight_takeCurrent d v _, fun hgo hopen => ?_, fun hoff => ?_⟩
    · exact takeCurrent_open (s := dropAbsorbed (d, .motorCurrent v a) s) v hgo hopen
    · rw [takeCurrent_discarded (s := dropAbsorbed (d, .motorCurrent v a) s) v hoff]
      rfl
  obtain ⟨u, hu⟩ : ∃ u, u = dropAbsorbed (d, .driveStat st) s := ⟨_, rfl⟩
  have hdrum : u.drum d = s.drum d := by rw [hu]; rfl
  have halike : EndsAlike u s d := hu ▸ endsAlike_dropAbsorbed d _ s
  have hbesides : u.besides d = { s.besides d with absorbs := s.flight.absorbs.erase (d, .driveStat st) } := by rw [hu]; rfl
  have htaken := (besides_takeDriveStat d st u).trans hbesides
  have hheld := (endsAlike_statusHeld d st u).trans halike
  have hheldDrum := drum_statusHeld d st u
  rw [hdrum] at hheldDrum
  refine ⟨takeDriveStat d st u, hu ▸ exec_driveStatAbsorbed_next hrun hnext, congrArg (·.absorbs) htaken, htaken,
    status_takeDriveStat d st u, fun hm hs => ?_, fun hm => ?_, fun hs hm hlate => ?_, fun hs hr hm hlate => ?_,
    fun hgo hm => ?_, fun hgo hm htrip => ?_⟩
  · rw [takeDriveStat_resting hm (by rw [hdrum]; exact hs), hheldDrum]
  · obtain ⟨hstate, -, hstop, hhalt⟩ := trip_writes d st (statusHeld d st u)
    rw [takeDriveStat_tripped hm]
    rw [hheldDrum] at hstop hhalt
    exact ⟨hstate, hstop, hhalt⟩
  · have hconfirmed := confirmed_decel (d := d) (s := u) (st := st) (by rw [hdrum]; exact hs) hm (by rw [hdrum]; exact hlate)
    rw [hdrum, halike.clock] at hconfirmed
    obtain ⟨hdwell, hstopped, hrunning⟩ := hconfirmed
    refine ⟨hdwell, fun h => ?_, hrunning⟩
    obtain ⟨hreported, hhanded⟩ := hstopped h
    exact ⟨halike.guardTumbleReported hreported, (events_of_handed hhanded).trans halike.events,
      (increments_of_handed hhanded).trans halike.increments⟩
  · have hconfirmed := confirmed_recover (d := d) (s := u) (st := st) (by rw [hdrum]; exact hs) (by rw [hdrum]; exact hr) hm
      (by rw [hdrum]; exact hlate)
    rw [hdrum] at hconfirmed
    obtain ⟨hdelay, hstopped⟩ := hconfirmed
    refine ⟨hdelay, fun h => ?_⟩
    obtain ⟨hreported, hhanded⟩ := hstopped h
    exact ⟨halike.guardTumbleReported hreported, (events_of_handed hhanded).trans halike.events,
      (increments_of_handed hhanded).trans halike.increments⟩
  · rw [takeDriveStat_running (by rw [hm]; decide) (by rw [hdrum]; exact hgo), if_pos hm]
    obtain ⟨hstate, hdrive, hdecel, hdelay, hguard, -⟩ := stall_writes d st (statusHeld d st u)
    obtain ⟨hincrements, hevents⟩ := stall_handed d st (statusHeld d st u)
    obtain ⟨hwithin, hbeyond⟩ := stall_by_limit d st (statusHeld d st u)
    rw [hheldDrum] at hdecel hguard hwithin hbeyond hevents
    rw [hheld.increments] at hincrements
    rw [hheld.events, hheld.clock] at hevents
    exact ⟨hstate, hdrive, hdecel, hdelay, hguard, hincrements, hevents, hwithin, hbeyond⟩
  · obtain ⟨v, hv⟩ : ∃ v, v = statusHeld d st u := ⟨_, rfl⟩
    rw [takeDriveStat_running htrip (by rw [hdrum]; exact hgo), if_neg hm, ← hv]
    rw [← hv] at hheldDrum hheld
    have hgo' : (v.drum d).tumble.state.running = true := by rw [hheldDrum]; exact hgo
    refine ⟨fun hbase => ?_, fun hbase => ?_⟩
    · have hfirst := statusInRun_takes_base (d := d) (s := v) (st := st) (by rw [hheldDrum]; exact hbase)
      rwa [hheldDrum] at hfirst
    have hbase' : (v.drum d).tumble.baseTaken = true := by rw [hheldDrum]; exact hbase
    refine ⟨(revCount_statusInRun hbase').trans (by rw [hheldDrum]), fun hstill => ?_, fun hmoved => ?_⟩
    · rw [statusInRun_unmoved hbase' (by rw [hheldDrum]; exact hstill), drum_counted, hheldDrum]
      exact ⟨rfl, (takeCounter_keeps _ _).2.2.2.1⟩
    have hmoved' : st.counter - (v.drum d).tumble.revBase ≠ (v.drum d).tumble.revCount := by rw [hheldDrum]; exact hmoved
    have hgoes := revolved_goes_on d st v
    have hafter := drum_revolved d st v
    rw [hheldDrum] at hgoes hafter
    refine ⟨fun _ hopen hsamples => ?_, fun hreversing hguard htime hlength => ?_, fun hguard hclosed => ?_,
      fun hguard hshort => ?_⟩
    · have hjudges := statusInRun_judges hbase' hmoved' (by rw [hheldDrum]; exact hopen) (by rw [hheldDrum]; exact hsamples)
      rwa [hheldDrum] at hjudges
    · exact hheld.endedNormally (statusInRun_ends_normally hbase' hgo' hmoved' (by rw [hheldDrum]; exact hreversing)
        (by rw [hheldDrum]; exact hguard) (by rw [hheldDrum]; exact htime) (by rw [hheldDrum]; exact hlength))
    · rw [statusInRun_guarded hbase' hgo' hmoved' (by rw [hheldDrum]; exact hguard)]
      refine ⟨?_, hgoes⟩
      rw [hafter, Option.isSome_iff_ne_none.mpr hguard]
      exact revolved_guarded hclosed _
    have hshort' : (v.drum d).tumble.noReversal = true ∨ (v.drum d).tumble.values.timebase = .seconds ∨
        (st.counter - (v.drum d).tumble.revBase).toNat < (v.drum d).tumble.runLength := by rw [hheldDrum]; exact hshort
    refine ⟨fun hclosed => ?_, fun hopen hfew => ?_, fun hopen hsamples => ?_⟩
    · rw [statusInRun_unjudged hbase' hgo' hmoved' hshort' (.inl (by rw [hheldDrum]; exact hclosed))]
      refine ⟨?_, hgoes⟩
      rw [hafter, hguard]
      exact revolved_first hclosed _
    · rw [statusInRun_unjudged hbase' hgo' hmoved' hshort' (.inr (by rw [hheldDrum]; exact hfew))]
      refine ⟨?_, hgoes⟩
      rw [hafter]
      exact revolved_few hopen hfew _ _
    have hopen' : (v.drum d).tangle.windowOpen = true := by rw [hheldDrum]; exact hopen
    have hsamples' : 2 ≤ (v.drum d).tangle.samples := by rw [hheldDrum]; exact hsamples
    have htest := earlyTest_judged_iff (st := st) hbase' hgo' (by rw [hheldDrum]; exact hguard) hopen' hsamples'
    rw [statusInRun_judged hbase' hgo' hmoved' hshort' hopen' hsamples']
    rw [hheldDrum] at htest
    refine ⟨fun hreversing htiming hmin htrigger => ?_, fun hnot => ?_⟩
    · rw [if_pos (htest.mpr ⟨hreversing, htiming, hmin, htrigger⟩)]
      have hearly := hheld.endedEarly (endedEarly_of_judged (st := st) hopen' hsamples')
      rwa [hheldDrum] at hearly
    · have hrest := (endsAlike_revolved d st v).trans hheld
      rw [if_neg]
      · refine ⟨hgoes.1, hgoes.2, ?_, ?_, hrest.events, hrest.increments⟩
        · rw [hafter, revolved_judged hopen hsamples]; rfl
        · rw [hafter, revolved_judged hopen hsamples]; rfl
      · rw [htest]
        rintro ⟨hreversing, htiming, hmin, htrigger⟩
        rcases hnot with h | h | h | h
        · rw [hreversing] at h; cases h
        · rw [htiming] at h; cases h
        · exact absurd hmin (not_le.mpr h)
        · exact absurd htrigger (not_le.mpr h)

end Sys2Proof.Machine
end

section
/-! DRUM_RESET (R87, R106, R115, R136, R153, R166, R179); settles O28. -/

namespace Sys2Proof.Machine

/-! ### The burner supervisor and the tumble controller after a reset -/

/-- The burner supervisor as DRUM_RESET leaves it (R153). -/
def Burner.afterReset (b : Burner) : Burner :=
  { b with
    wanted := 0
    demand := 0
    commanded := 0
    trial := none
    retryDelay := none
    stable := none
    starvation := none
    view := if b.lockout.isSome then .lockedOut else .idle
    retries := if b.lockout.isSome then b.retries else 0 }

theorem Burner.afterReset_eq (b : Burner) :
    b.afterReset =
      { b with
        wanted := 0, demand := 0, commanded := 0, trial := none, retryDelay := none, stable := none, starvation := none
        view := if b.lockout = none then .idle else .lockedOut
        retries := if b.lockout = none then 0 else b.retries } := by
  unfold Burner.afterReset
  cases b.lockout <;> rfl

/-- The tumble controller as DRUM_RESET leaves it (R106). -/
def Tumble.afterReset (t : Tumble) : Tumble :=
  { t.timersOff with
    state := .stopped
    target := none
    inForce := none
    lastDir := none
    first255 := false
    runTimer := 0
    revBase := 0
    baseTaken := false
    revCount := 0
    stalls := 0
    multiplier := 1
    reduction := 0
    guardLength := none }

/-- The cycle record as DRUM_RESET leaves it, the state apart (R87). -/
def Cycle.afterReset (c : Cycle) : Cycle :=
  { c.cleared with
    record := none, drying := 0, cooling := 0, minCoolPassed := false, reason := .none, halt := .none }

section
variable {s t u : State} {d : Drum}

/-- A burner reset calls for no heat, so a recomputation leaves it. -/
theorem burnerNow_afterReset {D : DrumState} {b : Burner} (h : D.burner = b.afterReset) (g : Nat) :
    D.burnerNow g = D.burner := by
  have hdemand : D.demandNow = 0 := by unfold DrumState.demandNow; rw [h]; exact Nat.zero_min _
  unfold DrumState.burnerNow
  rw [hdemand, h]
  unfold Burner.afterReset
  cases b.lockout <;> simp [View.follow]

theorem flameStage_afterReset (b : Burner) : b.afterReset.view.flameStage b.afterReset.commanded = 0 := by
  unfold Burner.afterReset
  cases b.lockout <;> rfl

theorem burnerUpdate_afterReset {b : Burner} (h : (s.drum d).burner = b.afterReset) :
    ((burnerUpdate d s).drum d).burner = (s.drum d).burner ∧
      ((burnerUpdate d s).drum d).port.image.flameStage = 0 ∧ (burnerUpdate d s).flight = s.flight := by
  have hnow := burnerNow_afterReset h (s.heatLimit d)
  obtain ⟨hburner, hflame, -⟩ := burnerUpdate_writes d s
  rw [hnow] at hburner hflame
  refine ⟨hburner, ?_, ?_⟩
  · rw [hflame, h, flameStage_afterReset]
  · unfold burnerUpdate
    dsimp only
    rw [hnow, if_pos rfl]
    exact flight_writeFlame d _ _

/-! ### The blocks of the drum -/

/-- The blocks of drum d have been reset from s to t; the port keeps all but its image and standby timer. -/
structure BlocksReset (s t : State) (d : Drum) : Prop where
  lanes : t.lanes d = s.lanes d
  config : (t.drum d).config = (s.drum d).config
  cycle : (t.drum d).cycle = {}
  tumble : (t.drum d).tumble = (s.drum d).tumble.afterReset
  tangle : (t.drum d).tangle = {}
  burner : (t.drum d).burner = (s.drum d).burner.afterReset
  dryness : (t.drum d).dryness = {}
  drive : (t.drum d).port.image.drive = .stop
  stopTime : (t.drum d).port.image.stopTime =
    if (s.drum d).port.image.drive = .stop then (s.drum d).port.image.stopTime else s.clock
  flame : (t.drum d).port.image.flameStage = 0
  fan : (t.drum d).port.image.fan = false
  resetLockout : (t.drum d).port.image.resetLockout = (s.drum d).port.image.resetLockout

theorem burnerReset_writes (d : Drum) (s : State) :
    ((burnerReset d s).drum d).burner = (s.drum d).burner.afterReset ∧
      ((burnerReset d s).drum d).port.image.stopTime = (s.drum d).port.image.stopTime ∧
      (burnerReset d s).flight = s.flight := by
  obtain ⟨m, h⟩ := drum_writeFlame d 0 (s.onBurner d Burner.afterReset)
  have hreset : burnerReset d s = writeFlame d 0 (s.onBurner d Burner.afterReset) := rfl
  rw [hreset, h, flight_writeFlame]
  exact ⟨by simp, by simp, rfl⟩

/-- STOP written and the tumble controller reset, before the burner is told (R90, R106). -/
def stoppedForReset (d : Drum) (s : State) : State :=
  ((writeDrive d .stop s).onTumble d Tumble.afterReset).onTangle d Tangle.closed

theorem tumbleReset_eq (d : Drum) (s : State) :
    tumbleReset d s = (burnerUpdate d (stoppedForReset d s)).onTangle d fun _ => {} := rfl

theorem burner_stoppedForReset (d : Drum) (s : State) :
    ((stoppedForReset d s).drum d).burner = (s.drum d).burner := by
  simp [stoppedForReset]

theorem tumble_stoppedForReset (d : Drum) (s : State) :
    ((stoppedForReset d s).drum d).tumble = (s.drum d).tumble.afterReset := by
  simp [stoppedForReset]

theorem stopTime_stoppedForReset (d : Drum) (s : State) :
    ((stoppedForReset d s).drum d).port.image.stopTime =
      if (s.drum d).port.image.drive = .stop then (s.drum d).port.image.stopTime else s.clock := by
  have hport : ((stoppedForReset d s).drum d).port = ((writeDrive d .stop s).drum d).port := by simp [stoppedForReset]
  rw [hport, writeDrive_stopTime]
  by_cases hd : (s.drum d).port.image.drive = .stop
  · rw [if_neg (fun h => h.2 hd), if_pos hd]
  · rw [if_pos ⟨rfl, hd⟩, if_neg hd]

theorem flight_stoppedForReset (d : Drum) (s : State) : (stoppedForReset d s).flight = s.flight :=
  flight_writeDrive d _ s

theorem tumbleReset_writes {b : Burner} (h : (s.drum d).burner = b.afterReset) :
    ((tumbleReset d s).drum d).tumble = (s.drum d).tumble.afterReset ∧ ((tumbleReset d s).drum d).tangle = {} ∧
      ((tumbleReset d s).drum d).burner = (s.drum d).burner ∧
      ((tumbleReset d s).drum d).port.image.stopTime =
        (if (s.drum d).port.image.drive = .stop then (s.drum d).port.image.stopTime else s.clock) ∧
      (tumbleReset d s).flight = s.flight := by
  have hbefore := burner_stoppedForReset d s
  obtain ⟨hburner, -, hflight⟩ := burnerUpdate_afterReset (hbefore.trans h)
  have hdrum : (tumbleReset d s).drum d = { (burnerUpdate d (stoppedForReset d s)).drum d with tangle := {} } := by
    rw [tumbleReset_eq, State.onTangle, drum_onDrum_self]
  rw [hdrum]
  refine ⟨?_, rfl, hburner.trans hbefore, ?_, ?_⟩
  · simp only [keeps_burnerUpdate, tumble_stoppedForReset]
  · exact (stopTime_burnerUpdate d _).trans (stopTime_stoppedForReset d s)
  · rw [tumbleReset_eq, flight_onTangle, hflight, flight_stoppedForReset]

/-- A change of cycle state leaves a burner that has been reset as it is, and hands on no demand. -/
theorem setCycle_afterReset {b : Burner} {new : CycleState} (h : (s.drum d).burner = b.afterReset) (hnew : new ≠ .drying)
    (f : Cycle → Cycle) :
    ((setCycle d new f s).drum d).burner = (s.drum d).burner ∧ (setCycle d new f s).flight = s.flight := by
  have hchange (old : CycleState) (n : Nat) : b.afterReset.onCycleState old new n = b.afterReset := by
    unfold Burner.onCycleState
    rw [if_neg hnew]
    split <;> rfl
  unfold setCycle
  dsimp only
  generalize hs' : ((writeFan d new.fanOnEntry (s.onCycle d fun c => { f c with state := new })).onDrum d fun D =>
    { D with
      tumble := { D.tumble with stalls := 0 }
      dryness := D.dryness.onCycleState new D.cycle.dryingElectrode D.config.starvation
      burner := D.burner.onCycleState (s.drum d).cycle.state new D.config.starvation }) = s'
  have hburner : (s'.drum d).burner = (s.drum d).burner := by
    rw [← hs', drum_onDrum_self]
    simp only [keeps_writeFan, drum_onCycle_self, h, hchange]
  have hflight : s'.flight = s.flight := by rw [← hs']; exact flight_writeFan d _ _
  obtain ⟨hupdate, -, hkept⟩ := burnerUpdate_afterReset (hburner.trans h)
  exact ⟨by simp only [keeps_settleStandby, hupdate, hburner], hkept.trans hflight⟩

/-- The drum's cycle emptied, its burner and tumble controller reset before (R87). -/
def vacated (d : Drum) (s : State) : State := setCycle d .vacant Cycle.afterReset (tumbleReset d (burnerReset d s))

theorem besides_vacated (d : Drum) (s : State) : (vacated d s).besides d = s.besides d := by
  simp [vacated]

theorem flight_vacated (d : Drum) (s : State) : (vacated d s).flight = s.flight := by
  obtain ⟨hburner, -, hflight⟩ := burnerReset_writes d s
  obtain ⟨-, -, hkept, -, htumble⟩ := tumbleReset_writes hburner
  obtain ⟨-, hcycle⟩ := setCycle_afterReset (new := .vacant) (hkept.trans hburner) (by decide) Cycle.afterReset
  exact hcycle.trans (htumble.trans hflight)

theorem lanes_vacated (d : Drum) (s : State) : (vacated d s).lanes d = s.lanes d := by
  unfold vacated
  rw [lanes_setCycle, lanes_of_links (links_tumbleReset d _), lanes_of_links (links_burnerReset d s)]

theorem cycle_vacated (d : Drum) (s : State) : ((vacated d s).drum d).cycle = {} := by
  rw [vacated, (setCycle_cycle d .vacant Cycle.afterReset _).1]
  rfl

theorem tumble_vacated (d : Drum) (s : State) :
    ((vacated d s).drum d).tumble = (s.drum d).tumble.afterReset ∧ ((vacated d s).drum d).tangle = {} := by
  obtain ⟨hburner, -, -⟩ := burnerReset_writes d s
  obtain ⟨htumble, htangle, -⟩ := tumbleReset_writes hburner
  rw [vacated, tumble_setCycle, htumble]
  refine ⟨?_, ?_⟩
  · simp only [keeps_burnerReset, Tumble.afterReset]
  · simp only [keeps_setCycle, htangle]

theorem burner_vacated (d : Drum) (s : State) : ((vacated d s).drum d).burner = (s.drum d).burner.afterReset := by
  obtain ⟨hburner, -, -⟩ := burnerReset_writes d s
  obtain ⟨-, -, hkept, -⟩ := tumbleReset_writes hburner
  obtain ⟨hafter, -⟩ := setCycle_afterReset (new := .vacant) (hkept.trans hburner) (by decide) Cycle.afterReset
  exact hafter.trans (hkept.trans hburner)

theorem image_vacated (d : Drum) (s : State) :
    ((vacated d s).drum d).port.image.drive = .stop ∧ ((vacated d s).drum d).port.image.flameStage = 0 ∧
      ((vacated d s).drum d).port.image.fan = false ∧
      ((vacated d s).drum d).port.image.resetLockout = (s.drum d).port.image.resetLockout := by
  obtain ⟨-, -, -, -, hdrive⟩ := tumbleReset_stops d (burnerReset d s)
  obtain ⟨-, hfan⟩ := setCycle_cycle d .vacant Cycle.afterReset (tumbleReset d (burnerReset d s))
  obtain ⟨-, hflame⟩ :=
    unheated_setCycle (d := d) (new := .vacant) (by decide) Cycle.afterReset (tumbleReset d (burnerReset d s))
  rw [vacated]
  refine ⟨?_, hflame, hfan, ?_⟩
  · simp only [keeps_setCycle, hdrive]
  · simp only [keeps_setCycle, keeps_tumbleReset, keeps_burnerReset]

theorem stopTime_vacated (d : Drum) (s : State) :
    ((vacated d s).drum d).port.image.stopTime =
      if (s.drum d).port.image.drive = .stop then (s.drum d).port.image.stopTime else s.clock := by
  obtain ⟨hburner, hstop, -⟩ := burnerReset_writes d s
  obtain ⟨-, -, -, hstopTime, -⟩ := tumbleReset_writes hburner
  have hclock : (burnerReset d s).clock = s.clock := clock_of_besides (besides_burnerReset d s)
  rw [vacated, stopTime_setCycle, hstopTime, hstop, hclock]
  simp only [keeps_burnerReset]

theorem dryness_drynessReset (d : Drum) (s : State) : ((drynessReset d s).drum d).dryness = {} := by
  simp [drynessReset]

/-- The blocks of a drum after their resets, before the allocator takes the drum's (R87). -/
theorem blocksReset_drynessReset (d : Drum) (s : State) : BlocksReset s (drynessReset d (vacated d s)) d := by
  obtain ⟨hport, hcycle, htumble, htangle, hburner, -⟩ := keeps_drynessReset d (vacated d s)
  obtain ⟨hdrive, hflame, hfan, hlockout⟩ := image_vacated d s
  have himage : ((drynessReset d (vacated d s)).drum d).port.image = ((vacated d s).drum d).port.image := by rw [hport]
  refine
    { lanes := ?_
      config := config_of_besides ((besides_drynessReset d _).trans (besides_vacated d s)) d
      cycle := hcycle.trans (cycle_vacated d s)
      tumble := htumble.trans (tumble_vacated d s).1
      tangle := htangle.trans (tumble_vacated d s).2
      burner := hburner.trans (burner_vacated d s)
      dryness := dryness_drynessReset d _
      drive := by rw [himage]; exact hdrive
      stopTime := by rw [himage]; exact stopTime_vacated d s
      flame := by rw [himage]; exact hflame
      fan := by rw [himage]; exact hfan
      resetLockout := by rw [himage]; exact hlockout }
  unfold State.lanes
  rw [hport]
  exact lanes_vacated d s

/-! ### The drum's heat (R136) -/

/-- What the grant attempt of a reset finds: no entry of the drum, granted stage and held demand 0, the cost copy dropped. -/
def heatGivenUp (d : Drum) (s : State) : State :=
  (if (s.share d).granted = 0 then s.onHeat fun h => h.without d else lowerGrant d 0 (s.onHeat fun h => h.without d)).onShare d
    fun sh => { sh with held := 0, costs := none }

theorem releaseDrum_eq (d : Drum) (s : State) : releaseDrum d s = grantAttempt (heatGivenUp d s) := rfl

theorem heat_heatGivenUp (d : Drum) (s : State) :
    (heatGivenUp d s).heat =
      { s.heat with
        shares := s.heat.shares.set d { granted := 0, held := 0, costs := none }
        grants := if (s.share d).granted = 0 then s.heat.grants else s.heat.grants.filter (fun e => e != d)
        queue := s.heat.queue.filter fun e => e.drum != d } := by
  unfold heatGivenUp
  split
  next h =>
    have hgranted : s.heat.shares[d.val].granted = 0 := h
    simp [State.onShare, Heat.without, State.onHeat, hgranted]
  next h =>
    simp [State.onShare, Heat.without, State.onHeat, lowerGrant_heat]

/-- Told granted stage 0, a burner that has been reset stays as it is, with the FLAME entry at stage 0. -/
theorem lowerGrant_afterReset {b : Burner} (h : (s.drum d).burner = b.afterReset) :
    (∃ m, (lowerGrant d 0 s).drum d =
        { s.drum d with
          port := { (s.drum d).port with image := { (s.drum d).port.image with flameStage := 0, flameMarks := m } } }) ∧
      (lowerGrant d 0 s).flight = s.flight := by
  obtain ⟨v, hlower, hdrum, hflight⟩ :
      ∃ v, lowerGrant d 0 s = burnerUpdate d v ∧ v.drum d = s.drum d ∧ v.flight = s.flight :=
    ⟨_, rfl, rfl, rfl⟩
  have hv : (v.drum d).burner = b.afterReset := by rw [hdrum]; exact h
  obtain ⟨m, hupdate⟩ := drum_burnerUpdate d v
  obtain ⟨-, -, hkept⟩ := burnerUpdate_afterReset hv
  rw [burnerNow_afterReset hv, hv, flameStage_afterReset, hdrum, ← h] at hupdate
  rw [hlower]
  exact ⟨⟨m, hupdate⟩, hkept.trans hflight⟩

theorem blocksReset_lowerGrant (h : BlocksReset s t d) : BlocksReset s (lowerGrant d 0 t) d := by
  obtain ⟨⟨m, hdrum⟩, -⟩ := lowerGrant_afterReset h.burner
  refine
    { lanes := ?_, config := ?_, cycle := ?_, tumble := ?_, tangle := ?_, burner := ?_, dryness := ?_, drive := ?_,
      stopTime := ?_, flame := ?_, fan := ?_, resetLockout := ?_ }
  · exact (lanes_of_links (links_lowerGrant d d 0 t)).trans h.lanes
  all_goals rw [hdrum]
  · exact h.config
  · exact h.cycle
  · exact h.tumble
  · exact h.tangle
  · exact h.burner
  · exact h.dryness
  · exact h.drive
  · exact h.stopTime
  · exact h.fan
  · exact h.resetLockout

/-- What the blocks of the drum are is a matter of the drum alone. -/
theorem BlocksReset.of_drum (h : BlocksReset s t d) (hu : u.drum d = t.drum d) : BlocksReset s u d := by
  obtain ⟨hlanes, hconfig, hcycle, htumble, htangle, hburner, hdryness, hdrive, hstop, hflame, hfan, hlockout⟩ := h
  unfold State.lanes at hlanes
  rw [← hu] at hlanes hconfig hcycle htumble htangle hburner hdryness hdrive hstop hflame hfan hlockout
  exact ⟨hlanes, hconfig, hcycle, htumble, htangle, hburner, hdryness, hdrive, hstop, hflame, hfan, hlockout⟩

theorem heatGivenUp_leaves (h : BlocksReset s t d) :
    BlocksReset s (heatGivenUp d t) d ∧ (heatGivenUp d t).flight = t.flight ∧ (heatGivenUp d t).around = t.around ∧
      ∀ e, e ≠ d → (heatGivenUp d t).drum e = t.drum e := by
  have hwithout : BlocksReset s (t.onHeat fun h => h.without d) d := h.of_drum rfl
  unfold heatGivenUp
  split
  · exact ⟨h.of_drum rfl, rfl, rfl, fun _ _ => rfl⟩
  · obtain ⟨-, -, -, -, -, hothers⟩ := burnerTold_lowerGrant d 0 (t.onHeat fun h => h.without d)
    exact ⟨(blocksReset_lowerGrant hwithout).of_drum rfl, (lowerGrant_afterReset hwithout.burner).2,
      by simp, hothers⟩

/-! ### The grant attempt that ends the reset -/

/-- A round that grants grants one entry of the queue, which it may have left with a bypass count one higher. -/
theorem grantRound_cases (h : grantRound s = some t) :
    ∃ e ∈ s.heat.queue, ∃ q : List HeatEntry, t = grantEntry e (s.onHeat fun h => { h with queue := q }) ∧
      ∀ x ∈ q, ∃ y ∈ s.heat.queue, x.drum = y.drum := by
  unfold grantRound at h
  cases hq : s.heat.queue with
  | nil => rw [hq] at h; cases h
  | cons head rest =>
    rw [hq] at h
    dsimp only at h
    split at h
    · refine ⟨head, List.mem_cons_self, s.heat.queue, (Option.some.inj h).symm, fun x hx => ⟨x, hq ▸ hx, rfl⟩⟩
    · split at h
      · split at h
        · cases h
        next e he =>
          refine ⟨e, List.mem_cons_of_mem _ (List.mem_of_find?_eq_some he), _, (Option.some.inj h).symm, fun x hx => ?_⟩
          rcases List.mem_cons.mp hx with rfl | hx
          · exact ⟨head, List.mem_cons_self, rfl⟩
          · exact ⟨x, List.mem_cons_of_mem _ hx, rfl⟩
      · cases h

/-- A grant to another drum leaves drum d and its share, and the allocator's settings. -/
theorem grantEntry_leaves {e : HeatEntry} (he : e.drum ≠ d) (s : State) :
    (grantEntry e s).drum d = s.drum d ∧ (grantEntry e s).share d = s.share d ∧
      (grantEntry e s).heat.budget = s.heat.budget ∧ (grantEntry e s).heat.bypassLimit = s.heat.bypassLimit ∧
      (grantEntry e s).heat.waitLimit = s.heat.waitLimit ∧ (grantEntry e s).handed = s.handed := by
  have hval : e.drum.val ≠ d.val := Fin.val_ne_of_ne he
  refine ⟨drum_burnerUpdate_ne he.symm _, ?_, ?_, ?_, ?_, (handed_burnerUpdate _ _).trans rfl⟩
  · unfold State.share
    rw [grantEntry_heat]
    simp [hval]
  all_goals rw [grantEntry_heat]

/-- A grant attempt leaves a drum without an entry in the queue. -/
theorem grantRounds_leave (h : GrantRounds s t) :
    (∀ e ∈ s.heat.queue, e.drum ≠ d) →
      t.drum d = s.drum d ∧ t.share d = s.share d ∧ t.heat.budget = s.heat.budget ∧
        t.heat.bypassLimit = s.heat.bypassLimit ∧ t.heat.waitLimit = s.heat.waitLimit ∧ t.handed = s.handed ∧
        ∀ e ∈ t.heat.queue, e.drum ≠ d := by
  induction h with
  | stop _ => exact fun hq => ⟨rfl, rfl, rfl, rfl, rfl, rfl, hq⟩
  | @round s u t hround _ ih =>
    intro hq
    obtain ⟨e, he, q, rfl, hsame⟩ := grantRound_cases hround
    obtain ⟨hdrum, hshare, hbudget, hbypass, hwait, hhanded⟩ :=
      grantEntry_leaves (hq e he) (s.onHeat fun h => { h with queue := q })
    have hqueue : ∀ x ∈ (grantEntry e (s.onHeat fun h => { h with queue := q })).heat.queue, x.drum ≠ d := by
      intro x hx
      rw [grantEntry_heat] at hx
      obtain ⟨y, hy, hxy⟩ := hsame x (List.mem_of_mem_filter hx)
      rw [hxy]
      exact hq y hy
    obtain ⟨hdrum', hshare', hbudget', hbypass', hwait', hhanded', hqueue'⟩ := ih hqueue
    exact ⟨hdrum'.trans hdrum, hshare'.trans hshare, hbudget'.trans hbudget, hbypass'.trans hbypass,
      hwait'.trans hwait, hhanded'.trans hhanded, hqueue'⟩

/-! ### The reset as a whole -/

/-- A drum's demands that the allocator has not taken are lost (log 15). -/
def demandsLost (d : Drum) (s : State) : State :=
  s.onFlight fun f => { f with demands := f.demands.filter fun p => p.1 != d }

theorem drum_demandsLost (d e : Drum) (s : State) : (demandsLost d s).drum e = s.drum e := rfl

theorem flight_demandsLost (d : Drum) (s : State) :
    (demandsLost d s).flight = { s.flight with demands := s.flight.demands.filter fun p => p.1 != d } := rfl

theorem around_demandsLost (d : Drum) (s : State) : (demandsLost d s).around = s.around := rfl

theorem heat_demandsLost (d : Drum) (s : State) : (demandsLost d s).heat = s.heat := rfl

/-- The state in which the grant attempt of a reset begins. -/
def beforeGrants (d : Drum) (s : State) : State := heatGivenUp d (demandsLost d (drynessReset d (vacated d s)))

theorem resetDrum_eq (d : Drum) (s : State) : resetDrum d s = purgeAlerts d (grantAttempt (beforeGrants d s)) := by
  have hreset : resetDrum d s = purgeAlerts d (releaseDrum d (demandsLost d (drynessReset d (vacated d s)))) := rfl
  rw [hreset, releaseDrum_eq, beforeGrants]

theorem blocksReset_demandsLost (d : Drum) (s : State) :
    BlocksReset s (demandsLost d (drynessReset d (vacated d s))) d :=
  (blocksReset_drynessReset d s).of_drum (drum_demandsLost d d _)

theorem blocksReset_beforeGrants (d : Drum) (s : State) : BlocksReset s (beforeGrants d s) d := by
  obtain ⟨hreset, -⟩ := heatGivenUp_leaves (blocksReset_demandsLost d s)
  exact hreset

theorem besides_drynessReset_vacated (d : Drum) (s : State) : (drynessReset d (vacated d s)).besides d = s.besides d :=
  (besides_drynessReset d _).trans (besides_vacated d s)

theorem flight_drynessReset (d : Drum) (s : State) : (drynessReset d s).flight = s.flight := rfl

/-- Up to its grant attempt a reset touches the drum, its demands and the allocator alone. -/
theorem beforeGrants_leaves (d : Drum) (s : State) :
    (beforeGrants d s).flight = { s.flight with demands := s.flight.demands.filter fun p => p.1 != d } ∧
      (beforeGrants d s).around = s.around ∧ ∀ e, e ≠ d → (beforeGrants d s).drum e = s.drum e := by
  obtain ⟨-, hflight, haround, hothers⟩ := heatGivenUp_leaves (blocksReset_demandsLost d s)
  have hbesides := besides_drynessReset_vacated d s
  rw [flight_demandsLost, flight_drynessReset, flight_vacated] at hflight
  rw [around_demandsLost, around_of_besides hbesides] at haround
  refine ⟨hflight, haround, fun e he => ?_⟩
  rw [beforeGrants, hothers e he, drum_demandsLost, drum_of_besides hbesides he]

theorem heat_beforeGrants (d : Drum) (s : State) :
    (beforeGrants d s).heat =
      { s.heat with
        shares := s.heat.shares.set d { granted := 0, held := 0, costs := none }
        grants := if (s.share d).granted = 0 then s.heat.grants else s.heat.grants.filter (fun e => e != d)
        queue := s.heat.queue.filter fun e => e.drum != d } := by
  rw [beforeGrants, heat_heatGivenUp]
  unfold State.share
  rw [heat_demandsLost, heat_of_besides (besides_drynessReset_vacated d s)]

/-- A state that keeps what the allocator never touches, and the events and increments, from the state that has taken a
request is, outside the allocator, the drums and the demands, the state that the request found. -/
theorem rest_of_around {rest : List Request} (ha : t.around = (s.taken rest).around)
    (hh : t.handed = (s.taken rest).handed) :
    { t.withOutside s.cabinet s.router with
      heat := s.heat, drums := s.drums, flight := { t.flight with demands := s.flight.demands } } = s := by
  obtain ⟨clock, resetHeld, cabinet, classifier, profiles, heat, router, attributes, drums, flight, pending⟩ := s
  simp only [State.around, State.taken, State.onCabinet, Prod.mk.injEq] at ha
  simp only [State.handed, State.taken, State.onCabinet, Prod.mk.injEq] at hh
  simp [State.withOutside, ha, hh]

/-- What a reset makes of the blocks does not depend on the inbox. -/
theorem BlocksReset.of_taken {rest : List Request} (h : BlocksReset (s.taken rest) t d) : BlocksReset s t d :=
  ⟨h.lanes, h.config, h.cycle, h.tumble, h.tangle, h.burner, h.dryness, h.drive, h.stopTime, h.flame, h.fan, h.resetLockout⟩

end

/-- Settles O28: the blocks by their resets, the allocator by what the grant attempt of the reset finds and leaves. -/
theorem drumResetClearsTheDrum : Obligations.DrumResetClearsTheDrum := by
  intro s r rest d ho hcode ha
  have hserve : (onDrumArg fun d s => ok (resetDrum d s)) r (s.taken rest) = ok (resetDrum d (s.taken rest)) :=
    onDrumArg_args ha
  have hexec := exec_done (c := .drumReset) (f := resetDrum d) rfl ho (isCode_args (code_toNat (by decide) hcode) ha rfl)
    hserve (cabinet_resetDrum d _)
  obtain ⟨hflight, haround, hothers⟩ := beforeGrants_leaves d (s.taken rest)
  have hblocks := (blocksReset_beforeGrants d (s.taken rest)).of_taken
  have hheat := heat_beforeGrants d (s.taken rest)
  rw [resetDrum_eq] at hexec
  generalize beforeGrants d (s.taken rest) = b at *
  have hrounds := grantAttempt_spec b
  have hqueue : ∀ e ∈ b.heat.queue, e.drum ≠ d := by
    intro e he
    rw [hheat] at he
    simpa using (List.mem_filter.mp he).2
  obtain ⟨hdrum, hshare, hbudget, hbypass, hwait, hhanded, hleft⟩ := grantRounds_leave hrounds hqueue
  have houtside := (around_of_grantRounds hrounds).trans haround
  generalize grantAttempt b = g at *
  have hkept : b.handed = (s.taken rest).handed := by unfold State.handed; rw [hflight]
  have hattempt : GrantRounds (b.withOutside s.cabinet s.router)
      { (purgeAlerts d g).onCabinet fun _ => s.cabinet with router := s.router } :=
    grantRounds_of_withOutside (t := g) s.cabinet s.router hrounds
  have hreset := hblocks.of_drum hdrum
  have hburner := hreset.burner.trans (s.drum d).burner.afterReset_eq
  have hrouter : g.router = s.router := (router_of_around houtside :)
  have hevents : g.handed = s.handed := hhanded.trans hkept
  refine ⟨_, hexec, ⟨b.withOutside s.cabinet s.router, hattempt, rest_of_around haround hkept,
    congrArg (·.demands) hflight, hheat, hothers, hdrum⟩, hbudget.trans (by rw [hheat]; rfl),
    hbypass.trans (by rw [hheat]; rfl), hwait.trans (by rw [hheat]; rfl), hreset.tumble, hburner, ?_, hreset.resetLockout,
    hreset.stopTime, hreset.cycle, hreset.tangle, hreset.dryness, congrArg Tumble.state hreset.tumble,
    congrArg Tumble.target hreset.tumble, congrArg Tumble.inForce hreset.tumble, congrArg Tumble.lastDir hreset.tumble,
    congrArg Tumble.stalls hreset.tumble, congrArg Tumble.multiplier hreset.tumble, congrArg Tumble.reduction hreset.tumble,
    (congrArg Tumble.status hreset.tumble :), hreset.drive, hreset.flame, hreset.fan, state_of_lanes hreset.lanes,
    grace_of_lanes hreset.lanes, lineTest_of_lanes hreset.lanes, congrArg Burner.wanted hburner,
    congrArg Burner.commanded hburner, (congrArg Burner.lockout hburner :), fun hclear => ⟨?_, ?_⟩, fun hlocked => ?_,
    hreset.config, ?_, hleft, ?_, ?_, (attributes_of_around houtside :), ?_, rfl, events_of_handed hevents,
    increments_of_handed hevents⟩
  · exact congrArg (fun p : Port => { p with image := (s.drum d).port.image, standby := (s.drum d).port.standby })
      hreset.lanes
  · exact (congrArg Burner.view hburner).trans (if_pos hclear)
  · exact (congrArg Burner.retries hburner).trans (if_pos hclear)
  · exact (congrArg Burner.view hburner).trans (if_neg hlocked)
  · refine hshare.trans ?_
    unfold State.share
    rw [hheat]
    simp
  · exact congrArg (fun x : Router => x.alerts.filter fun e => e.drum != d) hrouter
  · exact (congrArg Router.routes hrouter :)
  · exact congrArg (·.2.2.2.1) houtside

end Sys2Proof.Machine
end

section
/-! The ends of a run by its length, by the maximum seconds, by a guard tumble's length and by a tangle; settles O46. -/

namespace Sys2Proof.Machine

section
variable {s : State} {d : Drum}

/-! ### The timed commands of a run -/

theorem exec_statusWaitExpiry (hrun : s.resetHeld = false) :
    exec (.statusWaitExpiry d) s =
      .next (onlyIf ((s.drum d).tumble.state.running && due (s.drum d).tumble.statusWait && s.portUp d)
        (fun s => s.onTumble d fun t => { t with statusWait := none, runTimer := 0, runTiming := true }) s) := by
  have h : exec (.statusWaitExpiry d) s = execStatusWaitExpiry d s := rfl
  rw [h, execStatusWaitExpiry, running_released _ hrun]

theorem exec_runLengthEnd (hrun : s.resetHeld = false) :
    exec (.runLengthEnd d) s =
      .next (onlyIf ((s.drum d).tumble.values.timebase == .seconds && (s.drum d).tumble.timeUp) (endNormalRun d) s) := by
  have h : exec (.runLengthEnd d) s = execRunLengthEnd d s := rfl
  rw [h, execRunLengthEnd, running_released _ hrun]

theorem exec_maximumRunSeconds (hrun : s.resetHeld = false) :
    exec (.maximumRunSeconds d) s =
      .next (onlyIf ((s.drum d).tumble.values.timebase == .revolutions && (s.drum d).tumble.timeUp) (endNormalRun d) s) := by
  have h : exec (.maximumRunSeconds d) s = execMaximumRunSeconds d s := rfl
  rw [h, execMaximumRunSeconds, running_released _ hrun]

theorem exec_minimumRunReached (hrun : s.resetHeld = false) :
    exec (.minimumRunReached d) s =
      .next (onlyIf ((s.drum d).tumble.reverses && (s.drum d).tumble.runTiming &&
        decide ((s.drum d).tumble.values.minRun * 1000 ≤ (s.drum d).tumble.runTimer)) (minimumRunReached d) s) := by
  have h : exec (.minimumRunReached d) s = execMinimumRunReached d s := rfl
  rw [h, execMinimumRunReached, running_released _ hrun]

theorem exec_guardTumbleEnd (hrun : s.resetHeld = false) :
    exec (.guardTumbleEnd d) s = .next (onlyIf (s.drum d).tumble.guardUp (enterDecel d .stopped) s) := by
  have h : exec (.guardTumbleEnd d) s = execGuardTumbleEnd d s := rfl
  rw [h, execGuardTumbleEnd, running_released _ hrun]

/-! ### When a run is over -/

theorem reverses_iff {t : Tumble} :
    t.reverses = true ↔ t.state.running = true ∧ t.noReversal = false ∧ t.guardLength = none := by
  simp [Tumble.reverses, and_assoc]

/-- The length that ends a run by its timebase (R96). -/
def Tumble.timedLength (t : Tumble) : Nat :=
  match t.values.timebase with
  | .seconds => t.runLength
  | .revolutions => t.values.maxRun

theorem timeUp_iff {t : Tumble} :
    t.timeUp = true ↔ t.reverses = true ∧ t.runTiming = true ∧ t.timedLength * 1000 ≤ t.runTimer := by
  unfold Tumble.timeUp Tumble.timedLength
  cases t.values.timebase <;> simp [and_assoc]

theorem timeUp_eq_false_of_not_running {t : Tumble} (h : t.state.running = false) : t.timeUp = false := by
  simp [Tumble.timeUp, Tumble.reverses, h]

theorem guardUp_of_length {t : Tumble} {n : Nat} (hn : t.guardLength = some n) :
    t.guardUp = (t.state.running && t.runTiming && decide (n * 1000 ≤ t.runTimer)) := by
  unfold Tumble.guardUp; rw [hn]

theorem guardUp_eq_false_of_not_running {t : Tumble} (h : t.state.running = false) : t.guardUp = false := by
  unfold Tumble.guardUp
  split
  · rw [h]; rfl
  · rfl

/-! ### The moment of the minimum run (R111) -/

/-- Where the normal end is due the run ends normally (log 24); otherwise a tangle count at the trigger ends it early. -/
theorem minimumRunReached_eq (hrev : (s.drum d).tumble.reverses = true) (htiming : (s.drum d).tumble.runTiming = true)
    (hmin : (s.drum d).tumble.values.minRun * 1000 ≤ (s.drum d).tumble.runTimer) :
    minimumRunReached d s =
      if (s.drum d).tumble.timeUp then endNormalRun d s
      else if (s.drum d).tumble.values.trigger ≤ (s.drum d).tangle.count then endEarlyRun d s
      else s := by
  unfold minimumRunReached DrumState.earlyTest
  simp [hrev, htiming, hmin]

/-- No timed end of a run acts outside a run. -/
theorem run_ends_wait_for_a_run (hrun : s.resetHeld = false) (h : (s.drum d).tumble.state.running = false) :
    exec (.statusWaitExpiry d) s = .next s ∧ exec (.runLengthEnd d) s = .next s ∧
      exec (.maximumRunSeconds d) s = .next s ∧ exec (.minimumRunReached d) s = .next s ∧
      exec (.guardTumbleEnd d) s = .next s := by
  have htime := timeUp_eq_false_of_not_running h
  exact ⟨exec_onlyIf_neg (exec_statusWaitExpiry hrun) (by rw [h]; rfl),
    exec_onlyIf_neg (exec_runLengthEnd hrun) (by rw [htime, Bool.and_false]),
    exec_onlyIf_neg (exec_maximumRunSeconds hrun) (by rw [htime, Bool.and_false]),
    exec_onlyIf_neg (exec_minimumRunReached hrun) (by simp [Tumble.reverses, h]),
    exec_onlyIf_neg (exec_guardTumbleEnd hrun) (guardUp_eq_false_of_not_running h)⟩

/-- A guard tumble's length ends it in DECEL with target STOPPED, its mark kept until it stops (R104). -/
theorem exec_guardTumbleEnd_due {n : Nat} (hrun : s.resetHeld = false) (hn : (s.drum d).tumble.guardLength = some n)
    (hgo : (s.drum d).tumble.state.running = true) (htiming : (s.drum d).tumble.runTiming = true)
    (hlength : n * 1000 ≤ (s.drum d).tumble.runTimer) :
    exec (.guardTumbleEnd d) s = .next (enterDecel d .stopped s) :=
  exec_onlyIf_pos (exec_guardTumbleEnd hrun) (by rw [guardUp_of_length hn]; simp [hgo, htiming, hlength])

end

/-- Settles O46: each timed end by its command's trigger, the minimum run by the two tests it makes in their order. -/
theorem runsEndByLengthOrEarly : Obligations.RunsEndByLengthOrEarly := by
  refine ⟨fun s d hrun => ⟨fun hgo hwait hup => ?_, fun p hp hbase hgo hrev hguard htiming hlength => ?_,
    fun n hn hgo htiming hlength => ?_, run_ends_wait_for_a_run hrun⟩,
    fun s d hrun hrev htiming hmin => ⟨fun hup => ?_, fun hup hcount => ?_, fun hup hcount => ?_⟩⟩
  · exact exec_onlyIf_pos (exec_statusWaitExpiry hrun) (by rw [hgo, hwait, State.portUp, hup]; rfl)
  · refine ⟨endNormalRun d s, ?_, besides_endNormalRun d s, endedNormally_endNormalRun d s⟩
    have hreverses := reverses_iff.mpr ⟨hgo, hrev, hguard⟩
    simp only [List.mem_cons, List.not_mem_nil, or_false] at hp
    rcases hp with rfl | rfl
    · have hup := timeUp_iff.mpr ⟨hreverses, htiming, by rw [Tumble.timedLength, hbase]; exact hlength⟩
      exact exec_onlyIf_pos (exec_runLengthEnd hrun) (by rw [hbase, hup]; rfl)
    · have hup := timeUp_iff.mpr ⟨hreverses, htiming, by rw [Tumble.timedLength, hbase]; exact hlength⟩
      exact exec_onlyIf_pos (exec_maximumRunSeconds hrun) (by rw [hbase, hup]; rfl)
  · obtain ⟨htumble, -, hdrive⟩ := enterDecel_writes d .stopped s
    refine ⟨_, exec_guardTumbleEnd_due hrun hn hgo htiming hlength, besides_enterDecel d .stopped s, hdrive, ?_⟩
    rw [htumble]
    exact ⟨rfl, rfl, hn, (keeps_enterDecel d .stopped s).2.2.2.2.2.2.2.1⟩
  all_goals
    have hexec := exec_onlyIf_pos (exec_minimumRunReached (d := d) hrun) (by simp [hrev, htiming, hmin])
    rw [minimumRunReached_eq hrev htiming hmin, hup] at hexec
  · rw [if_pos rfl] at hexec
    exact ⟨_, hexec, besides_endNormalRun d s, endedNormally_endNormalRun d s⟩
  · rw [if_neg Bool.false_ne_true, if_neg (not_le.mpr hcount)] at hexec
    exact hexec
  · rw [if_neg Bool.false_ne_true, if_pos hcount] at hexec
    exact ⟨_, hexec, besides_endEarlyRun d s, endedEarly_endEarlyRun d s⟩

end Sys2Proof.Machine
end

section
/-! What the rules of the DRIVE entry read of a drum (R94 to R97), and the operations that leave it alone. -/

namespace Sys2Proof.Machine

/-! ### The part of a drum that the rules of the DRIVE entry read -/

/-- The gate mode, the cycle state, the DRIVE entry with its stop time, and of the tumble controller the state, the target, the
held status, the dwell, the recover delay, the profile values and the dwell multiplier. -/
structure Driving where
  gate : GateMode
  cycle : CycleState
  drive : DriveCmd
  stopTime : Clock
  state : TumbleState
  target : Option Target
  status : Option DriveStatus
  dwell : Timer
  recoverDelay : Timer
  values : Profile
  multiplier : Nat

def DrumState.driving (D : DrumState) : Driving where
  gate := D.config.gateMode
  cycle := D.cycle.state
  drive := D.port.image.drive
  stopTime := D.port.image.stopTime
  state := D.tumble.state
  target := D.tumble.target
  status := D.tumble.status
  dwell := D.tumble.dwell
  recoverDelay := D.tumble.recoverDelay
  values := D.tumble.values
  multiplier := D.tumble.multiplier

def State.driving (s : State) (d : Drum) : Driving := (s.drum d).driving

section
variable {s t : State} {d : Drum}

theorem driving_of_drum (h : t.drum d = s.drum d) : t.driving d = s.driving d := by unfold State.driving; rw [h]

theorem driving_of_drums (h : t.drums = s.drums) (d : Drum) : t.driving d = s.driving d :=
  driving_of_drum (by unfold State.drum; rw [h])

/-- Another drum's operation. -/
theorem driving_of_besides_ne {e : Drum} (hb : t.besides d = s.besides d) (he : e ≠ d) : t.driving e = s.driving e :=
  driving_of_drum (drum_of_besides hb he)

theorem driving_onPort {f : Port → Port} (hdrive : (f (s.drum d).port).image.drive = (s.drum d).port.image.drive)
    (hstop : (f (s.drum d).port).image.stopTime = (s.drum d).port.image.stopTime) : (s.onPort d f).driving d = s.driving d := by
  unfold State.driving DrumState.driving
  rw [drum_onPort_self]
  dsimp only
  rw [hdrive, hstop]

theorem driving_onCycle {f : Cycle → Cycle} (h : (f (s.drum d).cycle).state = (s.drum d).cycle.state) :
    (s.onCycle d f).driving d = s.driving d := by
  unfold State.driving DrumState.driving
  rw [drum_onCycle_self]
  dsimp only
  rw [h]

end

/-- A change of the tumble controller shows in what is read of it alone. -/
theorem driving_onTumble (d : Drum) (f : Tumble → Tumble) (s : State) :
    (s.onTumble d f).driving d =
      { s.driving d with
        state := (f (s.drum d).tumble).state
        target := (f (s.drum d).tumble).target
        status := (f (s.drum d).tumble).status
        dwell := (f (s.drum d).tumble).dwell
        recoverDelay := (f (s.drum d).tumble).recoverDelay
        values := (f (s.drum d).tumble).values
        multiplier := (f (s.drum d).tumble).multiplier } := by
  unfold State.driving; rw [drum_onTumble_self]; rfl

@[simp] theorem driving_onTangle (d : Drum) (f : Tangle → Tangle) (s : State) : (s.onTangle d f).driving d = s.driving d := by
  unfold State.driving; rw [drum_onTangle_self]; rfl

@[simp] theorem driving_onBurner (d : Drum) (f : Burner → Burner) (s : State) : (s.onBurner d f).driving d = s.driving d := by
  unfold State.driving; rw [drum_onBurner_self]; rfl

@[simp] theorem driving_onDryness (d : Drum) (f : Dryness → Dryness) (s : State) :
    (s.onDryness d f).driving d = s.driving d := by
  unfold State.driving; rw [drum_onDryness_self]; rfl

@[simp] theorem driving_onHeat (d : Drum) (f : Heat → Heat) (s : State) : (s.onHeat f).driving d = s.driving d := rfl

@[simp] theorem driving_onFlight (d : Drum) (f : Flight → Flight) (s : State) : (s.onFlight f).driving d = s.driving d := rfl

@[simp] theorem driving_onRouter (d : Drum) (f : Router → Router) (s : State) : (s.onRouter f).driving d = s.driving d := rfl

@[simp] theorem driving_onCabinet (d : Drum) (f : Cabinet → Cabinet) (s : State) : (s.onCabinet f).driving d = s.driving d :=
  rfl

@[simp] theorem driving_raise (src : Block) (k : EventKind) (d e : Drum) (x : Option Byte) (s : State) :
    (raise src k e x s).driving d = s.driving d := rfl

@[simp] theorem driving_handIncrement (src : Block) (d e : Drum) (a : Fin 8) (s : State) :
    (handIncrement src e a s).driving d = s.driving d := rfl

/-! ### Writes of the command image -/

theorem driving_onImage {d : Drum} {f : Image → Image} {s : State}
    (hdrive : (f (s.drum d).port.image).drive = (s.drum d).port.image.drive)
    (hstop : (f (s.drum d).port.image).stopTime = (s.drum d).port.image.stopTime) :
    (s.onImage d f).driving d = s.driving d :=
  driving_onPort hdrive hstop

@[simp] theorem driving_writeFan (d : Drum) (on : Bool) (s : State) : (writeFan d on s).driving d = s.driving d := by
  unfold writeFan
  dsimp only
  split
  · rfl
  · exact driving_onImage rfl rfl

@[simp] theorem driving_writeResetLockout (d : Drum) (s : State) : (writeResetLockout d s).driving d = s.driving d :=
  driving_onImage rfl rfl

@[simp] theorem driving_writeFlame (d : Drum) (n : Nat) (s : State) : (writeFlame d n s).driving d = s.driving d := by
  unfold writeFlame
  dsimp only
  split
  · rfl
  · exact driving_onImage rfl rfl

/-- A write of the DRIVE entry shows in the entry and, from RUN to STOP, in its stop time (R15). -/
theorem driving_writeDrive (d : Drum) (v : DriveCmd) (s : State) :
    (writeDrive d v s).driving d =
      { s.driving d with
        drive := v
        stopTime :=
          if v = .stop ∧ (s.drum d).port.image.drive ≠ .stop then s.clock else (s.drum d).port.image.stopTime } := by
  have hconfig := config_of_besides (besides_writeDrive d v s) d
  unfold State.driving DrumState.driving
  rw [hconfig, writeDrive_drive, writeDrive_stopTime]
  simp

@[simp] theorem driving_settleStandby (d : Drum) (s : State) : (settleStandby d s).driving d = s.driving d := by
  unfold State.driving settleStandby; rw [drum_onDrum_self]; rfl

@[simp] theorem driving_reloadStandby (d e : Drum) (s : State) : (reloadStandby e s).driving d = s.driving d := by
  by_cases h : d = e
  · subst h
    unfold State.driving reloadStandby
    rw [drum_onDrum_self]
    rfl
  · exact driving_of_besides_ne (besides_reloadStandby e s) h

/-- The burner supervisor's recomputation, of this drum or another. -/
@[simp] theorem driving_burnerUpdate (d e : Drum) (s : State) : (burnerUpdate e s).driving d = s.driving d := by
  by_cases h : d = e
  · subst h
    obtain ⟨m, hm⟩ := drum_burnerUpdate d s
    unfold State.driving
    rw [hm]
    rfl
  · exact driving_of_besides_ne (besides_burnerUpdate e s) h

/-! ### The burner supervisor's operations -/

@[simp] theorem driving_setWanted (d : Drum) (w : Nat) (s : State) : (setWanted d w s).driving d = s.driving d := by
  simp [setWanted]

@[simp] theorem driving_setReading (d : Drum) (x : Discrete) (v : Bool) (s : State) :
    (setReading d x v s).driving d = s.driving d := by
  unfold setReading
  rw [driving_burnerUpdate]
  exact driving_onPort rfl rfl

@[simp] theorem driving_setRest (d : Drum) (v : Bool) (s : State) : (setRest d v s).driving d = s.driving d := by
  simp [setRest]

@[simp] theorem driving_burnerNotice (d : Drum) (s : State) : (burnerNotice d s).driving d = s.driving d := by
  simp [burnerNotice]

@[simp] theorem driving_takeInlet (d : Drum) (v : Temperature) (s : State) : (takeInlet d v s).driving d = s.driving d := by
  unfold takeInlet
  dsimp only
  split <;> simp

@[simp] theorem driving_judgeExhaust (d : Drum) (v : Temperature) (s : State) :
    (judgeExhaust d v s).driving d = s.driving d := by
  unfold judgeExhaust
  dsimp only
  (repeat' split) <;> simp

@[simp] theorem driving_enterBurning (d : Drum) (s : State) : (enterBurning d s).driving d = s.driving d := by
  simp [enterBurning]

@[simp] theorem driving_retryDelayEnds (d : Drum) (s : State) : (retryDelayEnds d s).driving d = s.driving d := by
  simp [retryDelayEnds]

@[simp] theorem driving_burnerReset (d : Drum) (s : State) : (burnerReset d s).driving d = s.driving d := by
  simp [burnerReset]

@[simp] theorem driving_clearLockout (d : Drum) (s : State) : (clearLockout d s).driving d = s.driving d := by
  simp [clearLockout]

@[simp] theorem driving_setLockout (d : Drum) (p : LockoutPath) (s : State) :
    (setLockout d p s).driving d = s.driving d := by
  simp [setLockout]

/-! ### The allocator's operations, at every drum -/

@[simp] theorem driving_onShare (d e : Drum) (f : HeatShare → HeatShare) (s : State) :
    (s.onShare e f).driving d = s.driving d := rfl

@[simp] theorem driving_setGranted (d e : Drum) (g : Nat) (s : State) : (setGranted e g s).driving d = s.driving d :=
  driving_burnerUpdate d e _

@[simp] theorem driving_dropCopy (d e : Drum) (s : State) : (dropCopy e s).driving d = s.driving d := by
  unfold dropCopy
  split <;> rfl

@[simp] theorem driving_lowerGrant (d e : Drum) (g : Nat) (s : State) : (lowerGrant e g s).driving d = s.driving d := by
  unfold lowerGrant
  rw [driving_setGranted]
  split <;> rfl

theorem driving_grantRound {s t : State} (h : grantRound s = some t) (d : Drum) : t.driving d = s.driving d := by
  unfold grantRound grantEntry at h
  (repeat' split at h) <;> cases h <;> exact driving_setGranted d _ _ _

theorem driving_of_grantRounds {s t : State} (h : GrantRounds s t) (d : Drum) : t.driving d = s.driving d := by
  induction h with
  | stop _ => rfl
  | round h _ ih => rw [ih, driving_grantRound h]

@[simp] theorem driving_grantAttempt (d : Drum) (s : State) : (grantAttempt s).driving d = s.driving d :=
  driving_of_grantRounds (grantAttempt_spec s) d

@[simp] theorem driving_raisedDemand (d e : Drum) (w : Nat) (s : State) :
    (raisedDemand e w s).driving d = s.driving d := by
  unfold raisedDemand
  split <;> rfl

@[simp] theorem driving_loweredDemand (d e : Drum) (w : Nat) (s : State) :
    (loweredDemand e w s).driving d = s.driving d := by
  unfold loweredDemand
  dsimp only
  split <;> simp

@[simp] theorem driving_takeDemand (d e : Drum) (w : Nat) (s : State) : (takeDemand e w s).driving d = s.driving d := by
  unfold takeDemand
  dsimp only
  rw [driving_grantAttempt, apply_ite (fun t : State => t.driving d), driving_raisedDemand, driving_loweredDemand, ite_self,
    driving_onShare]

@[simp] theorem driving_releaseDrum (d e : Drum) (s : State) : (releaseDrum e s).driving d = s.driving d := by
  unfold releaseDrum
  dsimp only
  rw [driving_grantAttempt, driving_onShare]
  split <;> simp

@[simp] theorem driving_revokeStep (d e : Drum) (s : State) : (revokeStep e s).driving d = s.driving d := by
  have hrequeue (t : State) : (requeue e t).driving d = t.driving d := by
    unfold requeue
    dsimp only
    split <;> rfl
  simp [revokeStep, hrequeue]

@[simp] theorem driving_revokeTo (d : Drum) (b n : Nat) (s : State) : (revokeTo b n s).driving d = s.driving d := by
  induction n generalizing s with
  | zero => rfl
  | succ n ih =>
    unfold revokeTo
    (repeat' split) <;> simp [ih]

@[simp] theorem driving_setBudget (d : Drum) (b : Nat) (s : State) : (setBudget b s).driving d = s.driving d := by
  simp [setBudget]

@[simp] theorem driving_judgeWait (d e : Drum) (s : State) : (judgeWait e s).driving d = s.driving d := by
  unfold judgeWait
  (repeat' split) <;> rfl

@[simp] theorem driving_setWaitLimit (d : Drum) (n : Nat) (s : State) : (setWaitLimit n s).driving d = s.driving d := by
  unfold setWaitLimit
  split
  · rfl
  · exact List.foldlRecOn (motive := fun t : State => t.driving d = s.driving d) _ _ rfl fun t ht e _ =>
      (driving_judgeWait d e t).trans ht

/-! ### The drum port's operations -/

@[simp] theorem driving_setPortState (d : Drum) (st : PortState) (s : State) :
    (setPortState d st s).driving d = s.driving d := by
  unfold setPortState
  rw [driving_settleStandby]
  exact driving_onPort rfl rfl

@[simp] theorem driving_leaveUp (d : Drum) (st : PortState) (s : State) : (leaveUp d st s).driving d = s.driving d := by
  unfold leaveUp
  rw [driving_setPortState]
  exact driving_onPort rfl rfl

@[simp] theorem driving_enterUp (d : Drum) (s : State) : (enterUp d s).driving d = s.driving d := by
  unfold enterUp
  rw [driving_settleStandby, driving_raise]
  refine driving_onPort ?_ ?_ <;> dsimp only <;> split <;> rfl

@[simp] theorem driving_takeDiscretes (d : Drum) (raw : Readings) (s : State) :
    (takeDiscretes d raw s).driving d = s.driving d :=
  driving_onPort rfl rfl

@[simp] theorem driving_clearHold (d : Drum) (s : State) : (clearHold d s).driving d = s.driving d := by
  refine driving_onPort ?_ ?_ <;> dsimp only <;> split <;> rfl

@[simp] theorem driving_beginSend (d : Drum) (s : State) : (beginSend d s).driving d = s.driving d := by
  have hclear (x : Sender) (i : Image) : (i.clearMarks x).drive = i.drive ∧ (i.clearMarks x).stopTime = i.stopTime := by
    cases x <;> exact ⟨rfl, rfl⟩
  unfold beginSend
  dsimp only
  split
  · exact driving_onImage rfl rfl
  · exact driving_onPort (hclear _ _).1 (hclear _ _).2

@[simp] theorem driving_refreshExpires (d : Drum) (s : State) : (refreshExpires d s).driving d = s.driving d := by
  refine driving_onPort ?_ ?_ <;> dsimp only <;> split <;> rfl

@[simp] theorem driving_testArmed (d : Drum) (s : State) : (testArmed d s).driving d = s.driving d :=
  driving_onPort rfl rfl

@[simp] theorem driving_leaveTest (d : Drum) (o : TestOutcome) (s : State) : (leaveTest d o s).driving d = s.driving d := by
  refine (driving_onPort ?_ ?_).trans (driving_setPortState d _ s) <;> rfl

@[simp] theorem driving_closeInterval (d : Drum) (n : Nat) (s : State) : (closeInterval d n s).driving d = s.driving d := by
  unfold closeInterval
  dsimp only
  split
  · rw [driving_raise]; exact driving_onPort rfl rfl
  · exact driving_onPort rfl rfl

@[simp] theorem driving_checkerCloses (d : Drum) (n : Nat) (s : State) : (checkerCloses d n s).driving d = s.driving d := by
  unfold checkerCloses
  dsimp only
  rw [driving_closeInterval]
  exact driving_onPort rfl rfl

@[simp] theorem driving_endTest (d : Drum) (s : State) : (endTest d s).driving d = s.driving d := by
  unfold endTest
  dsimp only
  split <;> simp

/-- A change of a port that leaves its image alone, in this drum or another. -/
theorem driving_onPort_image {d e : Drum} {f : Port → Port} {s : State} (h : ∀ p, (f p).image = p.image) :
    (s.onPort e f).driving d = s.driving d := by
  by_cases he : d = e
  · subst he; exact driving_onPort (by rw [h]) (by rw [h])
  · exact driving_of_besides_ne (besides_onPort e f s) he

@[simp] theorem driving_takeFrame (d e : Drum) (bytes : List Byte) (s : State) :
    (takeFrame e bytes s).driving d = s.driving d := by
  unfold takeFrame
  dsimp only
  split
  · exact driving_onPort_image fun _ => rfl
  · rw [driving_onFlight]
    split
    · rfl
    · exact driving_onPort_image fun _ => rfl

/-! ### Requests -/

/-- The engine's part of an answer: the inbox, the reply and a standby timer. -/
theorem driving_answer (d : Drum) (r : Request) (rest : List Request) (h : State → Answer) (s : State) :
    (answer r rest h s).driving d = (h (s.taken rest)).state.driving d := by
  unfold answer
  dsimp only
  rw [driving_onCabinet]
  split
  · rw [driving_reloadStandby]; rfl
  · rfl

/-! ### The cycle controller's operations -/

@[simp] theorem driving_joinCause (d : Drum) (c : PauseCause) (s : State) : (joinCause d c s).driving d = s.driving d := by
  refine driving_onCycle ?_
  split <;> rfl

@[simp] theorem driving_setReason (d : Drum) (r : Reason) (s : State) : (setReason d r s).driving d = s.driving d :=
  driving_onCycle rfl

@[simp] theorem driving_cycleAirflowProven (d : Drum) (s : State) : (cycleAirflowProven d s).driving d = s.driving d := by
  unfold cycleAirflowProven
  dsimp only
  split
  · exact driving_onCycle rfl
  all_goals rfl

/-- A change of cycle state shows in the cycle state alone. -/
theorem driving_setCycle (d : Drum) (new : CycleState) (f : Cycle → Cycle) (s : State) :
    (setCycle d new f s).driving d = { s.driving d with cycle := new } := by
  have hconfig := config_of_besides (besides_setCycle d new f s) d
  have hdrive : ((setCycle d new f s).drum d).port.image.drive = (s.drum d).port.image.drive := by simp [setCycle]
  unfold State.driving DrumState.driving
  rw [hconfig, (setCycle_cycle d new f s).1, hdrive, stopTime_setCycle, tumble_setCycle]

/-! ### The tumble controller's operations -/

@[simp] theorem driving_firstStart (d : Drum) (n : Nat) (s : State) : (firstStart d n s).driving d = s.driving d :=
  driving_onTumble d _ s

@[simp] theorem driving_startMarked (d : Drum) (n : Nat) (s : State) : (startMarked d n s).driving d = s.driving d :=
  driving_onTumble d _ s

@[simp] theorem driving_guardTumbleDone (d : Drum) (s : State) : (guardTumbleDone d s).driving d = s.driving d := by
  unfold guardTumbleDone
  split
  · rw [driving_writeFan]; exact driving_onCycle rfl
  · rfl

@[simp] theorem driving_takeCurrent (d : Drum) (v : Nat) (s : State) : (takeCurrent d v s).driving d = s.driving d := by
  unfold takeCurrent
  dsimp only
  split <;> simp

/-- A revolution counter is taken for the run's length, not for the DRIVE entry. -/
theorem driving_counted {d : Drum} {n : BitVec 16} {f : Tumble → Tumble} {s : State}
    (h : f (s.drum d).tumble = (s.drum d).tumble.takeCounter n) : (s.onTumble d f).driving d = s.driving d := by
  rw [driving_onTumble, h]
  unfold Tumble.takeCounter
  split <;> rfl

theorem driving_setTarget (d : Drum) (target : Target) (s : State) :
    (setTarget d target s).driving d = { s.driving d with target := some target } :=
  driving_onTumble d _ s

theorem driving_clearPersistence (d : Drum) (s : State) :
    (clearPersistence d s).driving d = { s.driving d with multiplier := 1 } := by
  unfold clearPersistence
  rw [driving_onTangle, driving_onTumble]
  rfl

/-- A change to a state outside a run shows in the tumble controller alone. -/
theorem driving_leaveRun (d : Drum) (f : Tumble → Tumble) (s : State) :
    (leaveRun d f s).driving d = (s.onTumble d f).driving d := by
  unfold leaveRun
  rw [driving_burnerUpdate, driving_onTangle]

theorem driving_enterStopped (d : Drum) (s : State) :
    (enterStopped d s).driving d =
      { s.driving d with state := .stopped, target := none, dwell := none, recoverDelay := none } := by
  have hleave := driving_leaveRun d (fun t => { t.timersOff with state := .stopped, target := none, guardLength := none }) s
  rw [driving_onTumble] at hleave
  unfold enterStopped
  dsimp only
  split
  · rw [driving_guardTumbleDone]; exact hleave
  · exact hleave

/-- Entry to DECEL writes STOP and stops every timer but the decel timer (R97). -/
theorem driving_enterDecel (d : Drum) (target : Target) (s : State) :
    ∃ time, (enterDecel d target s).driving d =
      { s.driving d with
        drive := .stop, stopTime := time, state := .decel, target := some target, dwell := none, recoverDelay := none } := by
  obtain ⟨-, -, -, -, -, -, -, -, -, htumble, -⟩ := keeps_writeDrive d .stop s
  refine ⟨((writeDrive d .stop s).driving d).stopTime, ?_⟩
  unfold enterDecel
  rw [driving_leaveRun, driving_onTumble, htumble, driving_writeDrive]
  rfl

end Sys2Proof.Machine
end

section
/-! What each operation that begins no run, no dwell and no recover delay keeps of the rules of the DRIVE entry (R94 to R105). -/

namespace Sys2Proof.Machine

/-! ### The rules -/

/-- A cycle under way, in which the tumble controller need not come to rest. -/
def CycleState.underWay : CycleState → Bool
  | .purge | .drying | .cooling | .guarding | .paused => true
  | .vacant | .ready | .done | .halted => false

theorem underWay_eq_false_iff {c : CycleState} :
    c.underWay = false ↔ c ∈ [CycleState.vacant, .ready, .done, .halted] := by
  cases c <;> decide

theorem idle_of_underWay {c : CycleState} (h : c.underWay = true) : c.idle = false := by
  cases c <;> first | rfl | exact nomatch h

namespace Driving

/-- The tumble controller rests or is on its way to rest. -/
def comesToRest (x : Driving) : Prop :=
  x.state = .stopped ∨ ((x.state = .decel ∨ x.state = .recover) ∧ x.target = some .stopped ∧ x.recoverDelay = none)

/-- The rules of DriveFollows but for a controller that must come to rest. -/
structure Orderly (x : Driving) : Prop where
  service : x.gate = .service → x.cycle.idle = true
  fwd : x.gate = .auto → x.state = .runFwd → ∃ v, x.drive = .run .fwd v
  rev : x.gate = .auto → x.state = .runRev → ∃ v, x.drive = .run .rev v
  still : x.gate = .auto → x.state.running = false → x.drive = .stop
  delay : x.recoverDelay ≠ none → x.state = .recover
  dwellTime : 2 ≤ x.values.dwell
  recoverTime : 2 ≤ x.values.recoverDelay
  factor : 1 ≤ x.multiplier

/-- The rules of DriveFollows. -/
structure Follows (x : Driving) : Prop extends Orderly x where
  rests : x.cycle.underWay = false → x.comesToRest

/-- Since x₀ the DRIVE entry has been left alone or holds STOP, and no dwell and no recover delay has begun. -/
structure Calm (x₀ x : Driving) : Prop extends Orderly x where
  drives : x.drive = .stop ∨ x.drive = x₀.drive
  dwells : x.state = .dwell → x₀.state = .dwell ∧ x.dwell = x₀.dwell
  delays : x.recoverDelay = none ∨ x.recoverDelay = x₀.recoverDelay

/-- Calm, with a controller that comes to rest outside a cycle under way. -/
structure Quiet (x₀ x : Driving) : Prop extends Calm x₀ x where
  rests : x.cycle.underWay = false → x.comesToRest

theorem Quiet.follows {x₀ x : Driving} (h : x₀.Quiet x) : x.Follows := ⟨h.toOrderly, h.rests⟩

theorem Follows.quiet {x : Driving} (h : x.Follows) : x.Quiet x :=
  ⟨⟨h.toOrderly, .inr rfl, fun hs => ⟨hs, rfl⟩, .inr rfl⟩, h.rests⟩

end Driving

theorem driveFollows_iff {s : State} {d : Drum} : DriveFollows s d ↔ (s.driving d).Follows := by
  constructor
  · rintro ⟨hservice, hrests, hauto, hdelay, hdwell, hrecover, hfactor⟩
    exact ⟨⟨hservice, fun hg => (hauto hg).1, fun hg => (hauto hg).2.1, fun hg => (hauto hg).2.2, hdelay, hdwell, hrecover,
      hfactor⟩, fun h => hrests (underWay_eq_false_iff.mp h)⟩
  · rintro ⟨⟨hservice, hfwd, hrev, hstill, hdelay, hdwell, hrecover, hfactor⟩, hrests⟩
    exact ⟨hservice, fun h => hrests (underWay_eq_false_iff.mpr h), fun hg => ⟨hfwd hg, hrev hg, hstill hg⟩, hdelay, hdwell,
      hrecover, hfactor⟩

namespace Driving

section
variable {x₀ x : Driving}

/-- A controller that is not coming to rest belongs to a cycle under way, in AUTO. -/
theorem Follows.underWay (h : x.Follows) (hr : ¬x.comesToRest) : x.cycle.underWay = true := by
  cases hc : x.cycle.underWay with
  | true => rfl
  | false => exact absurd (h.rests hc) hr

theorem Orderly.auto (h : x.Orderly) (hi : x.cycle.idle = false) : x.gate = .auto := by
  cases hg : x.gate with
  | auto => rfl
  | service => exact absurd (h.service hg) (by simp [hi])

theorem Follows.auto (h : x.Follows) (hr : ¬x.comesToRest) : x.gate = .auto :=
  h.toOrderly.auto (idle_of_underWay (h.underWay hr))

theorem not_comesToRest_of_running (h : x.state.running = true) : ¬x.comesToRest := by
  rintro (hs | ⟨hs | hs, -⟩) <;> rw [hs] at h <;> exact nomatch h

theorem not_comesToRest_of_dwell (h : x.state = .dwell) : ¬x.comesToRest := by
  rintro (hs | ⟨hs | hs, -⟩) <;> rw [hs] at h <;> exact nomatch h

theorem not_comesToRest_of_target (hs : x.state ≠ .stopped) (ht : x.target ≠ some .stopped) : ¬x.comesToRest := by
  rintro (h | ⟨-, h, -⟩)
  · exact hs h
  · exact ht h

/-! ### The changes that keep the rules -/

theorem Calm.withCycle (h : x₀.Calm x) {new : CycleState} (hn : x.gate = .service → new.idle = true) :
    x₀.Calm { x with cycle := new } :=
  { h with service := hn }

theorem Calm.withFactor (h : x₀.Calm x) {n : Nat} (hn : 1 ≤ n) : x₀.Calm { x with multiplier := n } :=
  { h with factor := hn }

theorem Quiet.withFactor (h : x₀.Quiet x) {n : Nat} (hn : 1 ≤ n) : x₀.Quiet { x with multiplier := n } :=
  ⟨h.toCalm.withFactor hn, h.rests⟩

/-- The held status is no part of the rules. -/
theorem Quiet.withStatus (h : x₀.Quiet x) (st : Option DriveStatus) : x₀.Quiet { x with status := st } :=
  { h with }

theorem Calm.withTarget (h : x₀.Calm x) (target : Target) : x₀.Calm { x with target := some target } :=
  { h with }

/-- STOP written outside a run. -/
theorem Calm.withStop (h : x₀.Calm x) (time : Clock) (hs : x.state.running = false) :
    x₀.Calm { x with drive := .stop, stopTime := time } :=
  { h with
    fwd := fun _ hf => by rw [show x.state = .runFwd from hf] at hs; exact nomatch hs
    rev := fun _ hf => by rw [show x.state = .runRev from hf] at hs; exact nomatch hs
    still := fun _ _ => rfl
    drives := .inl rfl }

/-- A controller that stood outside a run leaves its state for one with no timer of R94 or R101. -/
theorem Calm.leaves (h : x₀.Calm x) (hx : x.state.running = false) {st : TumbleState} (target : Option Target)
    (hs : st.running = false) (hd : st ≠ .dwell) :
    x₀.Calm { x with state := st, target := target, dwell := none, recoverDelay := none } :=
  { h with
    fwd := fun _ hf => by rw [show st = .runFwd from hf] at hs; exact nomatch hs
    rev := fun _ hf => by rw [show st = .runRev from hf] at hs; exact nomatch hs
    still := fun hg _ => h.still hg hx
    delay := fun hr => absurd rfl hr
    dwells := fun hf => absurd hf hd
    delays := .inl rfl }

/-- A controller leaves its state, a run or not, with STOP written. -/
theorem Calm.halts (h : x₀.Calm x) (time : Clock) {st : TumbleState} (target : Option Target)
    (hs : st.running = false) (hd : st ≠ .dwell) :
    x₀.Calm { x with drive := .stop, stopTime := time, state := st, target := target, dwell := none, recoverDelay := none } :=
  { h with
    fwd := fun _ hf => by rw [show st = .runFwd from hf] at hs; exact nomatch hs
    rev := fun _ hf => by rw [show st = .runRev from hf] at hs; exact nomatch hs
    still := fun _ _ => rfl
    delay := fun hr => absurd rfl hr
    drives := .inl rfl
    dwells := fun hf => absurd hf hd
    delays := .inl rfl }

theorem running_of_comesToRest (h : x.comesToRest) : x.state.running = false := by
  obtain hs | ⟨hs | hs, -⟩ := h <;> rw [hs] <;> rfl

/-- A new gate mode for a drum without a cycle, with STOP in the DRIVE entry where it is AUTO. -/
theorem Calm.withGate (h : x₀.Calm x) {g : GateMode} (hi : x.cycle.idle = true) (hr : x.comesToRest)
    (hg : g = .auto → x.drive = .stop) : x₀.Calm { x with gate := g } :=
  { h with
    service := fun _ => hi
    fwd := fun _ hf => absurd hr (not_comesToRest_of_running (by rw [show x.state = .runFwd from hf]; rfl))
    rev := fun _ hf => absurd hr (not_comesToRest_of_running (by rw [show x.state = .runRev from hf]; rfl))
    still := fun ha _ => hg ha }

end

end Driving

section
variable {x₀ : Driving} {s t : State} {d : Drum}

theorem quiet_of_driving (h : t.driving d = s.driving d) (hk : x₀.Quiet (s.driving d)) : x₀.Quiet (t.driving d) := by
  rw [h]; exact hk

theorem calm_of_driving (h : t.driving d = s.driving d) (hk : x₀.Calm (s.driving d)) : x₀.Calm (t.driving d) := by
  rw [h]; exact hk

/-! ### The tumble controller -/

theorem calm_enterDecel (hk : x₀.Calm (s.driving d)) (target : Target) : x₀.Calm ((enterDecel d target s).driving d) := by
  obtain ⟨time, h⟩ := driving_enterDecel d target s
  rw [h]
  exact hk.halts time _ rfl nofun

theorem quiet_enterStopped (hk : x₀.Calm (s.driving d)) (hs : (s.drum d).tumble.state.running = false) :
    x₀.Quiet ((enterStopped d s).driving d) := by
  rw [driving_enterStopped]
  exact ⟨hk.leaves hs none rfl nofun, fun _ => .inl rfl⟩

/-- STOP written, then STOPPED entered: a trip. -/
theorem quiet_enterStopped_writeDrive (hk : x₀.Calm (s.driving d)) :
    x₀.Quiet ((enterStopped d (writeDrive d .stop s)).driving d) := by
  rw [driving_enterStopped, driving_writeDrive]
  exact ⟨hk.halts _ none rfl nofun, fun _ => .inl rfl⟩

/-- A run that ends in DECEL, in a cycle under way or with target STOPPED. -/
theorem quiet_enterDecel (hk : x₀.Calm (s.driving d)) {target : Target}
    (h : target = .stopped ∨ (s.drum d).cycle.state.underWay = true) : x₀.Quiet ((enterDecel d target s).driving d) := by
  refine ⟨calm_enterDecel hk target, fun hc => ?_⟩
  obtain ⟨time, hd⟩ := driving_enterDecel d target s
  rw [hd] at hc ⊢
  obtain rfl | h := h
  · exact .inr ⟨.inl rfl, rfl, rfl⟩
  · exact nomatch h.symm.trans hc

/-- A target set in a controller that is on its way to rest or in a cycle under way. -/
theorem quiet_setTarget (hk : x₀.Calm (s.driving d)) {target : Target}
    (h : ((s.driving d).state = .decel ∨ (s.driving d).state = .recover) ∧ target = .stopped ∧
        (s.driving d).recoverDelay = none ∨ (s.driving d).cycle.underWay = true) :
    x₀.Quiet ((setTarget d target s).driving d) := by
  rw [driving_setTarget]
  refine ⟨hk.withTarget target, fun hc => ?_⟩
  obtain ⟨hs, rfl, hr⟩ | h := h
  · exact .inr ⟨hs, rfl, hr⟩
  · exact nomatch h.symm.trans hc

/-- HOLD brings the controller to rest from any state (R103). -/
theorem quiet_tumbleHold (hk : x₀.Calm (s.driving d)) : x₀.Quiet ((tumbleHold d s).driving d) := by
  unfold tumbleHold
  dsimp only
  cases hs : (s.drum d).tumble.state <;> dsimp only
  case stopped => exact ⟨hk, fun _ => .inl hs⟩
  case runFwd | runRev => exact quiet_enterDecel hk (.inl rfl)
  case dwell => exact quiet_enterStopped hk (by rw [hs]; rfl)
  case decel =>
    refine quiet_setTarget hk (.inl ⟨.inl hs, rfl, ?_⟩)
    by_contra hr
    exact nomatch hs.symm.trans (hk.delay hr)
  case recover =>
    split
    · exact quiet_enterStopped hk (by rw [hs]; rfl)
    next hr => exact quiet_setTarget hk (.inl ⟨.inr hs, rfl, Option.not_isSome_iff_eq_none.mp hr⟩)

theorem quiet_clearPersistence (hk : x₀.Quiet (s.driving d)) : x₀.Quiet ((clearPersistence d s).driving d) := by
  rw [driving_clearPersistence]; exact hk.withFactor (Nat.le_refl 1)

theorem quiet_tumbleStop (hk : x₀.Calm (s.driving d)) : x₀.Quiet ((tumbleStop d s).driving d) :=
  quiet_clearPersistence (quiet_tumbleHold hk)

/-! ### The cycle controller -/

theorem calm_setCycle {new : CycleState} {f : Cycle → Cycle} (hk : x₀.Calm (s.driving d))
    (hn : (s.drum d).config.gateMode = .service → new.idle = true) : x₀.Calm ((setCycle d new f s).driving d) := by
  rw [driving_setCycle]; exact hk.withCycle hn

/-- From one cycle state under way to another. -/
theorem quiet_setCycle {new : CycleState} {f : Cycle → Cycle} (hk : x₀.Calm (s.driving d))
    (hi : (s.drum d).cycle.state.idle = false) (hn : new.underWay = true) : x₀.Quiet ((setCycle d new f s).driving d) := by
  refine ⟨calm_setCycle hk fun hg => ?_, fun hc => ?_⟩
  · exact nomatch (hk.service hg).symm.trans hi
  · rw [driving_setCycle] at hc; exact nomatch hn.symm.trans hc

/-- To a cycle state in which the controller comes to rest, where it does. -/
theorem quiet_setCycle_rest {new : CycleState} {f : Cycle → Cycle} (hk : x₀.Calm (s.driving d))
    (hn : (s.drum d).config.gateMode = .service → new.idle = true) (hr : (s.driving d).comesToRest) :
    x₀.Quiet ((setCycle d new f s).driving d) := by
  refine ⟨calm_setCycle hk hn, fun _ => ?_⟩
  rw [driving_setCycle]; exact hr

theorem quiet_enterDone (hk : x₀.Calm (s.driving d)) : x₀.Quiet ((enterDone d s).driving d) := by
  have hstop : x₀.Quiet ((tumbleStop d (setCycle d .done Cycle.cleared s)).driving d) :=
    quiet_tumbleStop (calm_setCycle hk fun _ => rfl)
  unfold enterDone
  dsimp only
  split
  · rw [driving_handIncrement, driving_raise]; exact hstop
  · rw [driving_raise]; exact hstop

theorem quiet_enterVacant (hk : x₀.Quiet (s.driving d)) (hc : (s.drum d).cycle.state.underWay = false) :
    x₀.Quiet ((enterVacant d s).driving d) :=
  quiet_setCycle_rest hk.toCalm (fun _ => rfl) (hk.rests hc)

theorem quiet_cycleHalt {c : HaltCause} (hk : x₀.Quiet (s.driving d)) : x₀.Quiet ((cycleHalt d c s).driving d) := by
  unfold cycleHalt
  dsimp only
  split
  · rw [driving_raise]; exact quiet_tumbleStop (calm_setCycle hk.toCalm fun _ => rfl)
  · exact hk

theorem quiet_pauseCycle {c : PauseCause} (hk : x₀.Calm (s.driving d)) (hi : (s.drum d).cycle.state.idle = false) :
    x₀.Quiet ((pauseCycle d c s).driving d) := by
  unfold pauseCycle
  dsimp only
  rw [driving_raise]
  split
  · rw [driving_writeFan]
    exact quiet_tumbleHold (quiet_setCycle hk hi rfl).toCalm
  · exact quiet_tumbleHold (quiet_setCycle hk hi rfl).toCalm

theorem quiet_pauseOrJoin {c : PauseCause} (hk : x₀.Quiet (s.driving d)) : x₀.Quiet ((pauseOrJoin d c s).driving d) := by
  unfold pauseOrJoin
  cases hs : (s.drum d).cycle.state <;> dsimp only
  case purge | drying | cooling => exact quiet_pauseCycle hk.toCalm (by rw [hs]; rfl)
  case paused => exact quiet_of_driving (driving_joinCause d c s) hk
  all_goals exact hk

theorem quiet_startCooling {r : Reason} (hk : x₀.Quiet (s.driving d)) (hi : (s.drum d).cycle.state.idle = false) :
    x₀.Quiet ((startCooling d r s).driving d) :=
  quiet_setCycle hk.toCalm hi rfl

theorem quiet_heatEnd {r : Reason} (hk : x₀.Quiet (s.driving d)) : x₀.Quiet ((heatEnd d r s).driving d) := by
  unfold heatEnd
  dsimp only
  cases hs : (s.drum d).cycle.state <;> dsimp only
  case drying => exact quiet_startCooling hk (by rw [hs]; rfl)
  case purge | paused => split; exacts [quiet_of_driving (driving_onCycle rfl) hk, hk]
  all_goals exact hk

theorem quiet_coolingEnds (hk : x₀.Quiet (s.driving d)) (hi : (s.drum d).cycle.state.idle = false) :
    x₀.Quiet ((coolingEnds d s).driving d) := by
  unfold coolingEnds
  split
  · exact quiet_tumbleStop (quiet_setCycle hk.toCalm hi rfl).toCalm
  · exact quiet_enterDone hk.toCalm

theorem quiet_coolTest (hk : x₀.Quiet (s.driving d)) : x₀.Quiet ((coolTest d s).driving d) := by
  unfold coolTest
  split
  next h => exact quiet_coolingEnds hk (by rw [h.1]; rfl)
  next => exact hk

theorem quiet_enterTarget (hk : x₀.Quiet (s.driving d)) (hi : (s.drum d).cycle.state.idle = false) :
    x₀.Quiet ((enterTarget d s).driving d) := by
  unfold enterTarget
  split
  next ph _ => exact quiet_setCycle hk.toCalm hi (by cases ph <;> rfl)
  next => exact hk

theorem quiet_cycleDoorOpened (hk : x₀.Quiet (s.driving d)) : x₀.Quiet ((cycleDoorOpened d s).driving d) := by
  have hdone : ((enterDone d s).drum d).cycle.state.underWay = false := by rw [cycle_enterDone]; rfl
  unfold cycleDoorOpened
  cases hs : (s.drum d).cycle.state <;> dsimp only
  case purge | drying | cooling | paused => exact quiet_pauseOrJoin hk
  case guarding => exact quiet_enterVacant (quiet_enterDone hk.toCalm) hdone
  case done => exact quiet_enterVacant hk (by rw [hs]; rfl)
  all_goals exact hk

theorem quiet_cycleAirflowLost (hk : x₀.Quiet (s.driving d)) : x₀.Quiet ((cycleAirflowLost d s).driving d) := by
  unfold cycleAirflowLost
  dsimp only
  cases hs : (s.drum d).cycle.state <;> dsimp only
  case drying | cooling => exact quiet_pauseCycle hk.toCalm (by rw [hs]; rfl)
  case purge => exact quiet_of_driving (driving_onCycle rfl) hk
  all_goals exact hk

theorem quiet_cycleOnChange {x : Discrete} {safe : Bool} (hk : x₀.Quiet (s.driving d)) :
    x₀.Quiet ((cycleOnChange d x safe s).driving d) := by
  unfold cycleOnChange
  split
  · exact quiet_cycleDoorOpened hk
  · exact quiet_cycleAirflowLost hk
  · exact quiet_of_driving (driving_cycleAirflowProven d s) hk
  · exact quiet_heatEnd hk
  all_goals exact hk

theorem quiet_cycleNodeLost {n : Nat} (hk : x₀.Quiet (s.driving d)) : x₀.Quiet ((cycleNodeLost d n s).driving d) := by
  unfold cycleNodeLost
  split
  · cases (s.drum d).cycle.state <;> dsimp only
    case guarding => exact quiet_enterDone hk.toCalm
    case purge | drying | cooling | paused => exact quiet_pauseOrJoin hk
    all_goals exact hk
  · exact hk

theorem quiet_cycleGraceExpired (hk : x₀.Quiet (s.driving d)) : x₀.Quiet ((cycleGraceExpired d s).driving d) := by
  unfold cycleGraceExpired
  cases hs : (s.drum d).cycle.state <;> dsimp only
  case purge | drying | cooling => exact quiet_pauseCycle hk.toCalm (by rw [hs]; rfl)
  case guarding => exact quiet_enterDone hk.toCalm
  all_goals exact hk

theorem quiet_routedAction {a : RoutedAction} (hk : x₀.Quiet (s.driving d)) :
    x₀.Quiet ((routedAction d a s).driving d) := by
  cases a with
  | none => exact hk
  | pause => exact quiet_pauseOrJoin hk
  | endHeat => exact quiet_heatEnd hk
  | halt => unfold routedAction; dsimp only; split; exacts [hk, quiet_cycleHalt hk]

theorem quiet_abortCycle (hk : x₀.Quiet (s.driving d)) : x₀.Quiet ((abortCycle d s).driving d) := by
  have hdone : x₀.Quiet ((enterDone d (setReason d .aborted s)).driving d) :=
    quiet_enterDone (calm_of_driving (driving_setReason d .aborted s) hk.toCalm)
  unfold abortCycle
  dsimp only
  cases hs : (s.drum d).cycle.state <;> dsimp only
  case drying => exact quiet_startCooling hk (by rw [hs]; rfl)
  case purge =>
    split
    · exact quiet_setCycle hk.toCalm (by rw [hs]; rfl) rfl
    · exact quiet_startCooling hk (by rw [hs]; rfl)
  case ready => exact quiet_enterVacant hk (by rw [hs]; rfl)
  case cooling | guarding | paused => exact hdone
  all_goals exact hk

/-- A record is loaded into a drum with no cycle under way, in AUTO (R67, R70). -/
theorem quiet_loadCycle {r : CycleRecord} (hk : x₀.Quiet (s.driving d)) (hl : (s.drum d).cycle.state.loads = true)
    (hg : (s.drum d).config.gateMode ≠ .service) : x₀.Quiet ((loadCycle d r s).driving d) := by
  refine quiet_setCycle_rest hk.toCalm (fun h => absurd h hg) (hk.rests ?_)
  show (s.drum d).cycle.state.underWay = false
  revert hl
  cases (s.drum d).cycle.state <;> decide

theorem quiet_pauseLimitEnds (hk : x₀.Quiet (s.driving d)) : x₀.Quiet ((pauseLimitEnds d s).driving d) :=
  quiet_enterDone (calm_of_driving (driving_onCycle (f := fun c => { c with reason := .abandoned }) rfl) hk.toCalm)

end

end Sys2Proof.Machine
end

section
/-! What the ends of a run, the notices, the drum port and the dryness monitor keep of the rules of the DRIVE entry. -/

namespace Sys2Proof.Machine

section
variable {x₀ : Driving} {s t : State} {d : Drum}

/-! ### The ends of a run -/

/-- A run belongs to a cycle under way. -/
theorem underWay_of_running (hk : x₀.Quiet (s.driving d)) (hr : (s.drum d).tumble.state.running = true) :
    (s.drum d).cycle.state.underWay = true :=
  hk.follows.underWay (Driving.not_comesToRest_of_running hr)

theorem quiet_endNormalRun (hk : x₀.Quiet (s.driving d)) (hu : (s.drum d).cycle.state.underWay = true) :
    x₀.Quiet ((endNormalRun d s).driving d) :=
  quiet_clearPersistence (quiet_enterDecel hk.toCalm (.inr hu))

/-- The persist action doubles the dwell multiplier or leaves it (R113). -/
theorem driving_persist (d : Drum) (s : State) :
    (s.onTumble d Tumble.persist).driving d =
      { s.driving d with multiplier := (s.drum d).tumble.persist.multiplier } := by
  rw [driving_onTumble]
  unfold Tumble.persist
  split <;> rfl

theorem one_le_persist {t : Tumble} (h : 1 ≤ t.multiplier) : 1 ≤ t.persist.multiplier := by
  unfold Tumble.persist
  split
  · exact h
  · dsimp only; omega
  · exact h

theorem quiet_applyPersistence (hk : x₀.Quiet (s.driving d)) : x₀.Quiet ((applyPersistence d s).driving d) := by
  unfold applyPersistence
  dsimp only
  split
  · rw [driving_onTangle, driving_persist, driving_raise]
    exact hk.withFactor (one_le_persist hk.factor)
  · exact hk

theorem quiet_endEarlyRun (hk : x₀.Quiet (s.driving d)) (hu : (s.drum d).cycle.state.underWay = true) :
    x₀.Quiet ((endEarlyRun d s).driving d) := by
  unfold endEarlyRun
  refine quiet_applyPersistence ?_
  rw [driving_onTangle, driving_handIncrement, driving_raise]
  exact quiet_enterDecel hk.toCalm (.inr hu)

theorem quiet_statusInRun {st : DriveStatus} (hk : x₀.Quiet (s.driving d))
    (hu : (s.drum d).cycle.state.underWay = true) : x₀.Quiet ((statusInRun d st s).driving d) := by
  have hcounted : (s.onTumble d fun _ => (s.drum d).tumble.takeCounter st.counter).driving d = s.driving d :=
    driving_counted rfl
  unfold statusInRun
  dsimp only
  split
  · exact quiet_of_driving hcounted hk
  · generalize hs2 : (if (s.drum d).tangle.windowOpen = true then _ else _ : State) = s2
    have hjudged : s2.driving d = s.driving d := by
      rw [← hs2]
      (repeat' split) <;> simp [hcounted]
    have hk2 : x₀.Quiet (s2.driving d) := quiet_of_driving hjudged hk
    have hu2 : (s2.drum d).cycle.state.underWay = true := by
      show (s2.driving d).cycle.underWay = true
      rw [hjudged]; exact hu
    split
    · exact quiet_endNormalRun hk2 hu2
    · split
      · exact quiet_endEarlyRun hk2 hu2
      · exact hk2

/-- A change to a state outside a run, with every timer of R94 and R101 stopped. -/
theorem driving_leaveRun_timersOff (d : Drum) (st : TumbleState) (target : Tumble → Option Target) (decel : Tumble → Timer)
    (s : State) :
    (leaveRun d (fun t => { t.timersOff with state := st, target := target t, decel := decel t }) s).driving d =
      { s.driving d with state := st, target := target (s.drum d).tumble, dwell := none, recoverDelay := none } := by
  rw [driving_leaveRun, driving_onTumble]; rfl

/-- A stall writes STOP and enters RECOVER, in a cycle under way (R100). -/
theorem quiet_stall {st : DriveStatus} (hk : x₀.Quiet (s.driving d)) (hu : (s.drum d).cycle.state.underWay = true) :
    x₀.Quiet ((stall d st s).driving d) := by
  have hcounted : (s.onTumble d fun t => { t.takeCounter st.counter with stalls := (s.drum d).tumble.stalls + 1 }).driving d =
      s.driving d := by
    rw [driving_onTumble]
    unfold Tumble.takeCounter
    split <;> rfl
  have hrecover : x₀.Quiet ((leaveRun d
      (fun t =>
        { t.timersOff with
          state := .recover
          target := some (if t.guardLength.isSome then .stopped else .run)
          decel := seconds t.values.decelTimeout })
      (handIncrement (.tumble d) d 3
        (raise (.tumble d) .driveStall d (some (byte ((s.drum d).tumble.stalls + 1)))
          (writeDrive d .stop
            (s.onTumble d fun t =>
              { t.takeCounter st.counter with stalls := (s.drum d).tumble.stalls + 1 }))))).driving d) := by
    rw [driving_leaveRun_timersOff, driving_handIncrement, driving_raise, driving_writeDrive, hcounted]
    exact ⟨hk.halts _ _ rfl nofun, fun hc => nomatch hu.symm.trans hc⟩
  unfold stall
  dsimp only
  split
  · exact quiet_cycleHalt hrecover
  · exact hrecover

theorem quiet_trip {st : DriveStatus} (hk : x₀.Quiet (s.driving d)) : x₀.Quiet ((trip d st s).driving d) := by
  unfold trip
  refine quiet_cycleHalt ?_
  cases (s.drum d).tumble.state <;> dsimp only
  case stopped => exact hk
  case runFwd | runRev => exact quiet_enterStopped_writeDrive (calm_of_driving (driving_counted rfl) hk.toCalm)
  case decel | dwell | recover => exact quiet_enterStopped_writeDrive hk.toCalm

/-- A stop not confirmed in time leaves RECOVER for DECEL and reaches the cycle controller (R98). -/
theorem quiet_decelTimeout (hk : x₀.Quiet (s.driving d)) : x₀.Quiet ((decelTimeout d s).driving d) := by
  unfold decelTimeout
  refine quiet_cycleHalt ?_
  rw [driving_handIncrement, driving_raise]
  cases hs : (s.drum d).tumble.state <;> dsimp only
  case recover =>
    rw [driving_leaveRun, driving_onTumble]
    exact ⟨hk.leaves (by rw [show (s.driving d).state = .recover from hs]; rfl) (some .stopped) rfl nofun,
      fun _ => .inr ⟨.inl rfl, rfl, rfl⟩⟩
  all_goals exact quiet_of_driving (driving_onTumble d _ s) hk

/-! ### Notices -/

/-- The link-lost notice writes STOP and brings the controller to rest (R105). -/
theorem quiet_tumbleNotice (hk : x₀.Quiet (s.driving d)) : x₀.Quiet ((tumbleNotice d s).driving d) := by
  have hstatus : (s.onTumble d fun t => { t with status := none }).driving d = { s.driving d with status := none } :=
    driving_onTumble d _ s
  have hquiet := hk.withStatus none
  unfold tumbleNotice
  dsimp only
  cases hs : (s.drum d).tumble.state <;> dsimp only
  case stopped =>
    rw [driving_writeDrive, hstatus]
    exact ⟨hquiet.withStop _ (by rw [show (s.driving d).state = .stopped from hs]; rfl), fun _ => .inl hs⟩
  all_goals
    rw [driving_leaveRun_timersOff, driving_writeDrive, hstatus]
    exact ⟨hquiet.halts _ _ rfl nofun, fun _ => .inr ⟨.inl rfl, rfl, rfl⟩⟩

theorem quiet_linkLostNotice (hk : x₀.Quiet (s.driving d)) : x₀.Quiet ((linkLostNotice d s).driving d) :=
  quiet_of_driving (driving_burnerNotice d _) (quiet_tumbleNotice hk)

/-- DRUM_RESET brings the controller to rest with STOP written, in any state (R106). -/
theorem quiet_tumbleReset (hk : x₀.Quiet (s.driving d)) :
    x₀.Quiet ((tumbleReset d s).driving d) ∧ ((tumbleReset d s).driving d).comesToRest := by
  have hleave (u : State) : ((leaveRun d
      (fun t =>
        { t.timersOff with
          state := .stopped
          target := none
          inForce := none
          lastDir := none
          first255 := false
          runTimer := 0
          revBase := 0
          baseTaken := false
          revCount := 0
          stalls := 0
          multiplier := 1
          reduction := 0
          guardLength := none })
      u).onTangle d fun _ => {}).driving d =
      { u.driving d with
        state := .stopped, target := none, dwell := none, recoverDelay := none, multiplier := 1 } := by
    rw [driving_onTangle, driving_leaveRun, driving_onTumble]; rfl
  unfold tumbleReset
  dsimp only
  rw [hleave, driving_writeDrive]
  exact ⟨⟨(hk.halts _ (st := .stopped) none rfl nofun).withFactor (Nat.le_refl 1), fun _ => .inl rfl⟩, .inl rfl⟩

/-! ### The drum port -/

theorem quiet_movePort {st : PortState} (hk : x₀.Quiet (s.driving d)) : x₀.Quiet ((movePort d st s).driving d) := by
  unfold movePort
  dsimp only
  split
  · exact quiet_linkLostNotice (quiet_of_driving (driving_leaveUp d st s) hk)
  · split
    · refine quiet_linkLostNotice (quiet_of_driving (driving_setPortState d st _) ?_)
      exact quiet_of_driving (driving_onPort rfl rfl) hk
    · exact quiet_of_driving (driving_setPortState d st s) hk

theorem quiet_graceExpires (hk : x₀.Quiet (s.driving d)) : x₀.Quiet ((graceExpires d s).driving d) :=
  quiet_cycleGraceExpired (quiet_linkLostNotice (quiet_of_driving (driving_onPort rfl rfl) hk))

theorem quiet_mainLaneLost (hk : x₀.Quiet (s.driving d)) : x₀.Quiet ((mainLaneLost d s).driving d) := by
  have hlost : x₀.Quiet ((handIncrement (.port d) d 6 (raise (.port d) .linkLost d none (leaveUp d .seek s))).driving d) := by
    rw [driving_handIncrement, driving_raise, driving_leaveUp]; exact hk
  unfold mainLaneLost
  dsimp only
  split
  · split
    · exact quiet_graceExpires hlost
    · exact quiet_of_driving (driving_onPort rfl rfl) hlost
  · exact quiet_linkLostNotice hlost

/-- A port in SERVICE woken by its door (R20). -/
theorem quiet_wake {b : Bool} (hk : x₀.Quiet (s.driving d)) :
    x₀.Quiet ((if (b && (s.drum d).port.state == .service) = true then setPortState d .seek s else s).driving d) := by
  split
  · rw [driving_setPortState]; exact hk
  · exact hk

theorem quiet_changeReading {x : Discrete} {safe accepted : Bool} (hk : x₀.Quiet (s.driving d)) :
    x₀.Quiet ((changeReading d x safe accepted s).driving d) := by
  unfold changeReading
  dsimp only
  refine quiet_wake (quiet_cycleOnChange (quiet_of_driving ?_ hk))
  rw [apply_ite (fun u : State => u.driving d), driving_handIncrement, ite_self, driving_reloadStandby, driving_setReading]
  split
  · rw [driving_raise]
  · rfl

theorem quiet_forceSafe {x : Discrete} (hk : x₀.Quiet (s.driving d)) : x₀.Quiet ((forceSafe d x s).driving d) := by
  unfold forceSafe
  split
  · exact hk
  · exact quiet_changeReading hk

theorem quiet_presenceChange {old new : BitVec 16} (n : Nat) (hk : x₀.Quiet (s.driving d)) :
    x₀.Quiet ((presenceChange d old new s n).driving d) := by
  unfold presenceChange
  split
  · rw [driving_raise]; exact hk
  · split
    · exact quiet_cycleNodeLost (quiet_of_driving (driving_raise _ _ d d _ s) hk)
    · exact hk

theorem quiet_setPresence {report : BitVec 16} (hk : x₀.Quiet (s.driving d)) :
    x₀.Quiet ((setPresence d report s).driving d) :=
  List.foldlRecOn (motive := fun u : State => x₀.Quiet (u.driving d)) nodeAddresses _
    (quiet_of_driving (driving_onPort rfl rfl) hk) fun _ hu n _ => quiet_presenceChange n hu

theorem quiet_serviceLaneDown (hk : x₀.Quiet (s.driving d)) : x₀.Quiet ((serviceLaneDown d s).driving d) :=
  quiet_setPresence <| quiet_forceSafe <| quiet_forceSafe <| quiet_forceSafe <| quiet_forceSafe <|
    quiet_of_driving (driving_onPort rfl rfl) hk

theorem quiet_setHold (hk : x₀.Quiet (s.driving d)) : x₀.Quiet ((setHold d s).driving d) :=
  quiet_setPresence (quiet_of_driving (driving_onPort rfl rfl) hk)

theorem quiet_powerOff (hk : x₀.Quiet (s.driving d)) : x₀.Quiet ((powerOff d s).driving d) := by
  unfold powerOff
  split
  · exact hk
  · exact quiet_serviceLaneDown (quiet_movePort hk)

theorem quiet_serviceOnly (hk : x₀.Quiet (s.driving d)) : x₀.Quiet ((serviceOnly d s).driving d) := by
  unfold serviceOnly
  split
  · exact hk
  · exact quiet_movePort hk

theorem quiet_startTest {dir : TestDirection} {mode : FlagMode} (hk : x₀.Quiet (s.driving d)) :
    x₀.Quiet ((startTest d dir mode s).driving d) :=
  quiet_of_driving (driving_onPort rfl rfl) (quiet_movePort hk)

/-! ### The burner supervisor and the dryness monitor -/

theorem quiet_takeExhaust {v : Temperature} (hk : x₀.Quiet (s.driving d)) : x₀.Quiet ((takeExhaust d v s).driving d) :=
  quiet_coolTest (quiet_of_driving (driving_judgeExhaust d v _) (quiet_of_driving (driving_onBurner d _ s) hk))

theorem quiet_extraDryEnds (hk : x₀.Quiet (s.driving d)) (hi : (s.drum d).cycle.state.idle = false) :
    x₀.Quiet ((extraDryEnds d s).driving d) :=
  quiet_startCooling (quiet_of_driving (driving_onDryness d _ s) hk) (by simpa using hi)

theorem quiet_dryReached {p : DrynessPart} (hk : x₀.Quiet (s.driving d)) (hi : (s.drum d).cycle.state.idle = false) :
    x₀.Quiet ((dryReached d p s).driving d) := by
  unfold dryReached
  dsimp only
  split
  · refine quiet_extraDryEnds ?_ (by simpa using hi)
    rw [driving_raise, driving_onDryness]; exact hk
  · rw [driving_raise, driving_onDryness]; exact hk

theorem quiet_dryTest {p : DrynessPart} (hk : x₀.Quiet (s.driving d)) (hi : (s.drum d).cycle.state.idle = false) :
    x₀.Quiet ((dryTest d p s).driving d) := by
  unfold dryTest
  dsimp only
  split
  · split
    · split
      · exact quiet_dryReached (quiet_of_driving (driving_onDryness d _ s) hk) (by simpa using hi)
      · exact quiet_of_driving (driving_onDryness d _ s) hk
    · exact quiet_of_driving (driving_onDryness d _ s) hk
  · exact hk

theorem idle_of_dryingElectrode {c : Cycle} (h : c.dryingElectrode = true) : c.state.idle = false := by
  simp only [Cycle.dryingElectrode, Bool.and_eq_true, beq_iff_eq] at h
  rw [h.1]; rfl

theorem quiet_takeWet {v : Nat} (hk : x₀.Quiet (s.driving d)) : x₀.Quiet ((takeWet d v s).driving d) := by
  unfold takeWet
  dsimp only
  split
  · split
    · exact quiet_of_driving (driving_onDryness d _ s) hk
    · split
      next he =>
        split
        · exact quiet_dryTest (quiet_of_driving (driving_onDryness d _ s) hk) (by simpa using idle_of_dryingElectrode he)
        · exact hk
      next => exact hk
  · exact hk

/-! ### The drum configuration -/

/-- A drum without a cycle takes a new configuration; STOP is written where its gate mode goes from SERVICE to AUTO (R67). -/
theorem quiet_replaceConfig {c : DrumConfig} (hk : x₀.Quiet (s.driving d)) (hi : (s.drum d).cycle.state.idle = true) :
    x₀.Quiet ((replaceConfig d c s).driving d) := by
  have hrests : (s.driving d).comesToRest := by
    refine hk.rests ?_
    show (s.drum d).cycle.state.underWay = false
    revert hi
    cases (s.drum d).cycle.state <;> decide
  unfold replaceConfig
  dsimp only
  rw [driving_settleStandby]
  generalize hu : s.onDrum d _ = u
  have hconfig : u.driving d = { s.driving d with gate := c.gateMode } := by
    rw [← hu]
    unfold State.driving
    rw [drum_onDrum_self]
    rfl
  split
  · rw [driving_writeFan, driving_writeDrive, hconfig]
    exact ⟨(hk.withStop _ (Driving.running_of_comesToRest hrests)).withGate hi hrests fun _ => rfl, fun _ => hrests⟩
  next hm =>
    rw [hconfig]
    refine ⟨hk.withGate hi hrests fun hg => hk.still ?_ (Driving.running_of_comesToRest hrests), fun _ => hrests⟩
    show (s.drum d).config.gateMode = .auto
    cases hold : (s.drum d).config.gateMode with
    | auto => rfl
    | service => exact absurd ⟨hold, hg⟩ hm

end

end Sys2Proof.Machine
end

section
/-! How runs, dwells and recover delays begin (R94, R95, R99, R101): never less than 2 s after a confirming status. -/

namespace Sys2Proof.Machine

/-! ### What one command may do to the DRIVE entry of a drum -/

namespace Driving

/-- The held status is st, and it confirms a stop (R93). -/
def Confirmed (x : Driving) (st : DriveStatus) : Prop :=
  x.status = some st ∧ st.motor = .stopped ∧ laterThan st.arrival x.stopTime = true

/-- From x₀ to x by one command at a clock value: RUN is written over STOP or over a RUN of its direction, at the end of a dwell
or recover delay or with a confirming status 2 s old; dwells and recover delays begin at a confirming status and end no sooner
than 2 s after it, and their time is not changed. -/
structure Sequenced (now : Clock) (ended : Prop) (x₀ x : Driving) : Prop extends Follows x where
  runs : ∀ dir v, x.drive = .run dir v → x₀.drive ≠ .run dir v →
    (∀ old w, x₀.drive = .run old w → old = dir) ∧ (ended ∨ ∃ st, x.Confirmed st ∧ 2000 ≤ elapsed now st.arrival)
  dwellBegins : x.state = .dwell → x₀.state ≠ .dwell →
    ∃ ms st, x.dwell = some ms ∧ x.Confirmed st ∧ 2000 ≤ ms + elapsed now st.arrival
  delayBegins : x.recoverDelay ≠ none → x₀.recoverDelay = none →
    ∃ ms st, x.recoverDelay = some ms ∧ x.Confirmed st ∧ 2000 ≤ ms
  dwellStands : x.state = .dwell → x₀.state = .dwell → x.dwell = x₀.dwell
  delayStands : x.recoverDelay ≠ none → x₀.recoverDelay ≠ none → x.recoverDelay = x₀.recoverDelay

section
variable {x₀ x : Driving} {now : Clock} {ended : Prop}

theorem Quiet.sequenced (h : x₀.Quiet x) : Sequenced now ended x₀ x where
  toFollows := h.follows
  runs dir v hx h0 := by
    obtain hstop | hsame := h.drives
    · exact nomatch hstop.symm.trans hx
    · exact absurd (hsame.symm.trans hx) h0
  dwellBegins hs h0 := absurd (h.dwells hs).1 h0
  delayBegins hr h0 := by
    obtain hnone | hsame := h.delays
    · exact absurd hnone hr
    · exact absurd (hsame.trans h0) hr
  dwellStands hs _ := (h.dwells hs).2
  delayStands hr _ := h.delays.resolve_left hr

/-- The state of a run in a direction. -/
def runState : Direction → TumbleState
  | .fwd => .runFwd
  | .rev => .runRev

/-- A run begun in AUTO, in a cycle under way, over a DRIVE entry that holds STOP (R95). -/
theorem sequenced_run (h : x.Orderly) (hg : x.gate = .auto) (hu : x.cycle.underWay = true) (h0 : x₀.drive = .stop)
    (hdue : ended ∨ ∃ st, x.Confirmed st ∧ 2000 ≤ elapsed now st.arrival) (dir : Direction) (v : Nat) {p : Profile}
    (hp : 2 ≤ p.dwell ∧ 2 ≤ p.recoverDelay) :
    Sequenced now ended x₀
      { x with
        drive := .run dir v, state := runState dir, target := none, dwell := none, recoverDelay := none, values := p } where
  service hs := nomatch hs.symm.trans hg
  fwd _ hs := by cases dir with | fwd => exact ⟨v, rfl⟩ | rev => exact nomatch hs
  rev _ hs := by cases dir with | fwd => exact nomatch hs | rev => exact ⟨v, rfl⟩
  still _ hs := by cases dir <;> exact nomatch hs
  delay hr := absurd rfl hr
  dwellTime := hp.1
  recoverTime := hp.2
  factor := h.factor
  rests hc := nomatch hu.symm.trans hc
  runs dir' w hd _ := by
    refine ⟨fun old v' hold => ?_, hdue⟩
    exact nomatch h0.symm.trans hold
  dwellBegins hs := by cases dir <;> exact nomatch hs
  delayBegins hr := absurd rfl hr
  dwellStands hs := by cases dir <;> exact nomatch hs
  delayStands hr := absurd rfl hr

/-- A dwell begun at a confirming status, outside a run and in a cycle under way (R94, R97). -/
theorem sequenced_dwell (h : x₀.Calm x) (hr : x.state.running = false) (hu : x.cycle.underWay = true)
    (h0 : x₀.state ≠ .dwell) {st : DriveStatus} (hst : x.Confirmed st) {ms : Nat}
    (hms : 2000 ≤ ms + elapsed now st.arrival) :
    Sequenced now ended x₀ { x with state := .dwell, target := none, dwell := some ms, recoverDelay := none } where
  service := h.service
  fwd _ hs := nomatch hs
  rev _ hs := nomatch hs
  still hg _ := h.still hg hr
  delay hr := absurd rfl hr
  dwellTime := h.dwellTime
  recoverTime := h.recoverTime
  factor := h.factor
  rests hc := nomatch hu.symm.trans hc
  runs dir v hx h0 := by
    obtain hstop | hsame := h.drives
    · exact nomatch hstop.symm.trans hx
    · exact absurd (hsame.symm.trans hx) h0
  dwellBegins _ _ := ⟨ms, st, rfl, hst, hms⟩
  delayBegins hr := absurd rfl hr
  dwellStands _ hs := absurd hs h0
  delayStands hr := absurd rfl hr

/-- A recover delay begun at a confirming status (R101). -/
theorem sequenced_delay (h : x₀.Quiet x) (hs : x.state = .recover) (ht : x.target = some .run)
    (h0 : x₀.recoverDelay = none) {st : DriveStatus} (hst : x.Confirmed st) {ms : Nat} (hms : 2000 ≤ ms) :
    Sequenced now ended x₀ { x with dwell := none, recoverDelay := some ms } :=
  { h.sequenced with
    delay := fun _ => hs
    rests := fun hc => by
      have hu := h.follows.underWay (not_comesToRest_of_target (by rw [hs]; nofun) (by rw [ht]; nofun))
      exact nomatch hu.symm.trans hc
    dwellBegins := fun hd => nomatch hs.symm.trans hd
    delayBegins := fun _ _ => ⟨ms, st, rfl, hst, hms⟩
    dwellStands := fun hd => nomatch hs.symm.trans hd
    delayStands := fun _ hr => absurd h0 hr }

/-- RUN passed through in SERVICE over STOP or a RUN of its direction, with a confirming status 2 s old (R62). -/
theorem sequenced_pass (h : x.Follows) (hg : x.gate = .service) {v : DriveCmd} {time : Clock}
    (hv : ∀ dir speed, v = .run dir speed →
      (∀ old w, x.drive = .run old w → old = dir) ∧
        ∃ st, { x with drive := v, stopTime := time }.Confirmed st ∧ 2000 ≤ elapsed now st.arrival) :
    Sequenced now ended x { x with drive := v, stopTime := time } :=
  { h with
    fwd := fun ha => nomatch hg.symm.trans ha
    rev := fun ha => nomatch hg.symm.trans ha
    still := fun ha => nomatch hg.symm.trans ha
    runs := fun dir w hx _ => ⟨(hv dir w hx).1, .inr (hv dir w hx).2⟩
    dwellBegins := fun hs h0 => absurd hs h0
    delayBegins := fun hr h0 => absurd h0 hr
    dwellStands := fun _ _ => rfl
    delayStands := fun _ _ => rfl }

end

end Driving

/-! ### The profile values of a run -/

/-- Every profile's dwell and recover delay last at least 2 s (Table 5-2). -/
def ProfilesLast (s : State) : Prop := ∀ n : Fin 8, 2 ≤ s.profiles[n].dwell ∧ 2 ≤ s.profiles[n].recoverDelay

/-- A run reads a profile, or goes on with the values in use (R91, R92). -/
theorem runValues_last {s : State} {d : Drum} (hp : ProfilesLast s)
    (hv : 2 ≤ (s.drum d).tumble.values.dwell ∧ 2 ≤ (s.drum d).tumble.values.recoverDelay) :
    2 ≤ (runValues s d).1.dwell ∧ 2 ≤ (runValues s d).1.recoverDelay := by
  unfold runValues
  dsimp only
  split
  · exact hv
  next n _ =>
    split
    · exact hp 0
    · by_cases hn : n < 8
      · simpa [hn] using hp ⟨n, hn⟩
      · simpa [hn] using hv

theorem driving_beginRun (d : Drum) (s : State) :
    (beginRun d s).driving d =
      { s.driving d with
        drive := .run (s.drum d).tumble.nextDir
          (runSpeed (runValues s d).1 (s.drum d).tumble.nextDir (s.drum d).tumble.reduction)
        state := Driving.runState (s.drum d).tumble.nextDir
        target := none
        dwell := none
        recoverDelay := none
        values := (runValues s d).1 } := by
  obtain ⟨-, -, -, -, -, -, -, -, -, htumble, -⟩ := keeps_writeDrive d
    (.run (s.drum d).tumble.nextDir
      (runSpeed (runValues s d).1 (s.drum d).tumble.nextDir (s.drum d).tumble.reduction)) s
  unfold beginRun
  dsimp only
  rw [driving_burnerUpdate, driving_onDryness, driving_onTangle, driving_onTumble, htumble, driving_writeDrive,
    if_neg fun h => nomatch h.1]
  rfl

theorem confirming_iff {s : State} {d : Drum} :
    (s.drum d).confirming = true ↔ ∃ st, (s.driving d).Confirmed st := by
  unfold DrumState.confirming
  constructor
  · intro h
    split at h
    next st hst =>
      simp only [Bool.and_eq_true, beq_iff_eq] at h
      exact ⟨st, hst, h.1, h.2⟩
    next => exact nomatch h
  · rintro ⟨st, hst, hm, hlate⟩
    rw [show (s.drum d).tumble.status = some st from hst]
    simpa [hm] using (show laterThan st.arrival (s.drum d).port.image.stopTime = true from hlate)

section
variable {x₀ : Driving} {s : State} {d : Drum} {now : Clock} {ended : Prop}

theorem sequenced_beginRun (hp : ProfilesLast s) (h : (s.driving d).Orderly) (hg : (s.driving d).gate = .auto)
    (hu : (s.driving d).cycle.underWay = true) (h0 : x₀.drive = .stop)
    (hdue : ended ∨ ∃ st, (s.driving d).Confirmed st ∧ 2000 ≤ elapsed now st.arrival) :
    Driving.Sequenced now ended x₀ ((beginRun d s).driving d) := by
  rw [driving_beginRun]
  exact Driving.sequenced_run h hg hu h0 hdue _ _ (runValues_last hp ⟨h.dwellTime, h.recoverTime⟩)

/-- The start dwell, or the run at once where it has passed (R94). -/
theorem sequenced_startDwell (hp : ProfilesLast s) (h : x₀.Calm (s.driving d)) (hg : (s.driving d).gate = .auto)
    (hu : (s.driving d).cycle.underWay = true) (hr : (s.driving d).state.running = false) (h0 : x₀.drive = .stop)
    (hd : x₀.state ≠ .dwell) {st : DriveStatus} (hst : (s.driving d).Confirmed st) :
    Driving.Sequenced s.clock ended x₀ ((startDwell d s).driving d) := by
  have hstatus : (s.drum d).tumble.status = some st := hst.1
  unfold startDwell
  rw [hstatus]
  dsimp only
  split
  next hold => exact sequenced_beginRun hp h.toOrderly hg hu h0 (.inr ⟨st, hst, hold⟩)
  next hnew =>
    rw [driving_leaveRun, driving_onTumble]
    exact Driving.sequenced_dwell h hr hu hd hst (by omega)

end

end Sys2Proof.Machine
end

section
/-! The operations that begin a run, a dwell or a recover delay: START, GUARD_TUMBLE, a drive status, the pass-through. -/

namespace Sys2Proof.Machine

section
variable {x₀ : Driving} {s t : State} {d : Drum} {ended : Prop}

/-! ### START and GUARD_TUMBLE (R94, R103, R104) -/

/-- The drum stands as x₀, but for a cycle state: from one under way or READY to one under way. -/
structure Starting (x₀ : Driving) (s : State) (d : Drum) (c : CycleState) : Prop where
  follows : x₀.Follows
  going : x₀.cycle.idle = false
  here : s.driving d = { x₀ with cycle := c }
  underWay : c.underWay = true

namespace Starting

variable {c : CycleState}

theorem gate (h : Starting x₀ s d c) : (s.driving d).gate = .auto := by
  rw [h.here]; exact h.follows.toOrderly.auto h.going

theorem calm (h : Starting x₀ s d c) : x₀.Calm (s.driving d) := by
  rw [h.here]
  exact h.follows.quiet.withCycle fun hs => absurd (h.follows.service hs) (by simp [h.going])

theorem quiet (h : Starting x₀ s d c) : x₀.Quiet (s.driving d) :=
  ⟨h.calm, fun hc => by rw [h.here] at hc; exact nomatch h.underWay.symm.trans hc⟩

theorem of_driving (h : Starting x₀ s d c) (ht : t.driving d = s.driving d) : Starting x₀ t d c :=
  { h with here := ht.trans h.here }

theorem cycle (h : Starting x₀ s d c) : (s.driving d).cycle.underWay = true := by
  rw [h.here]; exact h.underWay

theorem state (h : Starting x₀ s d c) : (s.drum d).tumble.state = x₀.state := by
  show (s.driving d).state = _
  rw [h.here]

end Starting

variable {c : CycleState}

theorem sequenced_startFromStopped (hp : ProfilesLast s) (h : Starting x₀ s d c) (hs : x₀.state = .stopped) :
    Driving.Sequenced s.clock ended x₀ ((startFromStopped d s).driving d) := by
  unfold startFromStopped
  split
  next hconfirming =>
    obtain ⟨st, hst⟩ := confirming_iff.mp hconfirming
    have hstop : x₀.drive = .stop := h.follows.still (h.follows.toOrderly.auto h.going) (by rw [hs]; rfl)
    refine sequenced_startDwell hp h.calm h.gate h.cycle ?_ hstop (by rw [hs]; nofun) hst
    show (s.drum d).tumble.state.running = false
    rw [h.state, hs]; rfl
  next => exact (quiet_enterDecel h.calm (.inr h.cycle)).sequenced

theorem sequenced_tumbleStart {profile : Nat} (hp : ProfilesLast s) (h : Starting x₀ s d c) :
    Driving.Sequenced s.clock ended x₀ ((tumbleStart d profile s).driving d) := by
  have hmarked : Starting x₀ (startMarked d profile s) d c := h.of_driving (driving_startMarked d profile s)
  cases hs : (s.drum d).tumble.state
  case stopped =>
    rw [tumbleStart_stopped hs]
    exact sequenced_startFromStopped (s := startMarked d profile s) hp hmarked (h.state.symm.trans hs)
  case decel | recover =>
    rw [tumbleStart_stopping (by simp [hs])]
    exact (quiet_setTarget hmarked.calm (.inr hmarked.cycle)).sequenced
  case dwell | runFwd | runRev =>
    rw [tumbleStart_going (by simp [hs])]
    exact hmarked.quiet.sequenced

theorem sequenced_tumbleGuard {length : Nat} (hp : ProfilesLast s) (h : Starting x₀ s d c) :
    Driving.Sequenced s.clock ended x₀ ((tumbleGuard d length s).driving d) := by
  by_cases hs : (s.drum d).tumble.state = .stopped
  · have hmarked : Starting x₀ (s.onTumble d fun t => { t with guardLength := some length }) d c :=
      h.of_driving (driving_onTumble d _ s)
    unfold tumbleGuard
    rw [hs]
    exact sequenced_startFromStopped (s := s.onTumble d fun t => { t with guardLength := some length }) hp hmarked
      (h.state.symm.trans hs)
  · rw [tumbleGuard_going length hs]
    exact h.quiet.sequenced

theorem sequenced_startCycle (hp : ProfilesLast s) (h : (s.driving d).Follows) (hc : (s.drum d).cycle.state = .ready) :
    Driving.Sequenced s.clock ended (s.driving d) ((startCycle d s).driving d) := by
  unfold startCycle
  generalize hu : firstStart d (s.cycleProfile d) (enterPurge d (some .drying) id (drynessStart d s)) = u
  have hb : u.besides d = s.besides d := by rw [← hu]; simp
  have hstarting : Starting (s.driving d) u d .purge := by
    refine ⟨h, by rw [show (s.driving d).cycle = .ready from hc]; rfl, ?_, rfl⟩
    rw [← hu, driving_firstStart]
    unfold enterPurge drynessStart
    rw [driving_setCycle, driving_onDryness]
  rw [← clock_of_besides hb]
  exact sequenced_tumbleStart (by unfold ProfilesLast; rw [profiles_of_besides hb]; exact hp) hstarting

theorem sequenced_resumeCycle (hp : ProfilesLast s) (h : (s.driving d).Follows) (hc : (s.drum d).cycle.state = .paused) :
    Driving.Sequenced s.clock ended (s.driving d) ((resumeCycle d s).driving d) := by
  unfold resumeCycle
  dsimp only
  generalize hu : enterPurge d (s.drum d).cycle.pausedFrom Cycle.cleared (s.onDryness d fun m => { m with confirm := 0 }) = u
  have hb : u.besides d = s.besides d := by rw [← hu]; simp
  have hstarting : Starting (s.driving d) u d .purge := by
    refine ⟨h, by rw [show (s.driving d).cycle = .paused from hc]; rfl, ?_, rfl⟩
    rw [← hu]
    unfold enterPurge
    rw [driving_setCycle, driving_onDryness]
  rw [← clock_of_besides hb]
  exact sequenced_tumbleStart (by unfold ProfilesLast; rw [profiles_of_besides hb]; exact hp) hstarting

theorem sequenced_guardIntervalEnds (hp : ProfilesLast s) (h : (s.driving d).Follows)
    (hc : (s.drum d).cycle.state = .guarding) :
    Driving.Sequenced s.clock ended (s.driving d) ((guardIntervalEnds d s).driving d) := by
  unfold guardIntervalEnds
  split
  next g _ =>
    generalize hu : writeFan d true (s.onCycle d fun c => { c with guardInterval := none }) = u
    have hb : u.besides d = s.besides d := by rw [← hu]; simp
    have hsame : u.driving d = s.driving d := by rw [← hu, driving_writeFan]; exact driving_onCycle rfl
    have hguarding : (s.driving d).cycle = .guarding := hc
    have hstarting : Starting (s.driving d) u d .guarding :=
      ⟨h, by rw [hguarding]; rfl, by rw [hsame, ← hguarding], rfl⟩
    rw [← clock_of_besides hb]
    exact sequenced_tumbleGuard (by unfold ProfilesLast; rw [profiles_of_besides hb]; exact hp) hstarting
  next => exact h.quiet.sequenced

/-! ### The ends of a dwell and of a recover delay (R99, R101) -/

/-- A run that begins from DWELL or RECOVER with target RUN: the drum is in AUTO with STOP in its DRIVE entry. -/
theorem sequenced_beginRun_due (hp : ProfilesLast s) (h : (s.driving d).Follows)
    (hs : (s.drum d).tumble.state = .dwell ∨ (s.drum d).tumble.state = .recover ∧ (s.drum d).tumble.target = some .run)
    (hdue : ended) : Driving.Sequenced s.clock ended (s.driving d) ((beginRun d s).driving d) := by
  have hgoing : ¬(s.driving d).comesToRest := by
    obtain hs | ⟨hs, ht⟩ := hs
    · exact Driving.not_comesToRest_of_dwell hs
    · exact Driving.not_comesToRest_of_target (by rw [show (s.driving d).state = .recover from hs]; nofun)
        (by rw [show (s.driving d).target = some .run from ht]; nofun)
  have hrun : (s.drum d).tumble.state.running = false := by
    obtain hs | ⟨hs, -⟩ := hs <;> rw [hs] <;> rfl
  exact sequenced_beginRun hp h.toOrderly (h.auto hgoing) (h.underWay hgoing) (h.still (h.auto hgoing) hrun) (.inl hdue)

/-! ### A drive status (R97, R101) -/

/-- A confirming status takes DECEL to its target (R97). -/
theorem sequenced_reachTarget (hp : ProfilesLast s) (h0 : x₀.Follows) (h : x₀.Quiet (s.driving d))
    (hs : x₀.state = .decel) (hsame : (s.driving d).state = x₀.state ∧ (s.driving d).target = x₀.target)
    {st : DriveStatus} (hst : (s.driving d).Confirmed st) :
    Driving.Sequenced s.clock ended x₀ ((reachTarget d s).driving d) := by
  obtain ⟨hstate, htarget⟩ := hsame
  have hrun : (s.driving d).state.running = false := by rw [hstate, hs]; rfl
  have hdwell : x₀.state ≠ .dwell := by rw [hs]; nofun
  have hgoing (hx : (s.drum d).tumble.target ≠ some .stopped) : ¬(s.driving d).comesToRest :=
    Driving.not_comesToRest_of_target (by rw [hstate, hs]; nofun) hx
  unfold reachTarget
  cases hx : (s.drum d).tumble.target with
  | none => exact h.sequenced
  | some target =>
    cases target with
    | stopped => exact (quiet_enterStopped h.toCalm hrun).sequenced
    | dwell =>
      have hu := h.follows.underWay (hgoing (by rw [hx]; nofun))
      dsimp only
      rw [driving_leaveRun, driving_onTumble]
      refine Driving.sequenced_dwell h.toCalm hrun hu hdwell hst (Nat.le_add_right_of_le ?_)
      have hfactor : 2 * 1 ≤ (s.drum d).tumble.values.dwell * (s.drum d).tumble.multiplier :=
        Nat.mul_le_mul h.dwellTime h.factor
      omega
    | run =>
      have hgo := hgoing (by rw [hx]; nofun)
      have hgo0 : ¬x₀.comesToRest :=
        Driving.not_comesToRest_of_target (by rw [hs]; nofun) (by rw [← htarget]; exact ne_of_eq_of_ne hx nofun)
      have hoff : (s.onTumble d Tumble.timersOff).driving d = { s.driving d with dwell := none, recoverDelay := none } :=
        driving_onTumble d _ s
      have hcalm : x₀.Calm ((s.onTumble d Tumble.timersOff).driving d) := by
        rw [hoff]
        exact h.leaves hrun (s.driving d).target hrun (by rw [hstate]; exact hdwell)
      dsimp only
      refine sequenced_startDwell (s := s.onTumble d Tumble.timersOff) hp hcalm ?_ ?_ ?_
        (h0.still (h0.auto hgo0) (by rw [hs]; rfl)) hdwell (st := st) ?_ <;> rw [hoff]
      · exact h.follows.auto hgo
      · exact h.follows.underWay hgo
      · exact hrun
      · exact hst

/-- A confirming status in RECOVER starts the recover delay or ends in STOPPED (R101). -/
theorem sequenced_recoverConfirmed (h : x₀.Quiet (s.driving d))
    (hs : (s.drum d).tumble.state = .recover) (hsame : (s.driving d).recoverDelay = x₀.recoverDelay)
    {st : DriveStatus} (hst : (s.driving d).Confirmed st) :
    Driving.Sequenced s.clock ended x₀ ((recoverConfirmed d s).driving d) := by
  unfold recoverConfirmed
  dsimp only
  split
  · exact h.sequenced
  next hdelay =>
    cases hx : (s.drum d).tumble.target with
    | none => exact h.sequenced
    | some target =>
      cases target with
      | dwell => exact h.sequenced
      | stopped => exact (quiet_enterStopped h.toCalm (by rw [hs]; rfl)).sequenced
      | run =>
        dsimp only
        rw [driving_onTumble]
        refine Driving.sequenced_delay h hs hx ?_ hst (ms := (s.drum d).tumble.values.recoverDelay * 1000) ?_
        · rw [← hsame]; exact Option.not_isSome_iff_eq_none.mp hdelay
        · have hlong : 2 ≤ (s.drum d).tumble.values.recoverDelay := h.recoverTime
          omega

theorem sequenced_takeDriveStat {st : DriveStatus} (hp : ProfilesLast s) (h : (s.driving d).Follows) :
    Driving.Sequenced s.clock ended (s.driving d) ((takeDriveStat d st s).driving d) := by
  have hheld : (statusHeld d st s).driving d = { s.driving d with status := some st } := driving_onTumble d _ s
  have hquiet : (s.driving d).Quiet ((statusHeld d st s).driving d) := by
    rw [hheld]; exact h.quiet.withStatus (some st)
  have hstate : ((statusHeld d st s).drum d).tumble.state = (s.drum d).tumble.state := by rw [drum_statusHeld]
  by_cases hm : st.motor = .tripped
  · rw [takeDriveStat_tripped hm]
    exact (quiet_trip hquiet).sequenced
  cases hs : (s.drum d).tumble.state
  case stopped | dwell =>
    rw [takeDriveStat_resting hm (by simp [hs])]
    exact hquiet.sequenced
  case runFwd | runRev =>
    have hrun : (s.drum d).tumble.state.running = true := by rw [hs]; rfl
    have hu := underWay_of_running hquiet (by rw [hstate]; exact hrun)
    rw [takeDriveStat_running hm hrun]
    split
    · exact (quiet_stall hquiet hu).sequenced
    · exact (quiet_statusInRun hquiet hu).sequenced
  case decel =>
    rw [takeDriveStat_decel hm hs]
    split
    next hconfirming =>
      obtain ⟨st', hst⟩ := confirming_iff.mp hconfirming
      exact sequenced_reachTarget (s := statusHeld d st s) hp h hquiet hs (by rw [hheld]; exact ⟨rfl, rfl⟩) hst
    next => exact hquiet.sequenced
  case recover =>
    rw [takeDriveStat_recover hm hs]
    split
    next hconfirming =>
      obtain ⟨st', hst⟩ := confirming_iff.mp hconfirming
      exact sequenced_recoverConfirmed (s := statusHeld d st s) hquiet (hstate.trans hs) (by rw [hheld]) hst
    next => exact hquiet.sequenced

/-! ### The pass-through (R61, R62) -/

theorem sequenced_passDrive {f : PassFrame} (h : (s.driving d).Follows) (hg : (s.drum d).config.gateMode = .service) :
    Driving.Sequenced s.clock ended (s.driving d) ((passDrive d f s).state.driving d) := by
  have hkept : Driving.Sequenced s.clock ended (s.driving d) (s.driving d) := h.quiet.sequenced
  unfold passDrive
  dsimp only
  cases driveCmdOf f.payload with
  | none => exact hkept
  | some v =>
    dsimp only
    split
    · exact hkept
    next hgated =>
      split
      · show Driving.Sequenced s.clock ended (s.driving d) ((writeDrive d v s).driving d)
        rw [driving_writeDrive]
        refine Driving.sequenced_pass h hg fun dir speed hv => ?_
        subst hv
        obtain ⟨st, hst, hm, hlate, hhalf, hlong, -, hdir⟩ := runGated_eq_false.mp (Bool.eq_false_iff.mpr hgated)
        refine ⟨hdir, st, ⟨hst, hm, ?_⟩, hlong⟩
        rw [if_neg fun h => nomatch h.1]
        exact laterThan_iff.mpr ⟨hlate, hhalf⟩
      · exact hkept

theorem sequenced_gate {f : PassFrame} (h : (s.driving d).Follows) :
    Driving.Sequenced s.clock ended (s.driving d) ((gate d f s).state.driving d) := by
  have hkept : Driving.Sequenced s.clock ended (s.driving d) (s.driving d) := h.quiet.sequenced
  have hfan : (passFan d f s).state.driving d = s.driving d := by
    unfold passFan
    (repeat' split) <;> first | rfl | exact driving_writeFan d _ s
  have hslot : (passSlot d f s).state.driving d = s.driving d := by
    unfold passSlot
    split
    · rfl
    · exact driving_onPort rfl rfl
  unfold gate
  split
  · cases hg : (s.drum d).config.gateMode with
    | auto => exact hkept
    | service =>
      dsimp only
      split
      · exact sequenced_passDrive h hg
      · split
        · rw [hfan]; exact hkept
        · exact hkept
  · rw [hslot]; exact hkept

end

end Sys2Proof.Machine
end

section
/-! Every command keeps the rules of the DRIVE entry in every drum: the operations that reach more than one drum, the requests,
and the commands. -/

namespace Sys2Proof.Machine

/-! ### All drums -/

/-- A property of what the rules of the DRIVE entry read, in every drum. -/
def DrivesHold (Q : Drum → Driving → Prop) (s : State) : Prop := ∀ d, Q d (s.driving d)

/-- Since s₀ no drum has begun a run, a dwell or a recover delay. -/
abbrev DrivesQuiet (s₀ : State) : State → Prop := DrivesHold fun d => (s₀.driving d).Quiet

section
variable {Q : Drum → Driving → Prop} {s₀ s t : State} {d : Drum} {r : Request}

theorem drivesHold_of_same (h : ∀ d, t.driving d = s.driving d) (hs : DrivesHold Q s) : DrivesHold Q t := fun d => by
  rw [h d]; exact hs d

theorem drivesHold_of_drums (h : t.drums = s.drums) (hs : DrivesHold Q s) : DrivesHold Q t :=
  drivesHold_of_same (driving_of_drums h) hs

/-- An operation on one drum. -/
theorem drivesHold_of_besides (hb : t.besides d = s.besides d) (hs : DrivesHold Q s) (hd : Q d (t.driving d)) :
    DrivesHold Q t := by
  intro e
  by_cases he : e = d
  · subst he; exact hd
  · rw [driving_of_besides_ne hb he]; exact hs e

/-- An operation on one drum that the rules do not read. -/
theorem drivesHold_of_besides_same (hb : t.besides d = s.besides d) (hd : t.driving d = s.driving d) (hs : DrivesHold Q s) :
    DrivesHold Q t :=
  drivesHold_of_besides hb hs (by rw [hd]; exact hs d)

theorem drivesHold_onlyIf {c : Bool} {f : State → State} (hs : DrivesHold Q s) (hf : c = true → DrivesHold Q (f s)) :
    DrivesHold Q (onlyIf c f s) := by
  unfold onlyIf
  split
  next hc => exact hf hc
  next => exact hs

/-- A check that refuses changes no drum where it fails (R52). -/
theorem drivesHold_check {c : Prop} [Decidable c] {st : Status} {a : Answer} (hs : DrivesHold Q s)
    (ha : ¬c → DrivesHold Q a.state) : DrivesHold Q (if c then refuse st s else a).state := by
  split
  next => exact hs
  next hc => exact ha hc

theorem drivesHold_ok (hs : DrivesHold Q s) : DrivesHold Q (ok s).state := hs

theorem drivesHold_admit {c : Prop} [Decidable c] {st : Status} {a : Answer} (hs : DrivesHold Q s)
    (ha : c → DrivesHold Q a.state) : DrivesHold Q (if c then a else refuse st s).state := by
  split
  next hc => exact ha hc
  next => exact hs

theorem drivesHold_onDrumArg {h : Drum → State → Answer} (hs : DrivesHold Q s) (hh : ∀ d, DrivesHold Q (h d s).state) :
    DrivesHold Q (onDrumArg h r s).state := by
  unfold onDrumArg
  split
  · exact hh _
  · exact hs

theorem drivesHold_onPortArg {h : Drum → State → Answer} (hs : DrivesHold Q s) (hh : ∀ d, DrivesHold Q (h d s).state) :
    DrivesHold Q (onPortArg h r s).state := by
  unfold onPortArg
  split
  · split
    · exact hs
    · exact hh _
  · exact hs

theorem drivesHold_serveItem {h : Nat → State → Answer} (hs : DrivesHold Q s) (hh : ∀ n, DrivesHold Q (h n s).state) :
    DrivesHold Q (serveItem h r s).state := by
  unfold serveItem
  split
  · exact hh _
  · exact hs

theorem drivesHold_onScopePart {f : State → List Byte} (hs : DrivesHold Q s) : DrivesHold Q (onScopePart f r s).state := by
  unfold onScopePart
  split <;> exact hs

theorem drivesHold_onScopeDrum {f : Drum → State → List Byte} (hs : DrivesHold Q s) :
    DrivesHold Q (onScopeDrum f r s).state := by
  unfold onScopeDrum
  split
  · split <;> exact hs
  · exact hs

/-- The engine's part of a request: the drums stand as the owner leaves them. -/
theorem drivesHold_serve {mine : Request → Bool} {h : Request → State → Answer} (hs : DrivesHold Q s)
    (hh : ∀ r rest, DrivesHold Q (h r (s.taken rest)).state) : DrivesHold Q (serve mine h s) := by
  unfold serve
  split
  · exact hs
  next r rest _ =>
    split
    · exact drivesHold_of_same (fun d => driving_answer d r rest (h r) s) (hh r rest)
    · exact hs

theorem drivesQuiet_of_besides (hb : t.besides d = s.besides d) (hs : DrivesQuiet s₀ s)
    (hd : (s₀.driving d).Quiet (s.driving d) → (s₀.driving d).Quiet (t.driving d)) : DrivesQuiet s₀ t :=
  drivesHold_of_besides hb hs (hd (hs d))

/-! ### Lockouts, attributes and events -/

theorem drivesQuiet_lockOut {p : LockoutPath} (hs : DrivesQuiet s₀ s) : DrivesQuiet s₀ (lockOut d p s) := by
  have hset : DrivesQuiet s₀ (setLockout d p s) :=
    drivesHold_of_besides_same (d := d) (by simp [setLockout]) (driving_setLockout d p s) hs
  have hreleased : DrivesQuiet s₀ (releaseDrum d (setLockout d p s)) :=
    drivesHold_of_same (fun e => driving_releaseDrum e d _) hset
  generalize hu : releaseDrum d (setLockout d p s) = u at hreleased
  unfold lockOut
  dsimp only
  rw [hu]
  split
  · exact hs
  · refine drivesQuiet_of_besides (besides_heatEnd d _ _) ?_ quiet_heatEnd
    split <;> exact drivesHold_of_drums rfl hreleased

theorem drivesQuiet_failedAttempt (hs : DrivesQuiet s₀ s) : DrivesQuiet s₀ (failedAttempt d s) := by
  unfold failedAttempt
  dsimp only
  split
  · exact drivesHold_of_besides_same (d := d) (by simp) (by simp) hs
  · exact drivesQuiet_lockOut hs

theorem drivesQuiet_flameByView {st : FlameState} (hs : DrivesQuiet s₀ s) : DrivesQuiet s₀ (flameByView d st s) := by
  have hlost : DrivesQuiet s₀ (flameLost d s) :=
    drivesQuiet_failedAttempt (drivesHold_of_besides_same (d := d) (by simp) (by simp) hs)
  unfold flameByView
  dsimp only
  split
  case h_1 => exact drivesHold_of_besides_same (besides_enterBurning d s) (driving_enterBurning d s) hs
  case h_2 | h_3 => exact drivesQuiet_failedAttempt hs
  case h_4 | h_5 | h_6 => split; exacts [hlost, hs]
  case h_7 => exact hs

theorem drivesQuiet_takeFlameStat {st : FlameStatus} (hs : DrivesQuiet s₀ s) : DrivesQuiet s₀ (takeFlameStat d st s) := by
  have hview : DrivesQuiet s₀ (flameByView d st.flame (s.onBurner d fun b => { b with flame := some st })) :=
    drivesQuiet_flameByView (drivesHold_of_besides_same (d := d) (by simp) (by simp) hs)
  unfold takeFlameStat
  dsimp only
  split
  · exact drivesHold_of_besides_same (besides_setRest d true _) (driving_setRest d true _) hview
  · exact hview

theorem drivesQuiet_cross {a : Fin 8} (hs : DrivesQuiet s₀ s) : DrivesQuiet s₀ (cross d a s) := by
  have hraised : DrivesQuiet s₀
      (raise .attributes .attrCrossed d (some (byte a.val)) (s.onAttr d a fun r => { r with crossed := true })) :=
    drivesHold_of_drums rfl hs
  unfold cross
  dsimp only
  split
  · exact hraised
  · exact drivesQuiet_lockOut hraised
  · exact drivesHold_of_drums rfl hraised

theorem drivesQuiet_takeIncrement {a : Fin 8} (hs : DrivesQuiet s₀ s) : DrivesQuiet s₀ (takeIncrement d a s) := by
  unfold takeIncrement
  dsimp only
  split
  · exact drivesQuiet_cross (drivesHold_of_drums rfl hs)
  · exact drivesHold_of_drums rfl hs

theorem drivesQuiet_evaluate (order : List (Drum × Fin 8)) (hs : DrivesQuiet s₀ s) :
    DrivesQuiet s₀ (evaluate order s).1 := by
  unfold evaluate
  exact List.foldlRecOn (motive := fun p : State × Nat => DrivesQuiet s₀ p.1) order _ hs fun p hp r _ => by
    split
    · exact drivesQuiet_cross hp
    · exact hp

theorem drums_enterAlert (ev : Event) (s : State) : (enterAlert ev s).drums = s.drums := by
  unfold enterAlert
  dsimp only
  (repeat' split) <;> rfl

theorem drivesQuiet_takeEvent {ev : Event} (hs : DrivesQuiet s₀ s) : DrivesQuiet s₀ (takeEvent ev s) :=
  drivesHold_of_drums (drums_enterAlert ev _)
    (drivesQuiet_of_besides (besides_routedAction ev.drum _ s) hs quiet_routedAction)

theorem driving_drynessReset (d e : Drum) (s : State) : (drynessReset e s).driving d = s.driving d := by
  by_cases h : d = e
  · rw [h]; exact driving_onDryness e _ s
  · exact driving_of_besides_ne (besides_drynessReset e s) h

/-- DRUM_RESET brings the controller to rest before the cycle is cleared (R106). -/
theorem drivesQuiet_resetDrum (hs : DrivesQuiet s₀ s) : DrivesQuiet s₀ (resetDrum d s) := by
  have hburner : DrivesQuiet s₀ (burnerReset d s) :=
    drivesHold_of_besides_same (besides_burnerReset d s) (driving_burnerReset d s) hs
  obtain ⟨hquiet, hrests⟩ := quiet_tumbleReset (hburner d)
  have hstopped : DrivesQuiet s₀ (tumbleReset d (burnerReset d s)) :=
    drivesHold_of_besides (besides_tumbleReset d _) hburner hquiet
  have hcleared (f : Cycle → Cycle) : DrivesQuiet s₀ (setCycle d .vacant f (tumbleReset d (burnerReset d s))) :=
    drivesHold_of_besides (besides_setCycle d _ _ _) hstopped
      (quiet_setCycle_rest hquiet.toCalm (fun _ => rfl) hrests)
  unfold resetDrum purgeAlerts
  dsimp only
  intro e
  rw [driving_onRouter, driving_releaseDrum, driving_onFlight, driving_drynessReset]
  exact hcleared _ e

/-! ### The owners of the requests -/

theorem drivesQuiet_writeDrumConfig (hs : DrivesQuiet s₀ s) : DrivesQuiet s₀ (writeDrumConfig r s).state := by
  refine drivesHold_onDrumArg hs fun d => ?_
  split
  · exact hs
  next c _ =>
    refine drivesHold_admit hs fun hidle e => ?_
    by_cases he : e = d
    · subst he
      exact quiet_replaceConfig (hs e) hidle
    · show (s₀.driving e).Quiet ((replaceConfig d c s).driving e)
      rw [driving_of_drum (drum_replaceConfig_ne he)]
      exact hs e

theorem drivesQuiet_cycleLoad (hs : DrivesQuiet s₀ s) : DrivesQuiet s₀ (cycleLoad r s).state := by
  refine drivesHold_onDrumArg hs fun d => ?_
  dsimp only
  split
  · exact hs
  next x _ =>
    refine drivesHold_check hs fun hloads => drivesHold_check hs fun _ => drivesHold_check hs fun hgate =>
      drivesHold_check hs fun _ => ?_
    exact drivesQuiet_of_besides (besides_loadCycle d x s) hs fun hk => quiet_loadCycle hk (by simpa using hloads) hgate

theorem drivesQuiet_cycleUnload (hs : DrivesQuiet s₀ s) : DrivesQuiet s₀ (cycleUnload r s).state :=
  drivesHold_onDrumArg hs fun d => drivesHold_admit hs fun hready =>
    drivesQuiet_of_besides (besides_enterVacant d s) hs fun hk => quiet_enterVacant hk (by rw [hready]; rfl)

theorem drivesQuiet_cyclePause (hs : DrivesQuiet s₀ s) : DrivesQuiet s₀ (cyclePause r s).state := by
  refine drivesHold_onDrumArg hs fun d => ?_
  have hpaused : DrivesQuiet s₀ (pauseOrJoin d .request s) :=
    drivesQuiet_of_besides (besides_pauseOrJoin d _ s) hs quiet_pauseOrJoin
  split
  case h_1 | h_2 | h_3 | h_4 => exact hpaused
  all_goals exact hs

theorem drivesQuiet_cycleEndHeat (hs : DrivesQuiet s₀ s) : DrivesQuiet s₀ (cycleEndHeat r s).state := by
  refine drivesHold_onDrumArg hs fun d => ?_
  have hended : DrivesQuiet s₀ (heatEnd d .endHeat s) := drivesQuiet_of_besides (besides_heatEnd d _ s) hs quiet_heatEnd
  split
  case h_1 | h_2 | h_3 | h_4 | h_5 => exact hended
  all_goals exact hs

theorem drivesHold_bringUp (hs : DrivesHold Q s) : DrivesHold Q (bringUp d s).state := by
  have hmoved : DrivesHold Q (setPortState d .seek s) :=
    drivesHold_of_besides_same (besides_setPortState d _ s) (driving_setPortState d _ s) hs
  unfold bringUp
  split
  case h_1 | h_2 => exact hmoved
  all_goals exact hs

theorem drivesQuiet_holdNodes (hs : DrivesQuiet s₀ s) : DrivesQuiet s₀ (holdNodes d s).state := by
  refine drivesHold_admit hs fun _ => ?_
  dsimp only [ok]
  split
  · exact hs
  · exact drivesQuiet_of_besides (besides_setHold d s) hs quiet_setHold

theorem drivesHold_releaseNodes (hs : DrivesHold Q s) : DrivesHold Q (releaseNodes d s).state := by
  dsimp only [releaseNodes, ok]
  split
  · exact drivesHold_of_besides_same (besides_clearHold d s) (driving_clearHold d s) hs
  · exact hs

theorem drivesQuiet_testRequest {dir : TestDirection} (hs : DrivesQuiet s₀ s) : DrivesQuiet s₀ (testRequest dir r s).state := by
  refine drivesHold_onPortArg hs fun d => ?_
  split
  · exact hs
  · exact drivesHold_admit hs fun _ => drivesQuiet_of_besides (besides_startTest d dir _ s) hs quiet_startTest

theorem drivesQuiet_attrLoad (hs : DrivesQuiet s₀ s) : DrivesQuiet s₀ (attrLoad r s).state := by
  refine drivesHold_check hs fun _ => drivesHold_check hs fun _ => ?_
  split
  · exact hs
  · unfold loadTable
    generalize attrOrder = order
    exact drivesQuiet_evaluate order (drivesHold_of_drums rfl hs)

end

/-- The requests that may begin a run or pass RUN through. -/
def startRequests : List Instr := [.cycleStart, .cycleResume, .passThrough]

/-- Every other owner's work begins no run, no dwell and no recover delay. -/
theorem drivesQuiet_owner {c : Instr} {o : Owner} (hc : ownerOf c = some o) (hstart : c ∉ startRequests) (r : Request)
    {s₀ u : State} (hu : DrivesQuiet s₀ u) : DrivesQuiet s₀ (o.serves r u).state := by
  cases c <;> cases hc
  case cycleStart | cycleResume | passThrough => exact absurd (by simp [startRequests]) hstart
  case badRequest | partReset => exact hu
  case configWriteHeatBudget =>
    exact drivesHold_serveItem hu fun n => drivesHold_check hu fun _ =>
      drivesHold_of_same (fun d => driving_setBudget d n u) hu
  case configWriteBypassLimit =>
    exact drivesHold_serveItem hu fun n => drivesHold_check hu fun _ =>
      drivesHold_of_same (fun d => driving_grantAttempt d _) hu
  case configWriteHeatWaitLimit =>
    exact drivesHold_serveItem hu fun n => drivesHold_check hu fun _ =>
      drivesHold_of_same (fun d => driving_setWaitLimit d n u) hu
  case configWriteBucketSpread | configWriteSignatureSpread =>
    exact drivesHold_serveItem hu fun n => drivesHold_admit hu fun _ => drivesHold_of_drums rfl hu
  case configWriteMissAction =>
    refine drivesHold_serveItem hu fun _ => drivesHold_of_drums ?_ hu
    unfold writeMissAction; split <;> rfl
  case drumConfigWrite => exact drivesQuiet_writeDrumConfig hu
  case profileWrite => exact drivesHold_of_drums (by unfold writeProfile; dsimp only; (repeat' split) <;> rfl) hu
  case routeWrite => exact drivesHold_of_drums (by unfold writeRoute; dsimp only; (repeat' split) <;> rfl) hu
  case classAdd => exact drivesHold_of_drums (by unfold addEntry; dsimp only; (repeat' split) <;> rfl) hu
  case classRemove => exact drivesHold_of_drums (by unfold removeEntry; dsimp only; (repeat' split) <;> rfl) hu
  case classQuery => exact drivesHold_of_drums (by unfold queryTuple; dsimp only; (repeat' split) <;> rfl) hu
  case classRead => exact drivesHold_of_drums (by unfold readEntries; dsimp only; (repeat' split) <;> rfl) hu
  case cycleLoad => exact drivesQuiet_cycleLoad hu
  case cycleUnload => exact drivesQuiet_cycleUnload hu
  case cyclePause => exact drivesQuiet_cyclePause hu
  case cycleEndHeat => exact drivesQuiet_cycleEndHeat hu
  case cycleAbort =>
    exact drivesHold_onDrumArg hu fun d => drivesHold_check hu fun _ =>
      drivesQuiet_of_besides (besides_abortCycle d u) hu quiet_abortCycle
  case drumReset => exact drivesHold_onDrumArg hu fun _ => drivesQuiet_resetDrum hu
  case heatLockoutClear =>
    exact drivesHold_onDrumArg hu fun d => drivesHold_admit hu fun _ =>
      drivesHold_of_besides_same (besides_clearLockout d u) (driving_clearLockout d u) hu
  case powerOff =>
    exact drivesHold_onPortArg hu fun d => drivesHold_admit hu fun _ =>
      drivesQuiet_of_besides (besides_powerOff d u) hu quiet_powerOff
  case serviceOnly =>
    exact drivesHold_onPortArg hu fun d => drivesHold_admit hu fun _ =>
      drivesQuiet_of_besides (besides_serviceOnly d u) hu quiet_serviceOnly
  case bringUp => exact drivesHold_onPortArg hu fun _ => drivesHold_bringUp hu
  case holdNodes => exact drivesHold_onPortArg hu fun _ => drivesQuiet_holdNodes hu
  case releaseNodes => exact drivesHold_onPortArg hu fun _ => drivesHold_releaseNodes hu
  case testSend | testReceive => exact drivesQuiet_testRequest hu
  case testEnd =>
    exact drivesHold_onPortArg hu fun d => drivesHold_of_besides_same (besides_endTest d u) (driving_endTest d u) hu
  case alertAck => exact drivesHold_of_drums (by unfold alertAck ackAlert; dsimp only; (repeat' split) <;> rfl) hu
  case attrLoad => exact drivesQuiet_attrLoad hu
  case attrRead => exact drivesHold_onDrumArg hu fun _ => hu
  case attrClear => exact drivesHold_of_drums (by unfold attrClear onDrumArg; dsimp only; (repeat' split) <;> rfl) hu
  case statusReadPart | statusReadHeat => exact drivesHold_onScopePart hu
  case statusReadDrum | statusReadPort => exact drivesHold_onScopeDrum hu

end Sys2Proof.Machine
end

section
/-! The commands, one by one: what each does to the DRIVE entries (R94 to R105). -/

namespace Sys2Proof.Machine

section
variable {s t : State} {d : Drum} {c : Instr}

/-! ### The commands that begin no run, no dwell and no recover delay -/

/-- A command that acts on one drum where its trigger holds. -/
theorem drivesQuiet_of_trigger {b : State → Bool} {f : State → State} (hs : DrivesQuiet s s)
    (hb : (f s).besides d = s.besides d)
    (hd : b s = true → (s.driving d).Quiet (s.driving d) → (s.driving d).Quiet ((f s).driving d))
    (h : running (fun s => onlyIf (b s) f s) s = .next t) : DrivesQuiet s t :=
  running_keeps hs (drivesHold_onlyIf hs fun hc => drivesQuiet_of_besides hb hs (hd hc)) h

/-- As drivesQuiet_of_trigger, for an operation that the rules do not read. -/
theorem drivesQuiet_of_trigger_same {b : State → Bool} {f : State → State} (hs : DrivesQuiet s s)
    (hb : (f s).besides d = s.besides d) (hd : (f s).driving d = s.driving d)
    (h : running (fun s => onlyIf (b s) f s) s = .next t) : DrivesQuiet s t :=
  drivesQuiet_of_trigger hs hb (fun _ => quiet_of_driving hd) h

/-- A drum at its reset values stands still, whatever it did before. -/
theorem quiet_default {x₀ : Driving} : x₀.Quiet ({} : DrumState).driving where
  service h := nomatch h
  fwd _ h := nomatch h
  rev _ h := nomatch h
  still _ _ := rfl
  delay h := absurd rfl h
  dwellTime := by decide
  recoverTime := by decide
  factor := by decide
  drives := .inl rfl
  dwells h := nomatch h
  delays := .inl rfl
  rests _ := .inl rfl

theorem drivesQuiet_of_reset (h : t.drums = State.reset.drums) : DrivesQuiet s t := fun d => by
  unfold State.driving
  rw [drum_of_reset h d]
  exact quiet_default

/-- A run that R96 ends by length belongs to a cycle under way. -/
theorem underWay_of_reverses {x₀ : Driving} (hk : x₀.Quiet (s.driving d)) (h : (s.drum d).tumble.reverses = true) :
    (s.drum d).cycle.state.underWay = true :=
  underWay_of_running hk (reverses_iff.mp h).1

theorem underWay_of_timeUp {x₀ : Driving} (hk : x₀.Quiet (s.driving d)) (h : (s.drum d).tumble.timeUp = true) :
    (s.drum d).cycle.state.underWay = true :=
  underWay_of_reverses hk (timeUp_iff.mp h).1

theorem quiet_minimumRunReached {x₀ : Driving} (hk : x₀.Quiet (s.driving d))
    (hu : (s.drum d).cycle.state.underWay = true) : x₀.Quiet ((minimumRunReached d s).driving d) := by
  unfold minimumRunReached
  split
  · exact quiet_endNormalRun hk hu
  · split
    · exact quiet_endEarlyRun hk hu
    · exact hk

/-- The commands that may begin a run, a dwell or a recover delay. -/
def startCommands (d : Drum) : List Instr :=
  [.driveStatAbsorbed d, .guardIntervalExpiry d, .dwellExpiry d, .recoverDelayExpiry d]

theorem drivesQuiet_command (hc : ownerOf c = none) (hstart : ∀ d, c ∉ startCommands d) (hs : DrivesQuiet s s)
    (h : exec c s = .next t) : DrivesQuiet s t := by
  have hdrop (p : Drum × Absorbed) : DrivesQuiet s (dropAbsorbed p s) := drivesHold_of_drums rfl hs
  cases c
  case driveStatAbsorbed d | guardIntervalExpiry d | dwellExpiry d | recoverDelayExpiry d =>
    exact absurd (by simp [startCommands]) (hstart d)
  case powerOnReset | resetnAssert => cases h; exact drivesQuiet_of_reset rfl
  case resetnRelease =>
    cases h
    split
    · exact drivesHold_of_drums rfl hs
    · exact hs
  case cabinetLock => exact running_keeps hs (drivesHold_of_drums rfl hs) (show execCabinetLock s = _ from h)
  case cabinetLockLost => exact running_keeps hs (drivesHold_of_drums (drums_cabinetLost s) hs) h
  case cabinetFrameReceived bytes =>
    exact running_keeps hs (drivesHold_onlyIf hs fun _ => drivesHold_of_drums (drums_takeCabinetFrame bytes s) hs) h
  case transmitChoice => exact running_keeps hs (drivesHold_onlyIf hs fun _ => drivesHold_of_drums (drums_choose s) hs) h
  case replyTransmitEnd =>
    refine running_keeps hs ?_ (show execReplyTransmitEnd s = _ from h)
    split
    · split
      · exact drivesQuiet_of_reset rfl
      · exact drivesHold_of_drums rfl hs
    · exact hs
  case alertFrameEnd =>
    refine running_keeps hs ?_ (show execAlertFrameEnd s = _ from h)
    split
    · exact drivesHold_of_drums rfl hs
    · exact hs
  case forwardRecordEnd =>
    refine running_keeps hs ?_ (show execForwardRecordEnd s = _ from h)
    split
    · exact drivesHold_of_drums rfl hs
    · exact hs
  case mainLaneLock d =>
    refine running_keeps hs ?_ (show execMainLaneLock d s = _ from h)
    split
    · exact drivesHold_of_besides_same (besides_enterUp d s) (driving_enterUp d s) hs
    · exact drivesHold_of_besides_same (besides_onPort d _ s) (driving_onPort rfl rfl) hs
    all_goals exact hs
  case mainLaneLockLost d =>
    refine running_keeps hs ?_ (show execMainLaneLockLost d s = _ from h)
    split
    · exact drivesQuiet_of_besides (besides_mainLaneLost d s) hs quiet_mainLaneLost
    · exact drivesHold_of_besides_same (besides_onPort d _ s) (driving_onPort rfl rfl) hs
    all_goals exact hs
  case mainLaneFrameReceived d bytes =>
    exact running_keeps hs (drivesHold_onlyIf hs fun _ => drivesHold_of_same (fun e => driving_takeFrame e d bytes s) hs) h
  case lookup d =>
    refine running_keeps hs ?_ (show execLookup d s = _ from h)
    split
    · exact hs
    · exact drivesHold_of_drums (drums_lookUp _ _) (drivesHold_of_drums rfl hs)
  case inletTempAbsorbed d =>
    refine running_keeps hs ?_ (show execInletTempAbsorbed d s = _ from h)
    split
    · exact drivesHold_of_besides_same (besides_takeInlet d _ _) (driving_takeInlet d _ _) (hdrop _)
    · exact hs
  case exhaustTempAbsorbed d =>
    refine running_keeps hs ?_ (show execExhaustTempAbsorbed d s = _ from h)
    split
    · exact drivesQuiet_of_besides (besides_takeExhaust d _ _) (hdrop _) quiet_takeExhaust
    · exact hs
  case motorCurrentAbsorbed d =>
    refine running_keeps hs ?_ (show execMotorCurrentAbsorbed d s = _ from h)
    split
    · exact drivesHold_of_besides_same (besides_takeCurrent d _ _) (driving_takeCurrent d _ _) (hdrop _)
    · exact hs
  case wetCountAbsorbed d =>
    refine running_keeps hs ?_ (show execWetCountAbsorbed d s = _ from h)
    split
    · exact drivesQuiet_of_besides (besides_takeWet d _ _) (hdrop _) quiet_takeWet
    · exact hs
  case flameStatAbsorbed d =>
    refine running_keeps hs ?_ (show execFlameStatAbsorbed d s = _ from h)
    split
    · exact drivesQuiet_takeFlameStat (hdrop _)
    · exact hs
  case heatDemand d =>
    refine running_keeps hs ?_ (show execHeatDemand d s = _ from h)
    split
    · exact hs
    · exact drivesHold_of_same (fun e => driving_takeDemand e d _ _) (drivesHold_of_drums rfl hs)
  case entryWaitExpiry d => exact running_keeps hs (drivesHold_of_same (fun e => driving_judgeWait e d s) hs) h
  case trialExpiry d => exact running_keeps hs (drivesHold_onlyIf hs fun _ => drivesQuiet_failedAttempt hs) h
  case eventTaken src =>
    refine running_keeps hs ?_ (show execEventTaken src s = _ from h)
    split
    · exact hs
    · exact drivesQuiet_takeEvent (drivesHold_of_drums rfl hs)
  case attributeIncrement src =>
    refine running_keeps hs ?_ (show execAttributeIncrement src s = _ from h)
    split
    · exact hs
    · exact drivesQuiet_takeIncrement (drivesHold_of_drums rfl hs)
  case commandFrameSent d =>
    refine running_keeps hs ?_ (show execCommandFrameSent d s = _ from h)
    split
    · exact hs
    · refine drivesHold_of_besides_same (besides_onPort d _ s) (driving_onPort ?_ ?_) hs <;> dsimp only <;> split <;> rfl
  case graceExpiry d =>
    exact drivesQuiet_of_trigger hs (besides_graceExpires d s) (fun _ => quiet_graceExpires)
      (show execGraceExpiry d s = _ from h)
  case serviceLaneLock d =>
    exact drivesQuiet_of_trigger_same hs (besides_onPort d _ s) (driving_onPort rfl rfl)
      (show execServiceLaneLock d s = _ from h)
  case serviceLaneLockLost d =>
    exact drivesQuiet_of_trigger hs (besides_serviceLaneDown d s) (fun _ => quiet_serviceLaneDown)
      (show execServiceLaneLockLost d s = _ from h)
  case discreteReport d raw =>
    exact drivesQuiet_of_trigger_same hs (besides_takeDiscretes d raw s) (driving_takeDiscretes d raw s)
      (show execDiscreteReport d raw s = _ from h)
  case debounceExpiry d x =>
    exact drivesQuiet_of_trigger hs (besides_debounceExpires d x s)
      (fun _ hk => quiet_changeReading (quiet_of_driving (driving_onPort rfl rfl) hk))
      (show execDebounceExpiry d x s = _ from h)
  case presenceReport d b =>
    exact drivesQuiet_of_trigger hs (besides_setPresence d b s) (fun _ => quiet_setPresence)
      (show execPresenceReport d b s = _ from h)
  case commandFrameSend d =>
    exact drivesQuiet_of_trigger_same hs (besides_beginSend d s) (driving_beginSend d s)
      (show execCommandFrameSend d s = _ from h)
  case refreshExpiry d =>
    exact drivesQuiet_of_trigger_same hs (besides_refreshExpires d s) (driving_refreshExpires d s)
      (show execRefreshExpiry d s = _ from h)
  case standbyExpiry d =>
    exact drivesQuiet_of_trigger hs (besides_movePort d _ s) (fun _ => quiet_movePort) (show execStandbyExpiry d s = _ from h)
  case armReport d =>
    exact drivesQuiet_of_trigger_same hs (besides_testArmed d s) (driving_testArmed d s) (show execArmReport d s = _ from h)
  case armTimeout d =>
    exact drivesQuiet_of_trigger_same hs (besides_leaveTest d _ s) (driving_leaveTest d _ s)
      (show execArmTimeout d s = _ from h)
  case testReport d n =>
    exact drivesQuiet_of_trigger_same hs (besides_closeInterval d _ s) (driving_closeInterval d _ s)
      (show execTestReport d n s = _ from h)
  case checkerInterval d n =>
    exact drivesQuiet_of_trigger_same hs (besides_checkerCloses d n s) (driving_checkerCloses d n s)
      (show execCheckerInterval d n s = _ from h)
  case proveTimeout d =>
    exact drivesQuiet_of_trigger hs (besides_cycleHalt d _ s) (fun _ => quiet_cycleHalt) (show execProveTimeout d s = _ from h)
  case airTimeEnd d =>
    refine drivesQuiet_of_trigger hs (besides_enterTarget d s) (fun hc hk => quiet_enterTarget hk ?_)
      (show execAirTimeEnd d s = _ from h)
    simp only [Bool.and_eq_true, beq_iff_eq] at hc
    rw [hc.1]; rfl
  case dryingTimeLimit d =>
    refine drivesQuiet_of_trigger hs (besides_startCooling d _ s) (fun hc hk => quiet_startCooling hk ?_)
      (show execDryingTimeLimit d s = _ from h)
    simp only [Cycle.dryingUp, Bool.and_eq_true, beq_iff_eq] at hc
    rw [hc.1]; rfl
  case minimumCoolTimeReached d =>
    exact drivesQuiet_of_trigger (d := d) hs (by simp)
      (fun _ hk => quiet_coolTest (s := s.onCycle d fun c => { c with minCoolPassed := true })
        (quiet_of_driving (driving_onCycle rfl) hk))
      (show execMinimumCoolTimeReached d s = _ from h)
  case maximumCoolTime d =>
    refine drivesQuiet_of_trigger hs (besides_coolingEnds d s) (fun hc hk => quiet_coolingEnds hk ?_)
      (show execMaximumCoolTime d s = _ from h)
    simp only [Cycle.coolingReached, Bool.and_eq_true, beq_iff_eq] at hc
    rw [hc.1]; rfl
  case guardLimit d =>
    exact drivesQuiet_of_trigger hs (besides_enterDone d s) (fun _ hk => quiet_enterDone hk.toCalm)
      (show execGuardLimit d s = _ from h)
  case fanOverrunExpiry d =>
    exact drivesQuiet_of_trigger_same (d := d) hs (by simp) (by rw [driving_writeFan]; exact driving_onCycle rfl)
      (show execFanOverrunExpiry d s = _ from h)
  case pauseLimitExpiry d =>
    exact drivesQuiet_of_trigger hs (besides_pauseLimitEnds d s) (fun _ => quiet_pauseLimitEnds)
      (show execPauseLimitExpiry d s = _ from h)
  case statusWaitExpiry d =>
    exact drivesQuiet_of_trigger_same hs (besides_onTumble d _ s) (driving_onTumble d _ s)
      (show execStatusWaitExpiry d s = _ from h)
  case runLengthEnd d =>
    refine drivesQuiet_of_trigger hs (besides_endNormalRun d s) (fun hc hk => quiet_endNormalRun hk ?_)
      (show execRunLengthEnd d s = _ from h)
    exact underWay_of_timeUp hk (Bool.and_eq_true_iff.mp hc).2
  case maximumRunSeconds d =>
    refine drivesQuiet_of_trigger hs (besides_endNormalRun d s) (fun hc hk => quiet_endNormalRun hk ?_)
      (show execMaximumRunSeconds d s = _ from h)
    exact underWay_of_timeUp hk (Bool.and_eq_true_iff.mp hc).2
  case minimumRunReached d =>
    refine drivesQuiet_of_trigger hs (besides_minimumRunReached d s) (fun hc hk => quiet_minimumRunReached hk ?_)
      (show execMinimumRunReached d s = _ from h)
    simp only [Bool.and_eq_true] at hc
    exact underWay_of_reverses hk hc.1.1
  case guardTumbleEnd d =>
    exact drivesQuiet_of_trigger hs (besides_enterDecel d _ s) (fun _ hk => quiet_enterDecel hk.toCalm (.inl rfl))
      (show execGuardTumbleEnd d s = _ from h)
  case decelTimeout d =>
    exact drivesQuiet_of_trigger hs (besides_decelTimeout d s) (fun _ => quiet_decelTimeout) (show execDecelTimeout d s = _ from h)
  case retryDelayExpiry d =>
    exact drivesQuiet_of_trigger_same hs (besides_retryDelayEnds d s) (driving_retryDelayEnds d s)
      (show execRetryDelayExpiry d s = _ from h)
  case stableFlameExpiry d =>
    exact drivesQuiet_of_trigger_same hs (besides_onBurner d _ s) (driving_onBurner d _ s)
      (show execStableFlameExpiry d s = _ from h)
  case inletStarvationExpiry d =>
    exact drivesQuiet_of_trigger_same (d := d) hs (by simp) (by simp) (show execInletStarvationExpiry d s = _ from h)
  case extraDryExpiry d =>
    refine drivesQuiet_of_trigger hs (besides_extraDryEnds d s) (fun hc hk => quiet_extraDryEnds hk ?_)
      (show execExtraDryExpiry d s = _ from h)
    simp only [Bool.and_eq_true, beq_iff_eq] at hc
    rw [hc.1]; rfl
  case sampleStarvationExpiry d =>
    exact drivesQuiet_of_trigger_same (d := d) hs (by simp) (by simp) (show execSampleStarvationExpiry d s = _ from h)
  all_goals cases hc

/-! ### The commands that may -/

/-- The command ends the dwell or the recover delay of drum d (R99, R101). -/
def RunDue (c : Instr) (d : Drum) (x : Driving) : Prop :=
  (c = .dwellExpiry d ∧ x.state = .dwell ∧ x.dwell = some 0) ∨
    (c = .recoverDelayExpiry d ∧ x.state = .recover ∧ x.recoverDelay = some 0)

/-- What command c may do to the DRIVE entries, from s to t. -/
def Sequenced (c : Instr) (s t : State) : Prop :=
  DrivesHold (fun d => Driving.Sequenced s.clock (RunDue c d (s.driving d)) (s.driving d)) t

theorem sequenced_of_quiet (h : DrivesQuiet s t) : Sequenced c s t := fun d => (h d).sequenced

theorem sequenced_cycleStart {r : Request} (hp : ProfilesLast s) (hf : ∀ d, (s.driving d).Follows) :
    Sequenced c s (cycleStart r s).state := by
  have hkept : Sequenced c s s := sequenced_of_quiet fun d => (hf d).quiet
  have hstarted (d : Drum) (hready : (s.drum d).cycle.state = .ready) : Sequenced c s (startCycle d s) :=
    drivesHold_of_besides (besides_startCycle d s) hkept (sequenced_startCycle hp (hf d) hready)
  unfold cycleStart
  refine drivesHold_onDrumArg hkept fun d => ?_
  dsimp only
  exact drivesHold_check hkept fun hready => drivesHold_check hkept fun _ => drivesHold_check hkept fun _ =>
    drivesHold_check hkept fun _ => drivesHold_check hkept fun _ => drivesHold_check hkept fun _ =>
      drivesHold_ok (hstarted d (Decidable.not_not.mp hready))

theorem sequenced_cycleResume {r : Request} (hp : ProfilesLast s) (hf : ∀ d, (s.driving d).Follows) :
    Sequenced c s (cycleResume r s).state := by
  have hkept : Sequenced c s s := sequenced_of_quiet fun d => (hf d).quiet
  have hresumed (d : Drum) (hpaused : (s.drum d).cycle.state = .paused) : Sequenced c s (resumeCycle d s) :=
    drivesHold_of_besides (besides_resumeCycle d s) hkept (sequenced_resumeCycle hp (hf d) hpaused)
  unfold cycleResume
  refine drivesHold_onDrumArg hkept fun d => ?_
  dsimp only
  exact drivesHold_check hkept fun hpaused => drivesHold_check hkept fun _ =>
    drivesHold_ok (hresumed d (Decidable.not_not.mp hpaused))

theorem besides_gate (d : Drum) (f : PassFrame) (s : State) : (gate d f s).state.besides d = s.besides d := by
  have hdrive : (passDrive d f s).state.besides d = s.besides d := by
    unfold passDrive
    dsimp only
    (repeat' split) <;> first | rfl | exact besides_writeDrive d _ s
  have hfan : (passFan d f s).state.besides d = s.besides d := by
    unfold passFan
    (repeat' split) <;> first | rfl | exact besides_writeFan d _ s
  have hslot : (passSlot d f s).state.besides d = s.besides d := by
    unfold passSlot
    split
    · rfl
    · exact besides_onPort d _ s
  unfold gate
  (repeat' split) <;> first | rfl | assumption

theorem sequenced_passThrough {r : Request} (hf : ∀ d, (s.driving d).Follows) :
    Sequenced c s (passThrough r s).state := by
  have hkept : Sequenced c s s := sequenced_of_quiet fun d => (hf d).quiet
  exact drivesHold_onDrumArg hkept fun d => drivesHold_check hkept fun _ => drivesHold_check hkept fun _ =>
    drivesHold_of_besides (besides_gate d _ s) hkept (sequenced_gate (hf d))

theorem sequenced_request {o : Owner} (hp : ProfilesLast s) (hf : ∀ d, (s.driving d).Follows) (hc : ownerOf c = some o)
    (h : exec c s = .next t) : Sequenced c s t := by
  have hquiet : DrivesQuiet s s := fun d => (hf d).quiet
  rw [exec_of_owner hc] at h
  refine running_keeps (P := Sequenced c s) (sequenced_of_quiet hquiet) (drivesHold_serve (sequenced_of_quiet hquiet)
    fun r rest => ?_) h
  by_cases hstart : c ∈ startRequests
  · simp only [startRequests, List.mem_cons, List.not_mem_nil, or_false] at hstart
    obtain rfl | rfl | rfl := hstart <;> cases hc
    · exact sequenced_cycleStart (s := s.taken rest) hp hf
    · exact sequenced_cycleResume (s := s.taken rest) hp hf
    · exact sequenced_passThrough (s := s.taken rest) hf
  · exact sequenced_of_quiet (drivesQuiet_owner hc hstart r (u := s.taken rest) hquiet)

/-- A command that acts on one drum where its trigger holds. -/
theorem sequenced_of_trigger {b : State → Bool} {f : State → State} (hf : ∀ d, (s.driving d).Follows)
    (hb : (f s).besides d = s.besides d)
    (hd : b s = true → Driving.Sequenced s.clock (RunDue c d (s.driving d)) (s.driving d) ((f s).driving d))
    (h : running (fun s => onlyIf (b s) f s) s = .next t) : Sequenced c s t := by
  have hkept : Sequenced c s s := sequenced_of_quiet fun d => (hf d).quiet
  exact running_keeps (P := Sequenced c s) hkept
    (drivesHold_onlyIf hkept fun hc => drivesHold_of_besides hb hkept (hd hc)) h

theorem sequenced_startCommand (hp : ProfilesLast s) (hf : ∀ d, (s.driving d).Follows) (hc : c ∈ startCommands d)
    (h : exec c s = .next t) : Sequenced c s t := by
  simp only [startCommands, List.mem_cons, List.not_mem_nil, or_false] at hc
  obtain rfl | rfl | rfl | rfl := hc
  · have hkept : Sequenced (.driveStatAbsorbed d) s s := sequenced_of_quiet fun d => (hf d).quiet
    refine running_keeps (P := Sequenced (.driveStatAbsorbed d) s) hkept ?_ (show execDriveStatAbsorbed d s = _ from h)
    split
    · exact drivesHold_of_besides (besides_takeDriveStat d _ _) (drivesHold_of_drums rfl hkept)
        (sequenced_takeDriveStat (s := dropAbsorbed _ s) hp (hf d))
    · exact hkept
  · refine sequenced_of_trigger hf (besides_guardIntervalEnds d s) (fun hc => ?_) (show execGuardIntervalExpiry d s = _ from h)
    simp only [Bool.and_eq_true, beq_iff_eq] at hc
    exact sequenced_guardIntervalEnds hp (hf d) hc.1
  · refine sequenced_of_trigger hf (besides_beginRun d s) (fun hc => ?_) (show execDwellExpiry d s = _ from h)
    simp only [Bool.and_eq_true, due, beq_iff_eq] at hc
    exact sequenced_beginRun_due hp (hf d) (.inl hc.1) (.inl ⟨rfl, hc⟩)
  · refine sequenced_of_trigger hf (besides_beginRun d s) (fun hc => ?_) (show execRecoverDelayExpiry d s = _ from h)
    simp only [Bool.and_eq_true, due, beq_iff_eq] at hc
    obtain ⟨⟨hs, ht⟩, hdelay⟩ := hc
    exact sequenced_beginRun_due hp (hf d) (.inr ⟨hs, ht⟩) (.inr ⟨rfl, hs, hdelay⟩)

/-- Every command leads from DRIVE entries that follow their tumble controllers to such entries, in the order of R94 to R101. -/
theorem sequenced_exec (hp : ProfilesLast s) (hf : ∀ d, (s.driving d).Follows) (h : exec c s = .next t) : Sequenced c s t := by
  cases hc : ownerOf c with
  | some o => exact sequenced_request hp hf hc h
  | none =>
    by_cases hstart : ∃ d, c ∈ startCommands d
    · obtain ⟨d, hd⟩ := hstart
      exact sequenced_startCommand hp hf hd h
    · exact sequenced_of_quiet
        (drivesQuiet_command hc (fun d hd => hstart ⟨d, hd⟩) (fun d => (hf d).quiet) h)

/-! ### The profiles and the clock -/

theorem profilesLast_reset (h : s.profiles = State.reset.profiles) : ProfilesLast s := fun n => by
  rw [h, profile_reset]; decide

/-- A written profile lasts as Table 5-2 asks (R91). -/
theorem last_of_profileOf {a : List Byte} {p : Profile} (h : profileOf a = some p) : 2 ≤ p.dwell ∧ 2 ≤ p.recoverDelay := by
  unfold profileOf at h
  split at h
  · dsimp only at h
    split at h
    next hrange =>
      cases h
      simp only [Profile.inRange, within, Bool.and_eq_true, decide_eq_true_eq] at hrange
      show 2 ≤ natAt a 8 ∧ 2 ≤ natAt a 14
      omega
    next => exact nomatch h
  · exact nomatch h

theorem profilesLast_writeProfile {r : Request} (hp : ProfilesLast s) : ProfilesLast (writeProfile r s).state := by
  unfold writeProfile
  split
  next hn =>
    split
    next p hprofile =>
      intro n
      show 2 ≤ (s.profiles.set (natAt r.args 0) p hn)[n].dwell ∧ 2 ≤ (s.profiles.set (natAt r.args 0) p hn)[n].recoverDelay
      by_cases he : natAt r.args 0 = n.val
      · simpa [he] using last_of_profileOf hprofile
      · simpa [he] using hp n
    next => exact hp
  next => exact hp

/-- Only PROFILE_WRITE and the resets change a profile. -/
theorem profilesLast_exec (hp : ProfilesLast s) (h : exec c s = .next t) : ProfilesLast t := by
  by_cases hreset : c ∈ resetCommands
  · simp only [resetCommands, List.mem_cons, List.not_mem_nil, or_false] at hreset
    obtain rfl | rfl | rfl := hreset <;> cases h
    · exact profilesLast_reset rfl
    · exact profilesLast_reset rfl
    · split <;> exact hp
  by_cases hreply : c = .replyTransmitEnd
  · subst hreply
    refine running_keeps hp ?_ (show execReplyTransmitEnd s = _ from h)
    split
    · split
      · exact profilesLast_reset rfl
      · exact hp
    · exact hp
  by_cases hwrite : c = .profileWrite
  · subst hwrite
    refine running_keeps hp ?_ (show execProfileWrite s = _ from h)
    unfold serve
    split
    · exact hp
    next r rest _ =>
      split
      · have hprofiles := congrArg Settings.profiles (settings_answer (r := r) rest (writeProfile r) s)
        have hwritten := profilesLast_writeProfile (s := s.taken rest) (r := r) hp
        intro n
        rw [show (answer r rest (writeProfile r) s).profiles = (writeProfile r (s.taken rest)).state.profiles from hprofiles]
        exact hwritten n
      · exact hp
  · intro n
    rw [show t.profiles = s.profiles from (settingsKept_exec hreset hreply h).profiles hwrite]
    exact hp n

/-! ### A millisecond -/

/-- A millisecond runs timers down: a timer that is stopped stays stopped. -/
theorem driving_follows_tick (hf : ∀ d, (s.driving d).Follows) (d : Drum) : ((tick s).driving d).Follows := by
  have hnone (t : Timer) : countDown true t = none ↔ t = none := by cases t <;> simp [countDown]
  have hd := hf d
  unfold State.driving at hd ⊢
  rw [drum_tick]
  split
  · exact hd
  · obtain ⟨⟨hservice, hfwd, hrev, hstill, hdelay, hdwell, hrecover, hfactor⟩, hrests⟩ := hd
    refine ⟨⟨hservice, hfwd, hrev, hstill, fun hr => hdelay fun h => hr ((hnone _).mpr h), hdwell, hrecover, hfactor⟩,
      fun hc => ?_⟩
    obtain hs | ⟨hs, ht, hr⟩ := hrests hc
    · exact .inl hs
    · exact .inr ⟨hs, ht, (hnone _).mpr hr⟩

theorem drivesFollow_iff : DrivesFollow s ↔ (∀ d, (s.driving d).Follows) ∧ ProfilesLast s :=
  and_congr_left' (forall_congr' fun _ => driveFollows_iff)

end

end Sys2Proof.Machine
end

section
/-! The ends of a dwell and of a recover delay begin a run, and a stop not confirmed in time halts the cycle (R95, R98, R99, R101);
settles O47. -/

namespace Sys2Proof.Machine

section
variable {s t : State} {d : Drum} {c : Instr}

/-! ### What the DRIVE entries' order says of one drum -/

theorem drivesFollow_of_pending (rest : List Instr) (h : DrivesFollow s) : DrivesFollow { s with pending := rest } := h

theorem drivesFollow_exec (hs : DrivesFollow s) (h : exec c s = .next t) : DrivesFollow t := by
  obtain ⟨hf, hp⟩ := drivesFollow_iff.mp hs
  exact drivesFollow_iff.mpr ⟨fun d => (sequenced_exec hp hf h d).toFollows, profilesLast_exec hp h⟩

theorem drivesFollow_step (hs : DrivesFollow s) (h : step s = .next t) : DrivesFollow t := by
  unfold step at h
  split at h
  · cases h
    obtain ⟨hf, hp⟩ := drivesFollow_iff.mp hs
    refine drivesFollow_iff.mpr ⟨driving_follows_tick hf, ?_⟩
    unfold tick
    split <;> exact hp
  next c rest _ => exact drivesFollow_exec (drivesFollow_of_pending rest hs) h

/-! ### The end of a dwell and of a recover delay -/

theorem exec_dwellExpiry (hrun : s.resetHeld = false) :
    exec (.dwellExpiry d) s =
      .next (onlyIf ((s.drum d).tumble.state == .dwell && due (s.drum d).tumble.dwell) (beginRun d) s) := by
  have h : exec (.dwellExpiry d) s = execDwellExpiry d s := rfl
  rw [h, execDwellExpiry, running_released _ hrun]

theorem exec_recoverDelayExpiry (hrun : s.resetHeld = false) :
    exec (.recoverDelayExpiry d) s =
      .next (onlyIf ((s.drum d).tumble.state == .recover && (s.drum d).tumble.target == some .run &&
        due (s.drum d).tumble.recoverDelay) (beginRun d) s) := by
  have h : exec (.recoverDelayExpiry d) s = execRecoverDelayExpiry d s := rfl
  rw [h, execRecoverDelayExpiry, running_released _ hrun]

/-- Either command begins a run where its timer has run out, and does nothing elsewhere (R99, R101). -/
theorem exec_runDue (hrun : s.resetHeld = false) :
    ∀ p ∈ [(Instr.dwellExpiry d, (s.drum d).tumble.state = .dwell ∧ (s.drum d).tumble.dwell = some 0),
      (.recoverDelayExpiry d,
        (s.drum d).tumble.state = .recover ∧ (s.drum d).tumble.target = some .run ∧
          (s.drum d).tumble.recoverDelay = some 0)],
      (¬p.2 → exec p.1 s = .next s) ∧ (p.2 → exec p.1 s = .next (beginRun d s)) := by
  intro p hp
  simp only [List.mem_cons, List.not_mem_nil, or_false] at hp
  obtain rfl | rfl := hp
  · refine ⟨fun h => exec_onlyIf_neg (exec_dwellExpiry hrun) ?_,
      fun ⟨hs, hd⟩ => exec_onlyIf_pos (exec_dwellExpiry hrun) ?_⟩
    · simpa [due] using h
    · rw [hs, hd]; rfl
  · refine ⟨fun h => exec_onlyIf_neg (exec_recoverDelayExpiry hrun) ?_,
      fun ⟨hs, ht, hd⟩ => exec_onlyIf_pos (exec_recoverDelayExpiry hrun) ?_⟩
    · simpa [due, and_assoc] using h
    · rw [hs, ht, hd]; rfl

/-- The direction of the next run, a guard tumble's or a cycle's (R95). -/
theorem nextDir_of {x : Tumble} {dir : Direction} (hfwd : x.guardLength ≠ none ∨ x.first255 = true → dir = .fwd)
    (hnext : x.guardLength = none → x.first255 = false → dir = if x.lastDir = some .fwd then .rev else .fwd) :
    x.nextDir = dir := by
  cases hguard : x.guardLength with
  | none => exact nextDir_eq hguard (fun h => hfwd (.inr h)) (hnext hguard)
  | some n =>
    rw [hfwd (.inl (by rw [hguard]; nofun))]
    simp [Tumble.nextDir, hguard]

/-- A run begins with no tangle counted and no revolution window (R108). -/
theorem tangle_beginRun (d : Drum) (s : State) :
    ((beginRun d s).drum d).tangle.count = 0 ∧ ((beginRun d s).drum d).tangle.windowOpen = false := by
  simp [beginRun, Tangle.closed]

theorem noReversal_of_inForce (h : (s.drum d).tumble.inForce = some 255) : (runValues s d).2 = true := by
  unfold runValues
  dsimp only
  rw [h]
  rfl

theorem settleLoad_eq {x : CycleRecord} {p : DrynessPart} (hx : (s.drum d).cycle.record = some x) (hp : x.dryness = some p) :
    (s.drum d).settleLoad = p.settleCount := by
  unfold DrumState.settleLoad
  rw [hx, Option.bind_some, hp]

/-! ### A stop not confirmed in time -/

theorem exec_decelTimeout (hrun : s.resetHeld = false) :
    exec (.decelTimeout d) s =
      .next (onlyIf (((s.drum d).tumble.state == .decel || (s.drum d).tumble.state == .recover) &&
        due (s.drum d).tumble.decel && s.portUp d) (decelTimeout d) s) := by
  have h : exec (.decelTimeout d) s = execDecelTimeout d s := rfl
  rw [h, execDecelTimeout, running_released _ hrun]

/-- The halt cause is reported from DECEL with the decel timer stopped, after the event and the increment (R98, log 36). -/
theorem decelTimeout_halts (h : (s.drum d).tumble.state = .decel ∨ (s.drum d).tumble.state = .recover) :
    ∃ u : State, decelTimeout d s = cycleHalt d .noStop u ∧
      u.handed = (s.handed.1 ++ [⟨.tumble d, .noStop, d, s.clock, none⟩], s.handed.2 ++ [⟨.tumble d, d, 4⟩]) ∧
      (u.drum d).cycle = (s.drum d).cycle ∧ (u.drum d).tumble.state = .decel ∧ (u.drum d).tumble.decel = none := by
  refine ⟨_, rfl, ?_⟩
  rw [handed_handIncrement, handed_raise]
  obtain hs | hs := h <;> rw [hs]
  · refine ⟨rfl, ?_, ?_, ?_⟩ <;> simp [hs]
  · dsimp only
    rw [handed_leaveRun, clock_of_besides (besides_leaveRun d _ s)]
    refine ⟨rfl, ?_, ?_, ?_⟩ <;> simp [leaveRun_writes, Tumble.timersOff]

/-- A halt leaves a controller in DECEL in DECEL, with its timer as it stands (R85, R103). -/
theorem decel_cycleHalt (h : (s.drum d).tumble.state = .decel) (cause : HaltCause) :
    ((cycleHalt d cause s).drum d).tumble.state = .decel ∧
      ((cycleHalt d cause s).drum d).tumble.decel = (s.drum d).tumble.decel := by
  cases hc : (s.drum d).cycle.state.halts
  case false => rw [cycleHalt_disregarded hc]; exact ⟨h, rfl⟩
  case true =>
    rw [cycleHalt_eq hc]
    simp only [keeps_raise]
    rw [tumble_tumbleStop, tumbleHold_stopping (.inl (by rw [tumble_setCycle]; exact h)), setTarget_tumble, tumble_setCycle]
    exact ⟨h, rfl⟩

end

/-- Settles O47: every command leads from DRIVE entries that follow their tumble controllers to such entries, each RUN over STOP
or a RUN of its direction and 2 s after a confirming status; the end of a dwell or recover delay is a run start, and the decel
timeout a halt. -/
theorem runsBeginAfterDwellAndRecovery : Obligations.RunsBeginAfterDwellAndRecovery := by
  refine ⟨fun s t hs h => drivesFollow_step hs h, fun c s t d hs h => ?_, fun s d hrun => ⟨fun p hp => ?_, ?_, ?_⟩⟩
  · obtain ⟨hf, hp⟩ := drivesFollow_iff.mp hs
    have hseq := sequenced_exec hp hf h d
    refine ⟨fun dir v ht h0 => ?_, fun ht h0 => ?_, fun ht h0 => ?_, hseq.dwellStands, hseq.delayStands⟩
    · obtain ⟨hsame, hdue | ⟨st, ⟨hst, hm, hlate⟩, hlong⟩⟩ := hseq.runs dir v ht h0
      · exact ⟨hsame, hdue.imp_right .inl⟩
      · exact ⟨hsame, .inr (.inr ⟨st, hst, hm, hlate, hlong⟩)⟩
    · obtain ⟨ms, st, hms, hst, hlong⟩ := hseq.dwellBegins ht h0
      exact ⟨confirming_iff.mpr ⟨st, hst⟩, ms, st, hms, hst.1, hlong⟩
    · obtain ⟨ms, st, hms, hst, hlong⟩ := hseq.delayBegins ht h0
      exact ⟨confirming_iff.mpr ⟨st, hst⟩, ms, hms, hlong⟩
  · obtain ⟨hidle, hbegin⟩ := exec_runDue hrun p hp
    refine ⟨hidle, fun hdue dir hfwd hnext => ⟨beginRun d s, hbegin hdue, besides_beginRun d s, ?_, ?_, ?_⟩⟩
    · exact congrArg Prod.fst (handed_beginRun d s)
    · simp [beginRun]
    · have hdir := nextDir_of hfwd hnext
      obtain ⟨hlast, hstate, hdrive, hsettle⟩ := beginRun_writes d s
      obtain ⟨hcount, hwindow⟩ := tangle_beginRun d s
      rw [hdir] at hlast hstate hdrive
      refine ⟨hstate.trans (by cases dir <;> rfl), hlast, ?_, ?_, ?_, ?_, hcount, hwindow, fun n hn => ?_, fun hn => ?_,
        fun x q hx hq => hsettle.trans (settleLoad_eq hx hq)⟩
      case refine_5 =>
        have hvalues := runValues_of_inForce hn (.inl rfl)
        rw [hvalues, runSpeed_eq] at hdrive
        rw [beginRun_tumble, hvalues]
        exact ⟨rfl, rfl, hdrive⟩
      case refine_6 =>
        rw [beginRun_tumble]
        exact ⟨noReversal_of_inForce hn, runValues_of_inForce hn (.inr ⟨rfl, rfl⟩)⟩
      all_goals rw [beginRun_tumble]
  · intro hs hdue hup
    obtain ⟨u, hu, hhanded, hcycle, hdecel, htimer⟩ := decelTimeout_halts hs
    have hexec : exec (.decelTimeout d) s = .next (decelTimeout d s) := by
      refine exec_onlyIf_pos (exec_decelTimeout hrun) ?_
      obtain hs | hs := hs <;> simp [hs, hdue, due, State.portUp, hup]
    obtain ⟨hstate, hstopped⟩ := decel_cycleHalt hdecel .noStop
    obtain ⟨more, hmore⟩ := eventsGrow_cycleHalt d .noStop u
    refine ⟨decelTimeout d s, hexec, besides_decelTimeout d s, ?_⟩
    rw [hu]
    refine ⟨hstate, hstopped.trans htimer, (increments_cycleHalt d .noStop u).trans (congrArg Prod.snd hhanded),
      ⟨more, ?_⟩, fun hc => halted_of_cycleHalt (hcycle ▸ hc) .noStop, fun hc => ?_⟩
    · rw [← hmore, show u.flight.events = _ from congrArg Prod.fst hhanded, List.append_assoc]
      rfl
    · have hrest : (u.drum d).cycle.state.halts = false := by
        rw [hcycle]
        simp only [List.mem_cons, List.not_mem_nil, or_false] at hc
        obtain hc | hc | hc := hc <;> rw [hc] <;> rfl
      rw [cycleHalt_disregarded hrest, hcycle]
  · intro hup
    refine exec_onlyIf_neg (exec_decelTimeout hrun) ?_
    simp [State.portUp, hup]

end Sys2Proof.Machine
end

section
/-! What a drum asks of the allocator: the wanted stage and the demands under way of each drum, and its heat lockout. Every
operation of the drum's blocks keeps them within the bounds the allocator's rules read (R121, R135, R141, R144). -/

namespace Sys2Proof.Machine

/-- A drum asks no more than stage 2, by its wanted stage and by its demands under way, and is in heat lockout only where p
holds. -/
structure DrumAsks (p : Prop) (s : State) (d : Drum) : Prop where
  wanted : (s.drum d).burner.wanted ≤ 2
  demands : ∀ x ∈ s.flight.demands, x.1 = d → x.2 ≤ 2
  lockout : (s.drum d).burner.lockout ≠ none → p

section
variable {p : Prop} {s t : State} {d : Drum}

/-- What a drum asks is read from its burner supervisor and its demands under way. -/
theorem drumAsks_congr (hw : (t.drum d).burner.wanted = (s.drum d).burner.wanted)
    (hl : (t.drum d).burner.lockout = (s.drum d).burner.lockout) (hd : t.flight.demands = s.flight.demands) :
    DrumAsks p t d ↔ DrumAsks p s d := by
  constructor
  · rintro ⟨hwanted, hdemands, hlockout⟩
    exact ⟨hw ▸ hwanted, hd ▸ hdemands, hl ▸ hlockout⟩
  · rintro ⟨hwanted, hdemands, hlockout⟩
    exact ⟨hw ▸ hwanted, hd ▸ hdemands, hl ▸ hlockout⟩

/-! ### Changes of one block -/

@[simp] theorem drumAsks_onPort (f : Port → Port) : DrumAsks p (s.onPort d f) d ↔ DrumAsks p s d :=
  drumAsks_congr (by simp) (by simp) rfl

@[simp] theorem drumAsks_onImage (f : Image → Image) : DrumAsks p (s.onImage d f) d ↔ DrumAsks p s d :=
  drumAsks_congr (by simp) (by simp) rfl

@[simp] theorem drumAsks_onCycle (f : Cycle → Cycle) : DrumAsks p (s.onCycle d f) d ↔ DrumAsks p s d :=
  drumAsks_congr (by simp) (by simp) rfl

@[simp] theorem drumAsks_onTumble (f : Tumble → Tumble) : DrumAsks p (s.onTumble d f) d ↔ DrumAsks p s d :=
  drumAsks_congr (by simp) (by simp) rfl

@[simp] theorem drumAsks_onTangle (f : Tangle → Tangle) : DrumAsks p (s.onTangle d f) d ↔ DrumAsks p s d :=
  drumAsks_congr (by simp) (by simp) rfl

@[simp] theorem drumAsks_onDryness (f : Dryness → Dryness) : DrumAsks p (s.onDryness d f) d ↔ DrumAsks p s d :=
  drumAsks_congr (by simp) (by simp) rfl

/-- A change of the burner's other fields. -/
theorem drumAsks_onBurner {f : Burner → Burner} (hw : (f (s.drum d).burner).wanted = (s.drum d).burner.wanted)
    (hl : (f (s.drum d).burner).lockout = (s.drum d).burner.lockout) : DrumAsks p (s.onBurner d f) d ↔ DrumAsks p s d :=
  drumAsks_congr (by simp [hw]) (by simp [hl]) rfl

@[simp] theorem drumAsks_raise (src : Block) (k : EventKind) (e : Drum) (x : Option Byte) :
    DrumAsks p (raise src k e x s) d ↔ DrumAsks p s d := drumAsks_congr rfl rfl rfl

@[simp] theorem drumAsks_handIncrement (src : Block) (e : Drum) (a : Fin 8) :
    DrumAsks p (handIncrement src e a s) d ↔ DrumAsks p s d := drumAsks_congr rfl rfl rfl

/-! ### The command image and the standby timer -/

@[simp] theorem drumAsks_writeDrive (v : DriveCmd) : DrumAsks p (writeDrive d v s) d ↔ DrumAsks p s d := by
  unfold writeDrive; dsimp only; split <;> simp

@[simp] theorem drumAsks_writeFan (on : Bool) : DrumAsks p (writeFan d on s) d ↔ DrumAsks p s d := by
  unfold writeFan; dsimp only; split <;> simp

@[simp] theorem drumAsks_writeFlame (n : Nat) : DrumAsks p (writeFlame d n s) d ↔ DrumAsks p s d := by
  unfold writeFlame; dsimp only; split <;> simp

@[simp] theorem drumAsks_writeResetLockout : DrumAsks p (writeResetLockout d s) d ↔ DrumAsks p s d := by
  simp [writeResetLockout]

@[simp] theorem drumAsks_settleStandby : DrumAsks p (settleStandby d s) d ↔ DrumAsks p s d :=
  drumAsks_congr (by simp [settleStandby]) (by simp [settleStandby]) rfl

@[simp] theorem drumAsks_reloadStandby : DrumAsks p (reloadStandby d s) d ↔ DrumAsks p s d :=
  drumAsks_congr (by simp [reloadStandby]) (by simp [reloadStandby]) rfl

/-! ### The burner supervisor -/

/-- The recomputation hands on no more than the wanted stage (R144). -/
@[simp] theorem drumAsks_burnerUpdate : DrumAsks p (burnerUpdate d s) d ↔ DrumAsks p s d := by
  obtain ⟨hburner, -, hdemands⟩ := burnerUpdate_writes d s
  have hw : ((burnerUpdate d s).drum d).burner.wanted = (s.drum d).burner.wanted := by rw [hburner]; rfl
  have hl : ((burnerUpdate d s).drum d).burner.lockout = (s.drum d).burner.lockout := by rw [hburner]; rfl
  have hnow : (s.drum d).demandNow ≤ (s.drum d).burner.wanted := Nat.min_le_left _ _
  constructor
  · rintro ⟨hwanted, hunder, hlockout⟩
    refine ⟨hw ▸ hwanted, fun x hx => hunder x ?_, hl ▸ hlockout⟩
    rw [hdemands]
    split
    · exact hx
    · exact List.mem_append_left _ hx
  · rintro ⟨hwanted, hunder, hlockout⟩
    refine ⟨hw ▸ hwanted, fun x hx hxd => ?_, hl ▸ hlockout⟩
    rw [hdemands] at hx
    split at hx
    · exact hunder x hx hxd
    · rcases List.mem_append.mp hx with hx | hx
      · exact hunder x hx hxd
      · rw [List.mem_singleton.mp hx]; exact hnow.trans hwanted

/-- A new wanted stage of at most 2 (R141). -/
theorem drumAsks_wanted {w : Nat} (h : DrumAsks p s d) (hw : w ≤ 2) {f : Burner → Burner}
    (hf : (f (s.drum d).burner).wanted = w) (hl : (f (s.drum d).burner).lockout = (s.drum d).burner.lockout) :
    DrumAsks p (s.onBurner d f) d where
  wanted := by simpa [hf] using hw
  demands := h.demands
  lockout := by simpa [hl] using h.lockout

theorem drumAsks_setWanted {w : Nat} (h : DrumAsks p s d) (hw : w ≤ 2) : DrumAsks p (setWanted d w s) d :=
  drumAsks_burnerUpdate.mpr (drumAsks_wanted h hw rfl rfl)

@[simp] theorem drumAsks_setReading (x : Discrete) (v : Bool) : DrumAsks p (setReading d x v s) d ↔ DrumAsks p s d := by
  simp [setReading]

@[simp] theorem drumAsks_setRest (v : Bool) : DrumAsks p (setRest d v s) d ↔ DrumAsks p s d := by
  simp [setRest, drumAsks_onBurner]

@[simp] theorem drumAsks_burnerNotice : DrumAsks p (burnerNotice d s) d ↔ DrumAsks p s d := by
  simp [burnerNotice, drumAsks_onBurner]

@[simp] theorem drumAsks_enterBurning : DrumAsks p (enterBurning d s) d ↔ DrumAsks p s d := by
  simp [enterBurning, drumAsks_onBurner]

@[simp] theorem drumAsks_retryDelayEnds : DrumAsks p (retryDelayEnds d s) d ↔ DrumAsks p s d := by
  simp [retryDelayEnds, drumAsks_onBurner]

theorem regulate_le (r : CycleRecord) (v : Int) (w : Nat) : regulate r v w ≤ 2 := by
  unfold regulate
  (repeat' split) <;> decide

theorem drumAsks_takeInlet {v : Temperature} (h : DrumAsks p s d) : DrumAsks p (takeInlet d v s) d := by
  unfold takeInlet
  dsimp only
  split
  · refine drumAsks_setWanted (by simpa [drumAsks_onBurner] using h) ?_
    split
    · decide
    · exact regulate_le _ _ _
  · simpa [drumAsks_onBurner] using h

theorem drumAsks_judgeExhaust {v : Temperature} (h : DrumAsks p s d) : DrumAsks p (judgeExhaust d v s) d := by
  have hzero : DrumAsks p (setWanted d 0 (s.onBurner d fun b => { b with exhaustHigh := true })) d :=
    drumAsks_setWanted ((drumAsks_onBurner rfl rfl).mpr h) (by decide)
  unfold judgeExhaust
  dsimp only
  split
  · split
    · exact hzero
    · exact (drumAsks_raise _ _ _ _).mpr hzero
  · exact (drumAsks_onBurner rfl rfl).mpr h

theorem drumAsks_clearLockout (h : DrumAsks p s d) : DrumAsks p (clearLockout d s) d := by
  unfold clearLockout
  rw [drumAsks_writeResetLockout, drumAsks_setRest]
  exact ⟨by simpa using h.wanted, h.demands, by simp⟩

/-- A heat lockout is set where p holds (R149). -/
theorem drumAsks_setLockout {path : LockoutPath} (h : DrumAsks p s d) (hp : p) : DrumAsks p (setLockout d path s) d :=
  drumAsks_burnerUpdate.mpr ⟨by simpa using h.wanted, h.demands, fun _ => hp⟩

/-! ### The tumble controller -/

@[simp] theorem drumAsks_leaveRun (f : Tumble → Tumble) : DrumAsks p (leaveRun d f s) d ↔ DrumAsks p s d := by
  simp [leaveRun]

@[simp] theorem drumAsks_guardTumbleDone : DrumAsks p (guardTumbleDone d s) d ↔ DrumAsks p s d := by
  unfold guardTumbleDone; split <;> simp

@[simp] theorem drumAsks_enterStopped : DrumAsks p (enterStopped d s) d ↔ DrumAsks p s d := by
  unfold enterStopped; dsimp only; split <;> simp

@[simp] theorem drumAsks_enterDecel (x : Target) : DrumAsks p (enterDecel d x s) d ↔ DrumAsks p s d := by
  simp [enterDecel]

@[simp] theorem drumAsks_beginRun : DrumAsks p (beginRun d s) d ↔ DrumAsks p s d := by
  simp [beginRun]

@[simp] theorem drumAsks_startDwell : DrumAsks p (startDwell d s) d ↔ DrumAsks p s d := by
  unfold startDwell
  split
  · rfl
  · split <;> simp

@[simp] theorem drumAsks_startFromStopped : DrumAsks p (startFromStopped d s) d ↔ DrumAsks p s d := by
  unfold startFromStopped; split <;> simp

@[simp] theorem drumAsks_setTarget (x : Target) : DrumAsks p (setTarget d x s) d ↔ DrumAsks p s d := by
  simp [setTarget]

@[simp] theorem drumAsks_firstStart (n : Nat) : DrumAsks p (firstStart d n s) d ↔ DrumAsks p s d := by
  simp [firstStart]

@[simp] theorem drumAsks_tumbleStart (n : Nat) : DrumAsks p (tumbleStart d n s) d ↔ DrumAsks p s d := by
  unfold tumbleStart; dsimp only; split <;> simp

@[simp] theorem drumAsks_tumbleHold : DrumAsks p (tumbleHold d s) d ↔ DrumAsks p s d := by
  unfold tumbleHold; dsimp only
  split
  case h_4 => split <;> simp
  all_goals simp

@[simp] theorem drumAsks_clearPersistence : DrumAsks p (clearPersistence d s) d ↔ DrumAsks p s d := by
  simp [clearPersistence]

@[simp] theorem drumAsks_tumbleStop : DrumAsks p (tumbleStop d s) d ↔ DrumAsks p s d := by
  simp [tumbleStop]

@[simp] theorem drumAsks_tumbleGuard (n : Nat) : DrumAsks p (tumbleGuard d n s) d ↔ DrumAsks p s d := by
  unfold tumbleGuard; split <;> simp

@[simp] theorem drumAsks_endNormalRun : DrumAsks p (endNormalRun d s) d ↔ DrumAsks p s d := by
  simp [endNormalRun]

@[simp] theorem drumAsks_applyPersistence : DrumAsks p (applyPersistence d s) d ↔ DrumAsks p s d := by
  unfold applyPersistence; dsimp only; split <;> simp

@[simp] theorem drumAsks_endEarlyRun : DrumAsks p (endEarlyRun d s) d ↔ DrumAsks p s d := by
  simp [endEarlyRun]

@[simp] theorem drumAsks_reachTarget : DrumAsks p (reachTarget d s) d ↔ DrumAsks p s d := by
  unfold reachTarget; split <;> simp

@[simp] theorem drumAsks_recoverConfirmed : DrumAsks p (recoverConfirmed d s) d ↔ DrumAsks p s d := by
  unfold recoverConfirmed; dsimp only
  split
  · rfl
  · split <;> simp

@[simp] theorem drumAsks_tumbleNotice : DrumAsks p (tumbleNotice d s) d ↔ DrumAsks p s d := by
  unfold tumbleNotice; dsimp only; split <;> simp

@[simp] theorem drumAsks_linkLostNotice : DrumAsks p (linkLostNotice d s) d ↔ DrumAsks p s d := by
  simp [linkLostNotice]

@[simp] theorem drumAsks_takeCurrent (v : Nat) : DrumAsks p (takeCurrent d v s) d ↔ DrumAsks p s d := by
  unfold takeCurrent; dsimp only; split <;> simp

@[simp] theorem drumAsks_statusInRun (st : DriveStatus) : DrumAsks p (statusInRun d st s) d ↔ DrumAsks p s d := by
  unfold statusInRun; dsimp only; (repeat' split) <;> simp

@[simp] theorem drumAsks_minimumRunReached : DrumAsks p (minimumRunReached d s) d ↔ DrumAsks p s d := by
  unfold minimumRunReached
  split
  · simp
  · split <;> simp

/-! ### The cycle controller -/

/-- Every entry to DRYING and every departure from it sets the wanted stage to 0 (R141). -/
theorem drumAsks_setCycle {new : CycleState} {f : Cycle → Cycle} (h : DrumAsks p s d) : DrumAsks p (setCycle d new f s) d := by
  have hburner (b : Burner) (old : CycleState) (n : Nat) :
      ((b.onCycleState old new n).wanted = 0 ∨ (b.onCycleState old new n).wanted = b.wanted) ∧
        (b.onCycleState old new n).lockout = b.lockout := by
    unfold Burner.onCycleState
    (repeat' split) <;> simp
  have hcycle : DrumAsks p (writeFan d new.fanOnEntry (s.onCycle d fun c => { f c with state := new })) d := by simpa using h
  unfold setCycle
  dsimp only
  rw [drumAsks_settleStandby, drumAsks_burnerUpdate]
  generalize writeFan d new.fanOnEntry (s.onCycle d fun c => { f c with state := new }) = u at hcycle
  obtain ⟨hwanted, hlockout⟩ :=
    hburner (u.drum d).burner (s.drum d).cycle.state (u.drum d).config.starvation
  refine ⟨?_, hcycle.demands, ?_⟩
  · simp only [drum_onDrum_self]
    rcases hwanted with hw | hw
    · rw [hw]; decide
    · rw [hw]; exact hcycle.wanted
  · simp only [drum_onDrum_self, hlockout]
    exact hcycle.lockout

theorem drumAsks_enterDone (h : DrumAsks p s d) : DrumAsks p (enterDone d s) d := by
  unfold enterDone; dsimp only; split <;> simpa using drumAsks_setCycle h

theorem drumAsks_cycleHalt {c : HaltCause} (h : DrumAsks p s d) : DrumAsks p (cycleHalt d c s) d := by
  unfold cycleHalt
  split
  · simpa using drumAsks_setCycle h
  · exact h

theorem drumAsks_enterVacant (h : DrumAsks p s d) : DrumAsks p (enterVacant d s) d := drumAsks_setCycle h

theorem drumAsks_pauseCycle {c : PauseCause} (h : DrumAsks p s d) : DrumAsks p (pauseCycle d c s) d := by
  unfold pauseCycle; dsimp only; split <;> simpa using drumAsks_setCycle h

@[simp] theorem drumAsks_joinCause (c : PauseCause) : DrumAsks p (joinCause d c s) d ↔ DrumAsks p s d := by
  simp [joinCause]

theorem drumAsks_pauseOrJoin {c : PauseCause} (h : DrumAsks p s d) : DrumAsks p (pauseOrJoin d c s) d := by
  unfold pauseOrJoin
  split
  case h_1 | h_2 | h_3 => exact drumAsks_pauseCycle h
  case h_4 => exact (drumAsks_joinCause c).mpr h
  all_goals exact h

theorem drumAsks_startCooling {r : Reason} (h : DrumAsks p s d) : DrumAsks p (startCooling d r s) d := drumAsks_setCycle h

theorem drumAsks_heatEnd {r : Reason} (h : DrumAsks p s d) : DrumAsks p (heatEnd d r s) d := by
  unfold heatEnd
  dsimp only
  split
  case h_1 => exact drumAsks_startCooling h
  case h_2 | h_3 => split <;> simpa using h
  all_goals exact h

theorem drumAsks_coolingEnds (h : DrumAsks p s d) : DrumAsks p (coolingEnds d s) d := by
  unfold coolingEnds
  split
  · simpa using drumAsks_setCycle h
  · exact drumAsks_enterDone h

theorem drumAsks_coolTest (h : DrumAsks p s d) : DrumAsks p (coolTest d s) d := by
  unfold coolTest
  split
  · exact drumAsks_coolingEnds h
  · exact h

theorem drumAsks_enterTarget (h : DrumAsks p s d) : DrumAsks p (enterTarget d s) d := by
  unfold enterTarget
  split
  · exact drumAsks_setCycle h
  · exact h

theorem drumAsks_cycleDoorOpened (h : DrumAsks p s d) : DrumAsks p (cycleDoorOpened d s) d := by
  unfold cycleDoorOpened
  split
  case h_1 | h_2 | h_3 | h_4 => exact drumAsks_pauseOrJoin h
  case h_5 => exact drumAsks_enterVacant (drumAsks_enterDone h)
  case h_6 => exact drumAsks_enterVacant h
  all_goals exact h

theorem drumAsks_cycleAirflowLost (h : DrumAsks p s d) : DrumAsks p (cycleAirflowLost d s) d := by
  unfold cycleAirflowLost
  dsimp only
  split
  case h_1 | h_2 => exact drumAsks_pauseCycle h
  case h_3 => simpa using h
  all_goals exact h

@[simp] theorem drumAsks_cycleAirflowProven : DrumAsks p (cycleAirflowProven d s) d ↔ DrumAsks p s d := by
  unfold cycleAirflowProven; dsimp only; split <;> simp

theorem drumAsks_cycleOnChange {x : Discrete} {safe : Bool} (h : DrumAsks p s d) : DrumAsks p (cycleOnChange d x safe s) d := by
  unfold cycleOnChange
  split
  case h_1 => exact drumAsks_cycleDoorOpened h
  case h_2 => exact drumAsks_cycleAirflowLost h
  case h_3 => simpa using h
  case h_4 => exact drumAsks_heatEnd h
  all_goals exact h

theorem drumAsks_cycleNodeLost {n : Nat} (h : DrumAsks p s d) : DrumAsks p (cycleNodeLost d n s) d := by
  unfold cycleNodeLost
  split
  · split
    case h_1 | h_2 | h_3 | h_4 => exact drumAsks_pauseOrJoin h
    case h_5 => exact drumAsks_enterDone h
    all_goals exact h
  · exact h

theorem drumAsks_cycleGraceExpired (h : DrumAsks p s d) : DrumAsks p (cycleGraceExpired d s) d := by
  unfold cycleGraceExpired
  split
  case h_1 | h_2 | h_3 => exact drumAsks_pauseCycle h
  case h_4 => exact drumAsks_enterDone h
  all_goals exact h

theorem drumAsks_routedAction {a : RoutedAction} (h : DrumAsks p s d) : DrumAsks p (routedAction d a s) d := by
  unfold routedAction
  split
  case h_1 => exact h
  case h_2 => exact drumAsks_pauseOrJoin h
  case h_3 => exact drumAsks_heatEnd h
  case h_4 =>
    split
    · exact h
    · exact drumAsks_cycleHalt h

@[simp] theorem drumAsks_guardIntervalEnds : DrumAsks p (guardIntervalEnds d s) d ↔ DrumAsks p s d := by
  unfold guardIntervalEnds; split <;> simp

theorem drumAsks_pauseLimitEnds (h : DrumAsks p s d) : DrumAsks p (pauseLimitEnds d s) d :=
  drumAsks_enterDone (by simpa using h)

/-! ### Work taken by the drum's blocks -/

theorem drumAsks_takeExhaust {v : Temperature} (h : DrumAsks p s d) : DrumAsks p (takeExhaust d v s) d :=
  drumAsks_coolTest (drumAsks_judgeExhaust ((drumAsks_onBurner rfl rfl).mpr h))

theorem drumAsks_stall {st : DriveStatus} (h : DrumAsks p s d) : DrumAsks p (stall d st s) d := by
  unfold stall
  dsimp only
  split
  · exact drumAsks_cycleHalt (by simpa using h)
  · simpa using h

theorem drumAsks_trip {st : DriveStatus} (h : DrumAsks p s d) : DrumAsks p (trip d st s) d := by
  unfold trip
  refine drumAsks_cycleHalt ?_
  split <;> simpa using h

theorem drumAsks_takeDriveStat {st : DriveStatus} (h : DrumAsks p s d) : DrumAsks p (takeDriveStat d st s) d := by
  have htaken : DrumAsks p (s.onTumble d fun t => { t with status := some st }) d := by simpa using h
  unfold takeDriveStat
  dsimp only
  split
  · exact drumAsks_trip htaken
  · split
    case h_1 | h_2 =>
      split
      · exact drumAsks_stall htaken
      · simpa using h
    case h_3 | h_4 => split <;> simpa using h
    all_goals exact htaken

theorem drumAsks_decelTimeout (h : DrumAsks p s d) : DrumAsks p (decelTimeout d s) d := by
  unfold decelTimeout
  refine drumAsks_cycleHalt ?_
  simp only [drumAsks_handIncrement, drumAsks_raise]
  split <;> simpa using h

theorem drumAsks_extraDryEnds (h : DrumAsks p s d) : DrumAsks p (extraDryEnds d s) d :=
  drumAsks_startCooling (by simpa using h)

theorem drumAsks_dryReached {x : DrynessPart} (h : DrumAsks p s d) : DrumAsks p (dryReached d x s) d := by
  unfold dryReached
  dsimp only
  split
  · exact drumAsks_extraDryEnds (by simpa using h)
  · simpa using h

theorem drumAsks_takeWet {v : Nat} (h : DrumAsks p s d) : DrumAsks p (takeWet d v s) d := by
  have htest (x : DrynessPart) {u : State} (hu : DrumAsks p u d) : DrumAsks p (dryTest d x u) d := by
    unfold dryTest
    dsimp only
    split
    · split
      · split
        · exact drumAsks_dryReached (by simpa using hu)
        · simpa using hu
      · simpa using hu
    · exact hu
  unfold takeWet acceptWet
  dsimp only
  split
  · split
    · simpa using h
    · split
      · split
        · exact htest _ (by simpa using h)
        · exact h
      · exact h
  · exact h

/-! ### The drum port -/

@[simp] theorem drumAsks_setPortState (st : PortState) : DrumAsks p (setPortState d st s) d ↔ DrumAsks p s d := by
  simp [setPortState]

@[simp] theorem drumAsks_leaveUp (st : PortState) : DrumAsks p (leaveUp d st s) d ↔ DrumAsks p s d := by
  simp [leaveUp]

@[simp] theorem drumAsks_movePort (st : PortState) : DrumAsks p (movePort d st s) d ↔ DrumAsks p s d := by
  unfold movePort
  dsimp only
  split
  · simp
  · split <;> simp

@[simp] theorem drumAsks_enterUp : DrumAsks p (enterUp d s) d ↔ DrumAsks p s d := by
  simp [enterUp]

theorem drumAsks_graceExpires (h : DrumAsks p s d) : DrumAsks p (graceExpires d s) d :=
  drumAsks_cycleGraceExpired (by simpa using h)

theorem drumAsks_mainLaneLost (h : DrumAsks p s d) : DrumAsks p (mainLaneLost d s) d := by
  unfold mainLaneLost
  dsimp only
  split
  · split
    · exact drumAsks_graceExpires (by simpa using h)
    · simpa using h
  · simpa using h

theorem drumAsks_wake {c : Bool} (h : DrumAsks p s d) : DrumAsks p (if c then setPortState d .seek s else s) d := by
  split
  · exact (drumAsks_setPortState .seek).mpr h
  · exact h

theorem drumAsks_changeReading {x : Discrete} {safe accepted : Bool} (h : DrumAsks p s d) :
    DrumAsks p (changeReading d x safe accepted s) d := by
  unfold changeReading
  refine drumAsks_wake (drumAsks_cycleOnChange ?_)
  have hcounted {c : Bool} {u : State} (hu : DrumAsks p u d) :
      DrumAsks p (if c then handIncrement (.burner d) d 2 u else u) d := by
    split <;> simpa using hu
  refine hcounted ?_
  rw [drumAsks_reloadStandby, drumAsks_setReading]
  split <;> simpa using h

theorem drumAsks_forceSafe {x : Discrete} (h : DrumAsks p s d) : DrumAsks p (forceSafe d x s) d := by
  unfold forceSafe
  split
  · exact h
  · exact drumAsks_changeReading h

theorem drumAsks_presenceChange {old new : BitVec 16} (n : Nat) (h : DrumAsks p s d) :
    DrumAsks p (presenceChange d old new s n) d := by
  unfold presenceChange
  split
  · simpa using h
  · split
    · exact drumAsks_cycleNodeLost (by simpa using h)
    · exact h

theorem drumAsks_setPresence {report : BitVec 16} (h : DrumAsks p s d) : DrumAsks p (setPresence d report s) d := by
  unfold setPresence
  exact List.foldlRecOn (motive := fun u => DrumAsks p u d) nodeAddresses _ ((drumAsks_onPort _).mpr h)
    fun _ hu n _ => drumAsks_presenceChange n hu

theorem drumAsks_serviceLaneDown (h : DrumAsks p s d) : DrumAsks p (serviceLaneDown d s) d :=
  drumAsks_setPresence
    (drumAsks_forceSafe (drumAsks_forceSafe (drumAsks_forceSafe (drumAsks_forceSafe ((drumAsks_onPort _).mpr h)))))

theorem drumAsks_setHold (h : DrumAsks p s d) : DrumAsks p (setHold d s) d :=
  drumAsks_setPresence ((drumAsks_onPort _).mpr h)

@[simp] theorem drumAsks_beginSend : DrumAsks p (beginSend d s) d ↔ DrumAsks p s d := by
  unfold beginSend; dsimp only; split <;> simp

@[simp] theorem drumAsks_leaveTest (x : TestOutcome) : DrumAsks p (leaveTest d x s) d ↔ DrumAsks p s d := by
  simp [leaveTest]

@[simp] theorem drumAsks_closeInterval (n : Nat) : DrumAsks p (closeInterval d n s) d ↔ DrumAsks p s d := by
  unfold closeInterval; dsimp only; split <;> simp

/-! ### Requests -/

theorem drumAsks_enterPurge {x : Option Phase} {f : Cycle → Cycle} (h : DrumAsks p s d) :
    DrumAsks p (enterPurge d x f s) d := drumAsks_setCycle h

theorem drumAsks_startCycle (h : DrumAsks p s d) : DrumAsks p (startCycle d s) d := by
  unfold startCycle
  rw [drumAsks_tumbleStart, drumAsks_firstStart]
  exact drumAsks_enterPurge ((drumAsks_onDryness _).mpr h)

theorem drumAsks_resumeCycle (h : DrumAsks p s d) : DrumAsks p (resumeCycle d s) d := by
  unfold resumeCycle
  rw [drumAsks_tumbleStart]
  exact drumAsks_enterPurge ((drumAsks_onDryness _).mpr h)

theorem drumAsks_abortCycle (h : DrumAsks p s d) : DrumAsks p (abortCycle d s) d := by
  unfold abortCycle
  dsimp only
  split
  case h_1 => exact drumAsks_startCooling h
  case h_2 =>
    split
    · exact drumAsks_setCycle h
    · exact drumAsks_startCooling h
  case h_3 | h_4 | h_5 => exact drumAsks_enterDone ((drumAsks_onCycle _).mpr h)
  case h_6 => exact drumAsks_enterVacant h
  all_goals exact h

theorem drumAsks_powerOff (h : DrumAsks p s d) : DrumAsks p (powerOff d s) d := by
  unfold powerOff
  split
  · exact h
  · exact drumAsks_serviceLaneDown ((drumAsks_movePort .off).mpr h)

@[simp] theorem drumAsks_serviceOnly : DrumAsks p (serviceOnly d s) d ↔ DrumAsks p s d := by
  unfold serviceOnly; split <;> simp

@[simp] theorem drumAsks_endTest : DrumAsks p (endTest d s) d ↔ DrumAsks p s d := by
  unfold endTest; dsimp only; split <;> simp

end

end Sys2Proof.Machine
end

section
/-! The heat allocator's ledger: what the rules of chapter 7 keep together in the allocator alone (R117 to R121, R129), and the
changes of one drum's share that keep it. -/

namespace Sys2Proof.Machine

/-! ### Shares and entries -/

/-- The allocator's record of a drum. -/
def Heat.share (h : Heat) (d : Drum) : HeatShare := h.shares[d]

theorem heat_share (s : State) (d : Drum) : s.heat.share d = s.share d := rfl

/-- A drum's record: held demand and granted stage in order and at most 2, a copy of the costs where a stage is held, and a
copy whose costs do not fall (R67, R118, R121). -/
structure HeatShare.Sound (x : HeatShare) : Prop where
  held : x.held ≤ 2
  granted : x.granted ≤ x.held
  copy : 0 < x.granted → x.costs ≠ none
  ordered : ∀ c, x.costs = some c → c.c1 ≤ c.c2

/-- What the rules of the queue read of an entry: drum, wanted stage and cost. -/
def HeatEntry.request (e : HeatEntry) : Drum × Nat × Nat := (e.drum, e.wanted, e.cost)

/-- An entry wants its drum's held demand, above the granted stage, at the incremental cost from the drum's copy (R120). -/
structure HeatEntry.Fits (e : HeatEntry) (x : HeatShare) : Prop where
  raises : x.granted < e.wanted
  wanted : e.wanted = x.held
  copy : x.costs ≠ none
  cost : e.cost + x.heldCost = x.cost e.wanted

section
variable {x y : HeatShare} {e e' : HeatEntry} {c : Costs} {g w : Nat} {h h' : Heat} {d : Drum}

theorem fits_of_request (hr : e'.request = e.request) (hf : e.Fits x) : e'.Fits x := by
  simp only [HeatEntry.request, Prod.mk.injEq] at hr
  obtain ⟨-, hw, hc⟩ := hr
  exact ⟨hw ▸ hf.raises, hw ▸ hf.wanted, hf.copy, by rw [hw, hc]; exact hf.cost⟩

theorem drum_of_request (hr : e'.request = e.request) : e'.drum = e.drum := congrArg Prod.fst hr

theorem Costs.of_le_of (hc : c.c1 ≤ c.c2) (hg : g ≤ w) : c.of g ≤ c.of w := by
  unfold Costs.of
  (repeat' split) <;> omega

/-- The costs of a sound record do not fall as the stage rises. -/
theorem HeatShare.Sound.cost_le (hx : x.Sound) (hg : g ≤ w) : x.cost g ≤ x.cost w := by
  unfold HeatShare.cost
  split
  next c hc => exact Costs.of_le_of (hx.ordered c hc) hg
  next => exact Nat.le_refl 0

/-- No stage costs nothing, whatever the copy. -/
theorem HeatShare.heldCost_of_granted (hx : x.granted = 0) : x.heldCost = 0 := by
  unfold HeatShare.heldCost HeatShare.cost Costs.of
  rw [hx]
  split <;> rfl

theorem share_set (hs : h'.shares = h.shares.set d x) (e : Drum) : h'.share e = if e = d then x else h.share e := by
  unfold Heat.share
  rw [hs]
  split
  next he => subst he; simp
  next he =>
    have := Fin.val_ne_of_ne he
    simp [this.symm]

/-- A drum's new record changes the held sum by its held cost (R117). -/
theorem heldSum_set (hs : h'.shares = h.shares.set d x) : h'.heldSum + (h.share d).heldCost = h.heldSum + x.heldCost := by
  have hsum (k : Heat) : k.heldSum = ∑ e, (k.share e).heldCost := by
    rw [Fin.sum_univ_four]
    simp only [Heat.heldSum, drums, List.map_cons, List.map_nil, List.sum_cons, List.sum_nil, Heat.share]
    omega
  have hsplit (k : Heat) : k.heldSum = (k.share d).heldCost + ∑ e ∈ Finset.univ.erase d, (k.share e).heldCost := by
    rw [hsum, Finset.add_sum_erase _ (fun e => (k.share e).heldCost) (Finset.mem_univ d)]
  have hothers : ∑ e ∈ Finset.univ.erase d, (h'.share e).heldCost = ∑ e ∈ Finset.univ.erase d, (h.share e).heldCost :=
    Finset.sum_congr rfl fun e he => by rw [share_set hs, if_neg (Finset.ne_of_mem_erase he)]
  have hd : h'.share d = x := by rw [share_set hs, if_pos rfl]
  rw [hsplit h', hsplit h, hothers, hd]
  omega

end

/-! ### The ledger -/

/-- The allocator alone: the held sum within the budget, one entry for each drum, sound records, entries that fit their drums'
records, the grant list of exactly the drums that hold a stage, and no heat for a barred drum (R117 to R121). -/
structure Ledger (barred : Drum → Prop) (h : Heat) : Prop where
  budget : h.heldSum ≤ h.budget
  oneEach : (h.queue.map (·.drum)).Nodup
  shares : ∀ d, (h.share d).Sound
  entries : ∀ e ∈ h.queue, e.Fits (h.share e.drum)
  listed : h.grants.Nodup
  holders : ∀ d, d ∈ h.grants ↔ 0 < (h.share d).granted
  bars : ∀ d, barred d → (h.share d).granted = 0 ∧ ∀ e ∈ h.queue, e.drum ≠ d

/-- From h to h' the allocator changes the record, the entry and the place in the grant list of one drum. -/
structure Heat.Moves (h h' : Heat) (d : Drum) (x : HeatShare) : Prop where
  shares : h'.shares = h.shares.set d x
  sound : x.Sound
  cost : h.heldSum + x.heldCost ≤ h'.budget + (h.share d).heldCost
  oneEach : (h'.queue.map (·.drum)).Nodup
  entry : ∀ e ∈ h'.queue, e.drum = d → e.Fits x
  others : ∀ e ∈ h'.queue, e.drum ≠ d → ∃ y ∈ h.queue, e.request = y.request
  listed : h'.grants.Nodup
  place : ∀ e, e ∈ h'.grants ↔ if e = d then 0 < x.granted else e ∈ h.grants

section
variable {barred barred' : Drum → Prop} {h h' : Heat} {d : Drum} {x : HeatShare} {e : HeatEntry} {g w : Nat}

theorem Ledger.move (hl : Ledger barred h) (hm : h.Moves h' d x) (hbarred : ∀ e, e ≠ d → barred' e → barred e)
    (hd : barred' d → x.granted = 0 ∧ ∀ e ∈ h'.queue, e.drum ≠ d) : Ledger barred' h' := by
  have hown : h'.share d = x := by rw [share_set hm.shares, if_pos rfl]
  have hother {e : Drum} (he : e ≠ d) : h'.share e = h.share e := by rw [share_set hm.shares, if_neg he]
  refine ⟨?_, hm.oneEach, fun e => ?_, fun e he => ?_, hm.listed, fun e => ?_, fun e he => ?_⟩
  · have := heldSum_set hm.shares
    have := hm.cost
    omega
  · by_cases hed : e = d
    · rw [hed, hown]; exact hm.sound
    · rw [hother hed]; exact hl.shares e
  · by_cases hed : e.drum = d
    · rw [hed, hown]; exact hm.entry e he hed
    · obtain ⟨y, hy, hr⟩ := hm.others e he hed
      rw [hother hed, drum_of_request hr]
      exact fits_of_request hr (hl.entries y hy)
  · rw [hm.place e]
    by_cases hed : e = d
    · rw [if_pos hed, hed, hown]
    · rw [if_neg hed, hother hed]; exact hl.holders e
  · by_cases hed : e = d
    · rw [hed] at he ⊢; rw [hown]; exact hd he
    · obtain ⟨hgranted, hqueue⟩ := hl.bars e (hbarred e hed he)
      refine ⟨by rw [hother hed]; exact hgranted, fun z hz hze => ?_⟩
      obtain ⟨y, hy, hr⟩ := hm.others z hz (hze ▸ hed)
      exact hqueue y hy ((drum_of_request hr).symm.trans hze)

/-- The same records, grant list and requests, within the budget in force. -/
theorem Ledger.congr (hl : Ledger barred h) (hs : h'.shares = h.shares) (hg : h'.grants = h.grants)
    (hq : h'.queue.map HeatEntry.request = h.queue.map HeatEntry.request) (hb : h'.heldSum ≤ h'.budget) :
    Ledger barred h' := by
  have hshare (e : Drum) : h'.share e = h.share e := by unfold Heat.share; rw [hs]
  have hdrums : h'.queue.map (·.drum) = h.queue.map (·.drum) := by
    have := congrArg (List.map Prod.fst) hq
    simpa [List.map_map, Function.comp_def, HeatEntry.request] using this
  have hmem {e : HeatEntry} (he : e ∈ h'.queue) : ∃ y ∈ h.queue, y.request = e.request := by
    have : e.request ∈ h'.queue.map HeatEntry.request := List.mem_map_of_mem he
    rw [hq] at this
    exact List.mem_map.mp this
  refine ⟨hb, hdrums ▸ hl.oneEach, fun e => hshare e ▸ hl.shares e, fun e he => ?_, hg ▸ hl.listed, fun e => ?_,
    fun e he => ?_⟩
  · obtain ⟨y, hy, hr⟩ := hmem he
    rw [hshare, ← drum_of_request hr]
    exact fits_of_request hr.symm (hl.entries y hy)
  · rw [hg, hshare]; exact hl.holders e
  · obtain ⟨hgranted, hqueue⟩ := hl.bars e he
    refine ⟨by rw [hshare]; exact hgranted, fun z hz hze => ?_⟩
    obtain ⟨y, hy, hr⟩ := hmem hz
    exact hqueue y hy ((drum_of_request hr).trans hze)

/-! ### Queue and grant list without a drum -/

theorem oneEach_filter (hl : Ledger barred h) : ((h.queue.filter fun e => e.drum != d).map (·.drum)).Nodup :=
  hl.oneEach.sublist (List.filter_sublist.map _)

theorem mem_filter_drum {q : List HeatEntry} : e ∈ q.filter (fun e => e.drum != d) ↔ e ∈ q ∧ e.drum ≠ d := by
  simp

theorem mem_filter_grants {l : List Drum} {e : Drum} : e ∈ l.filter (fun e => e != d) ↔ e ∈ l ∧ e ≠ d := by
  simp

/-! ### A grant, a lowered stage (R119, R122, R126) -/

/-- A grant (R126): the entry's cost is within the free amount. -/
theorem Ledger.grant (hl : Ledger barred h) (he : e ∈ h.queue) (hc : e.cost ≤ h.free) :
    Ledger barred
      { h with
        shares := h.shares.set e.drum { h.shares[e.drum] with granted := e.wanted }
        grants := h.grants.filter (· != e.drum) ++ [e.drum]
        queue := h.queue.filter fun y => y.drum != e.drum } := by
  have hfits := hl.entries e he
  have hsound := hl.shares e.drum
  have hbudget := hl.budget
  have hcost : e.cost + (h.share e.drum).heldCost = (h.share e.drum).cost e.wanted := hfits.cost
  have hfree : e.cost ≤ h.budget - h.heldSum := hc
  refine hl.move (x := { h.share e.drum with granted := e.wanted }) (d := e.drum)
    ⟨rfl, ?_, ?_, oneEach_filter hl, ?_, ?_, ?_, ?_⟩ (fun _ _ hb => hb) fun hb => absurd rfl ((hl.bars e.drum hb).2 e he)
  · exact ⟨hsound.held, hfits.wanted.le, fun _ => hfits.copy, hsound.ordered⟩
  · have : ({ h.share e.drum with granted := e.wanted } : HeatShare).heldCost = (h.share e.drum).cost e.wanted := rfl
    rw [this]
    dsimp only
    omega
  · intro y hy hyd; exact absurd hyd (mem_filter_drum.mp hy).2
  · intro y hy _; exact ⟨y, (mem_filter_drum.mp hy).1, rfl⟩
  · rw [List.nodup_append]
    exact ⟨hl.listed.filter _, List.nodup_singleton _, by simp⟩
  · intro y
    dsimp only
    rw [List.mem_append, mem_filter_grants, List.mem_singleton]
    split
    next hy =>
      have := hfits.raises
      have : 0 < e.wanted := by omega
      simp [hy, this]
    next hy => simp [hy]

/-- A drum lowered to a stage, without an entry (R119, R122, R134): lowered to 0 it leaves the grant list. -/
theorem Ledger.lower (hl : Ledger barred h) (hw : w ≤ (h.share d).granted) {grants : List Drum} {costs : Option Costs}
    (hgrants : grants = h.grants.filter (· != d) ∧ w = 0 ∨ grants = h.grants ∧ (0 < w ∨ (h.share d).granted = 0))
    (hcosts : costs = (h.share d).costs ∨ w = 0 ∧ costs = none) (hbarred : ∀ e, e ≠ d → barred' e → barred e)
    (hd : barred' d → w = 0) :
    Ledger barred'
      { h with
        shares := h.shares.set d { granted := w, held := w, costs := costs }
        grants := grants
        queue := h.queue.filter fun e => e.drum != d } := by
  have hsound := hl.shares d
  have htwo : (h.share d).granted ≤ 2 := hsound.granted.trans hsound.held
  refine hl.move (x := { granted := w, held := w, costs := costs }) (d := d) ⟨rfl, ?_, ?_, oneEach_filter hl, ?_, ?_, ?_, ?_⟩
    hbarred fun hb => ⟨hd hb, fun e he => (mem_filter_drum.mp he).2⟩
  · refine ⟨hw.trans htwo, Nat.le_refl w, fun hpos => ?_, fun c hc => ?_⟩
    · rcases hcosts with hcosts | ⟨hzero, -⟩
      · dsimp only at hpos ⊢
        rw [hcosts]
        exact hsound.copy (by omega)
      · exact absurd hzero (Nat.ne_of_gt hpos)
    · rcases hcosts with hcosts | ⟨-, hnone⟩
      · exact hsound.ordered c (hcosts ▸ hc)
      · rw [hnone] at hc; cases hc
  · have hheld : (HeatShare.mk w w costs).heldCost ≤ (h.share d).heldCost := by
      rcases hcosts with hcosts | ⟨hzero, -⟩
      · have : (HeatShare.mk w w costs).heldCost = (h.share d).cost w := by
          rw [hcosts]; rfl
        rw [this]
        exact hsound.cost_le hw
      · rw [HeatShare.heldCost_of_granted hzero]; exact Nat.zero_le _
    exact Nat.add_le_add hl.budget hheld
  · intro y hy hyd; exact absurd hyd (mem_filter_drum.mp hy).2
  · intro y hy _; exact ⟨y, (mem_filter_drum.mp hy).1, rfl⟩
  · rcases hgrants with ⟨hg, -⟩ | ⟨hg, -⟩ <;> dsimp only <;> rw [hg]
    · exact hl.listed.filter _
    · exact hl.listed
  · intro y
    dsimp only
    rcases hgrants with ⟨hg, hzero⟩ | ⟨hg, hpos⟩ <;> rw [hg]
    · rw [mem_filter_grants, hzero]
      split
      next hy => simp [hy]
      next hy => simp [hy]
    · split
      next hy =>
        rw [hy, hl.holders d]
        omega
      next hy => rfl

/-! ### A raised demand (R121) -/

/-- A demand above the granted stage of a drum without an entry makes one at the tail. -/
theorem Ledger.raise (hl : Ledger barred h) (hw : (h.share d).granted < w) (htwo : w ≤ 2) (hd : ¬barred d)
    (hnone : ∀ e ∈ h.queue, e.drum ≠ d) {c : Costs}
    (hc : (h.share d).costs = some c ∨ (h.share d).costs = none ∧ c.c1 ≤ c.c2) (now : Clock) :
    Ledger barred
      { h with
        shares := h.shares.set d { h.share d with held := w, costs := some c }
        queue := h.queue ++ [⟨d, w, c.of w - c.of (h.share d).granted, 0, now, false⟩] } := by
  have hsound := hl.shares d
  have hordered : c.c1 ≤ c.c2 := by
    rcases hc with hc | ⟨-, hc⟩
    · exact hsound.ordered c hc
    · exact hc
  have hheld : ({ h.share d with held := w, costs := some c } : HeatShare).heldCost = (h.share d).heldCost := by
    rcases hc with hc | ⟨hc, -⟩
    · unfold HeatShare.heldCost HeatShare.cost; rw [hc]
    · have hzero : (h.share d).granted = 0 := by
        by_contra hne
        exact hsound.copy (Nat.pos_of_ne_zero hne) hc
      have hfree : ({ h.share d with held := w, costs := some c } : HeatShare).heldCost = 0 := HeatShare.heldCost_of_granted hzero
      exact hfree.trans (HeatShare.heldCost_of_granted hzero).symm
  refine hl.move (x := { h.share d with held := w, costs := some c }) (d := d) ⟨rfl, ?_, ?_, ?_, ?_, ?_, hl.listed, ?_⟩
    (fun _ _ hb => hb) fun hb => absurd hb hd
  · exact ⟨htwo, hw.le, fun _ => Option.some_ne_none c, fun x hx => by cases hx; exact hordered⟩
  · rw [hheld]; exact Nat.add_le_add_right hl.budget _
  · rw [List.map_append, List.nodup_append]
    refine ⟨hl.oneEach, List.nodup_singleton _, ?_⟩
    simpa using hnone
  · intro y hy hyd
    rcases List.mem_append.mp hy with hy | hy
    · exact absurd hyd (hnone y hy)
    · rw [List.mem_singleton.mp hy]
      have hle := Costs.of_le_of hordered hw.le
      refine ⟨hw, rfl, Option.some_ne_none c, ?_⟩
      show c.of w - c.of (h.share d).granted + c.of (h.share d).granted = c.of w
      omega
  · intro y hy hyd
    rcases List.mem_append.mp hy with hy | hy
    · exact ⟨y, hy, rfl⟩
    · rw [List.mem_singleton.mp hy] at hyd; exact absurd rfl hyd
  · intro y
    dsimp only
    split
    next hy => rw [hy]; exact hl.holders d
    next => rfl

/-- Updated entries keep their drums. -/
theorem map_drum_map {q : List HeatEntry} {f : HeatEntry → HeatEntry} (hf : ∀ e, (f e).drum = e.drum) :
    (q.map f).map (·.drum) = q.map (·.drum) := by
  rw [List.map_map]
  exact List.map_congr_left fun e _ => hf e

/-- A demand above the granted stage of a drum with an entry updates it in its place. -/
theorem Ledger.raise_again (hl : Ledger barred h) (hw : (h.share d).granted < w) (htwo : w ≤ 2)
    (hsome : ∃ e ∈ h.queue, e.drum = d) :
    Ledger barred
      { h with
        shares := h.shares.set d { h.share d with held := w }
        queue :=
          h.queue.map fun e =>
            if e.drum = d then
              { e with wanted := w, cost := (h.share d).cost w - (h.share d).cost (h.share d).granted }
            else e } := by
  have hsound := hl.shares d
  obtain ⟨z, hz, hzd⟩ := hsome
  have hcopy : (h.share d).costs ≠ none := hzd ▸ (hl.entries z hz).copy
  refine hl.move (x := { h.share d with held := w }) (d := d) ⟨rfl, ?_, ?_, ?_, ?_, ?_, hl.listed, ?_⟩
    (fun _ _ hb => hb) fun hb => absurd hzd ((hl.bars d hb).2 z hz)
  · exact ⟨htwo, hw.le, hsound.copy, hsound.ordered⟩
  · exact Nat.add_le_add_right hl.budget _
  · dsimp only
    rw [map_drum_map fun e => by split <;> rfl]; exact hl.oneEach
  · intro y hy hyd
    obtain ⟨e, he, rfl⟩ := List.mem_map.mp hy
    split at hyd
    next hed =>
      rw [if_pos hed]
      have hle := hsound.cost_le hw.le
      refine ⟨hw, rfl, hcopy, ?_⟩
      show (h.share d).cost w - (h.share d).cost (h.share d).granted + (h.share d).cost (h.share d).granted =
        (h.share d).cost w
      omega
    next hed => exact absurd hyd hed
  · intro y hy hyd
    obtain ⟨e, he, rfl⟩ := List.mem_map.mp hy
    split at hyd
    next hed => exact absurd hed hyd
    next hed => exact ⟨e, he, by rw [if_neg hed]⟩
  · intro y
    dsimp only
    split
    next hy => rw [hy]; exact hl.holders d
    next => rfl

/-! ### A revocation step (R119, R130, R131) -/

/-- A drum that holds a stage loses one; its held demand stands in the queue, in its place or at the tail. -/
theorem Ledger.revoke (hl : Ledger barred h) (hg : (h.share d).granted = g + 1)
    (hs : h'.shares = h.shares.set d { h.share d with granted := g })
    (hgrants : h'.grants = if g = 0 then h.grants.filter (fun e => e != d) else h.grants) (hbudget : h'.budget = h.budget)
    {now : Clock}
    (hnew : (∀ e ∈ h.queue, e.drum ≠ d) →
      h'.queue = h.queue ++ [⟨d, (h.share d).held, (h.share d).cost (h.share d).held - (h.share d).cost g, 0, now, false⟩])
    (hold : (∃ e ∈ h.queue, e.drum = d) →
      h'.queue = h.queue.map fun e =>
        if e.drum = d then { e with cost := (h.share d).cost e.wanted - (h.share d).cost g } else e) :
    Ledger barred h' := by
  have hsound := hl.shares d
  have hcopy : (h.share d).costs ≠ none := hsound.copy (by omega)
  have hraised : g < (h.share d).held := by have := hsound.granted; omega
  have hfits {e : HeatEntry} (hw : e.wanted = (h.share d).held)
      (hc : e.cost = (h.share d).cost (h.share d).held - (h.share d).cost g) : e.Fits { h.share d with granted := g } := by
    have hle := hsound.cost_le hraised.le
    refine ⟨hw ▸ hraised, hw, hcopy, ?_⟩
    rw [hc, hw]
    show (h.share d).cost (h.share d).held - (h.share d).cost g + (h.share d).cost g = (h.share d).cost (h.share d).held
    omega
  have hqueue : (h'.queue.map (·.drum)).Nodup ∧ (∀ e ∈ h'.queue, e.drum = d → e.Fits { h.share d with granted := g }) ∧
      ∀ e ∈ h'.queue, e.drum ≠ d → ∃ y ∈ h.queue, e.request = y.request := by
    by_cases hsome : ∃ e ∈ h.queue, e.drum = d
    · rw [hold hsome, map_drum_map fun e => by split <;> rfl]
      refine ⟨hl.oneEach, ?_, ?_⟩ <;> intro y hy hyd <;> obtain ⟨e, he, rfl⟩ := List.mem_map.mp hy <;> split at hyd
      next hed =>
        rw [if_pos hed]
        have hwanted : e.wanted = (h.share d).held := hed ▸ (hl.entries e he).wanted
        exact hfits hwanted (by dsimp only; rw [hwanted])
      next hed => exact absurd hyd hed
      next hed => exact absurd hed hyd
      next hed => exact ⟨e, he, by rw [if_neg hed]⟩
    · have hnone : ∀ e ∈ h.queue, e.drum ≠ d := fun e he hed => hsome ⟨e, he, hed⟩
      rw [hnew hnone, List.map_append, List.nodup_append]
      refine ⟨⟨hl.oneEach, List.nodup_singleton _, by simpa using hnone⟩, ?_, ?_⟩ <;> intro y hy hyd <;>
        rcases List.mem_append.mp hy with hy | hy
      · exact absurd hyd (hnone y hy)
      · rw [List.mem_singleton.mp hy]; exact hfits rfl rfl
      · exact ⟨y, hy, rfl⟩
      · rw [List.mem_singleton.mp hy] at hyd; exact absurd rfl hyd
  obtain ⟨hone, hentry, hothers⟩ := hqueue
  refine hl.move ⟨hs, ?_, ?_, hone, hentry, hothers, ?_, ?_⟩ (fun _ _ hb => hb) fun hb => ?_
  · exact ⟨hsound.held, hraised.le, fun _ => hcopy, hsound.ordered⟩
  · rw [hbudget]
    have hheld : ({ h.share d with granted := g } : HeatShare).heldCost ≤ (h.share d).heldCost :=
      hsound.cost_le (g := g) (by omega)
    exact Nat.add_le_add hl.budget hheld
  · rw [hgrants]
    split
    · exact hl.listed.filter _
    · exact hl.listed
  · intro y
    rw [hgrants]
    dsimp only
    by_cases hy : y = d
    · rw [if_pos hy, hy]
      split
      next hzero => simp [hzero]
      next hpos => rw [hl.holders d]; omega
    · rw [if_neg hy]
      split
      · simp [hy]
      · rfl
  · have := (hl.bars d hb).1
    omega

end

end Sys2Proof.Machine
end

section
/-! What the allocator's operations come to: the round of a grant attempt, the demand taken, the revocation step (R121, R122,
R125, R126, R130, R131). -/

namespace Sys2Proof.Machine

section
variable {s t : State} {d : Drum} {e : HeatEntry} {w g : Nat}

/-! ### Entries of the queue -/

theorem heatEntry?_eq_none : s.heat.entry? d = none ↔ ∀ e ∈ s.heat.queue, e.drum ≠ d := by
  simp [Heat.entry?]

theorem heatEntry?_of_mem (h : ∃ e ∈ s.heat.queue, e.drum = d) : ∃ x, s.heat.entry? d = some x := by
  obtain ⟨e, he, hd⟩ := h
  rw [← Option.isSome_iff_exists, Heat.entry?, List.find?_isSome]
  exact ⟨e, he, by simp [hd]⟩

/-- A filtered queue has no entry of the drum. -/
theorem heatEntry?_filter (q : List HeatEntry) {h : Heat} (hq : h.queue = q.filter fun e => e.drum != d) :
    h.entry? d = none := by
  simp [Heat.entry?, hq]

theorem entry_cases (h : Heat) (d : Drum) : (∀ e ∈ h.queue, e.drum ≠ d) ∨ ∃ e ∈ h.queue, e.drum = d := by
  by_cases hsome : ∃ e ∈ h.queue, e.drum = d
  · exact .inr hsome
  · exact .inl fun e he hed => hsome ⟨e, he, hed⟩

/-! ### The round of a grant attempt (R125) -/

theorem grantRound_nil (hq : s.heat.queue = []) : grantRound s = none := by
  simp [grantRound, hq]

section
variable {head : HeatEntry} {rest : List HeatEntry} (hq : s.heat.queue = head :: rest)
include hq

theorem grantRound_head (hfits : head.cost ≤ s.heat.free) : grantRound s = some (grantEntry head s) := by
  simp [grantRound, hq, hfits]

theorem grantRound_blocked (hfits : s.heat.free < head.cost) (hlimit : s.heat.bypassLimit ≤ head.bypass) :
    grantRound s = none := by
  simp [grantRound, hq, Nat.not_le.mpr hfits, Nat.not_lt.mpr hlimit]

/-- The head waits and may be passed: the first later entry that fits is granted, if any. -/
theorem grantRound_bypass (hfits : s.heat.free < head.cost) (hlimit : head.bypass < s.heat.bypassLimit) :
    grantRound s =
      (rest.find? fun e => decide (e.cost ≤ s.heat.free)).map fun e =>
        grantEntry e (s.onHeat fun h => { h with queue := { head with bypass := head.bypass + 1 } :: rest }) := by
  simp only [grantRound, hq, Nat.not_le.mpr hfits, hlimit, if_true, if_false]
  cases rest.find? fun e => decide (e.cost ≤ s.heat.free) <;> rfl

end

theorem grantRoundsByRule : GrantRoundsByRule := by
  refine fun s => ⟨grantRound_nil, fun head rest hq => ⟨grantRound_head hq, fun hfits =>
    ⟨grantRound_blocked hq hfits, fun hlimit => ?_⟩⟩⟩
  rw [grantRound_bypass hq hfits hlimit]
  refine ⟨fun hnone => ?_, fun pre e post hrest hpre he => ?_⟩
  · rw [List.find?_eq_none.mpr fun e he => by simpa using hnone e he]; rfl
  · have hfind : rest.find? (fun e => decide (e.cost ≤ s.heat.free)) = some e := by
      rw [hrest, List.find?_append, List.find?_eq_none.mpr fun x hx => by simpa using hpre x hx]
      simp [he]
    rw [hfind]; rfl

/-- A round that grants grants an entry whose cost fits, with at most a bypass count changed. -/
theorem grantRound_grants (h : grantRound s = some t) :
    ∃ q : List HeatEntry, ∃ e ∈ q, t = grantEntry e (s.onHeat fun h => { h with queue := q }) ∧ e.cost ≤ s.heat.free ∧
      q.map HeatEntry.request = s.heat.queue.map HeatEntry.request := by
  cases hq : s.heat.queue with
  | nil => rw [grantRound_nil hq] at h; cases h
  | cons head rest =>
    by_cases hfits : head.cost ≤ s.heat.free
    · rw [grantRound_head hq hfits] at h
      have hsame : s = s.onHeat fun h => { h with queue := head :: rest } := by rw [← hq]; rfl
      exact ⟨head :: rest, head, List.mem_cons_self, by rw [← hsame]; exact (Option.some.inj h).symm, hfits, rfl⟩
    · by_cases hlimit : head.bypass < s.heat.bypassLimit
      · rw [grantRound_bypass hq (Nat.not_le.mp hfits) hlimit, Option.map_eq_some_iff] at h
        obtain ⟨e, he, rfl⟩ := h
        have hcost : e.cost ≤ s.heat.free := by simpa using List.find?_some he
        exact ⟨_, e, List.mem_cons_of_mem _ (List.mem_of_find?_eq_some he), rfl, hcost, rfl⟩
      · rw [grantRound_blocked hq (Nat.not_le.mp hfits) (Nat.not_lt.mp hlimit)] at h; cases h

/-! ### The grant (R126) -/

/-- A grant changes the allocator, the drums and the demands handed on alone. -/
theorem grantEntry_rest (e : HeatEntry) (s : State) :
    { grantEntry e s with
      heat := s.heat
      drums := s.drums
      flight := { (grantEntry e s).flight with demands := s.flight.demands } } = s :=
  congrArg (fun x : State => { x with heat := s.heat })
    (setGranted_rest e.drum e.wanted
      (s.onHeat fun h => { h.without e.drum with grants := h.grants.filter (· != e.drum) ++ [e.drum] }))

theorem burnerTold_grantEntry (e : HeatEntry) (s : State) : BurnerTold s (grantEntry e s) e.drum e.wanted := by
  have h := burnerTold_setGranted e.drum e.wanted
    (s.onHeat fun h => { h.without e.drum with grants := h.grants.filter (· != e.drum) ++ [e.drum] })
  exact burnerTold_of_drums h rfl rfl rfl

theorem grantsByRule : GrantsByRule := fun s e => ⟨grantEntry_heat e s, burnerTold_grantEntry e s, grantEntry_rest e s⟩

/-! ### The demand taken (R121, R122) -/

/-- The state in which the grant attempt of a demand begins. -/
def demandTaken (d : Drum) (w : Nat) (s : State) : State :=
  let s1 := s.onShare d fun x => { x with held := w }
  if (s.share d).granted < w then raisedDemand d w s1 else loweredDemand d w s1

theorem takeDemand_eq (d : Drum) (w : Nat) (s : State) :
    takeDemand d w s = grantAttempt (demandTaken d (if (s.drum d).burner.lockout = none then w else 0) s) := rfl

@[simp] theorem heat_onShare (s : State) (d : Drum) (f : HeatShare → HeatShare) :
    (s.onShare d f).heat = { s.heat with shares := s.heat.shares.set d (f (s.share d)) } := rfl

theorem share_onShare (s : State) (d : Drum) (f : HeatShare → HeatShare) : (s.onShare d f).share d = f (s.share d) := by
  simp [State.share]

theorem onShare_onShare (s : State) (d : Drum) (f f' : HeatShare → HeatShare) :
    (s.onShare d f).onShare d f' = s.onShare d fun x => f' (f x) := by
  simp [State.onShare, State.onHeat, Vector.set_set]

/-- The cost copy of a drum with an entry: the one it holds, or else a new one from its configuration (R118). -/
def State.copyTaken (s : State) (d : Drum) : Costs :=
  (s.share d).costs.getD ⟨(s.drum d).config.c1, (s.drum d).config.c2⟩

theorem copyTaken_of_some {c : Costs} (h : (s.share d).costs = some c) : s.copyTaken d = c := by
  unfold State.copyTaken
  rw [h]; rfl

theorem copyTaken_of_none (h : (s.share d).costs = none) :
    s.copyTaken d = ⟨(s.drum d).config.c1, (s.drum d).config.c2⟩ := by
  unfold State.copyTaken
  rw [h]; rfl

theorem demandTaken_raised_new (hw : (s.share d).granted < w) (hnone : ∀ e ∈ s.heat.queue, e.drum ≠ d) {c : Costs}
    (hc : s.copyTaken d = c) :
    demandTaken d w s =
      { s with
        heat :=
          { s.heat with
            shares := s.heat.shares.set d { s.share d with held := w, costs := some c }
            queue := s.heat.queue ++ [⟨d, w, c.of w - c.of (s.share d).granted, 0, s.clock, false⟩] } } := by
  have hentry : (s.onShare d fun x => { x with held := w }).heat.entry? d = none := heatEntry?_eq_none.mpr hnone
  simp only [demandTaken, if_pos hw, raisedDemand, hentry]
  subst hc
  rw [onShare_onShare, share_onShare]
  rfl

theorem demandTaken_raised_again (hw : (s.share d).granted < w) (hsome : ∃ e ∈ s.heat.queue, e.drum = d) :
    demandTaken d w s =
      { s with
        heat :=
          { s.heat with
            shares := s.heat.shares.set d { s.share d with held := w }
            queue :=
              s.heat.queue.map fun e =>
                if e.drum = d then
                  { e with wanted := w, cost := (s.share d).cost w - (s.share d).cost (s.share d).granted }
                else e } } := by
  obtain ⟨x, hx⟩ := heatEntry?_of_mem hsome
  have hentry : (s.onShare d fun x => { x with held := w }).heat.entry? d = some x := hx
  simp only [demandTaken, if_pos hw, raisedDemand, hentry]
  rw [share_onShare]
  rfl

/-- The state that a demand lowers, before the cost copy is dropped. -/
def stageLowered (d : Drum) (w : Nat) (s : State) : State :=
  let s1 := (s.onShare d fun x => { x with held := w }).onHeat fun h => h.without d
  if w < (s.share d).granted then lowerGrant d w s1 else s1

theorem demandTaken_lowered (hw : w ≤ (s.share d).granted) : demandTaken d w s = dropCopy d (stageLowered d w s) := by
  have hgranted : ((s.onShare d fun x => { x with held := w }).share d).granted = (s.share d).granted := by
    rw [share_onShare]
  simp only [demandTaken, if_neg (Nat.not_lt.mpr hw), loweredDemand, stageLowered, hgranted]

theorem heat_stageLowered (hw : w ≤ (s.share d).granted) :
    (stageLowered d w s).heat =
      { s.heat with
        shares := s.heat.shares.set d { s.share d with granted := w, held := w }
        grants := if w = 0 ∧ (s.share d).granted ≠ 0 then s.heat.grants.filter (fun e => e != d) else s.heat.grants
        queue := s.heat.queue.filter fun e => e.drum != d } := by
  unfold stageLowered
  dsimp only
  split
  next hlt =>
    rw [lowerGrant_heat]
    have hne : s.heat.shares[d.val].granted ≠ 0 := Nat.ne_of_gt (Nat.zero_lt_of_lt hlt)
    simp [Heat.without, State.onHeat, State.share, hne]
  next hge =>
    have heq : (s.share d).granted = w := by omega
    subst heq
    have hno : ¬((s.share d).granted = 0 ∧ (s.share d).granted ≠ 0) := fun h => h.2 h.1
    rw [if_neg hno]
    rfl

theorem heat_demandTaken_lowered (hw : w ≤ (s.share d).granted) :
    (demandTaken d w s).heat =
      { s.heat with
        shares := s.heat.shares.set d { granted := w, held := w, costs := if w = 0 then none else (s.share d).costs }
        grants := if w = 0 ∧ (s.share d).granted ≠ 0 then s.heat.grants.filter (fun e => e != d) else s.heat.grants
        queue := s.heat.queue.filter fun e => e.drum != d } := by
  have hheat := heat_stageLowered hw
  have hshare : (stageLowered d w s).share d = { s.share d with granted := w, held := w } := by
    unfold State.share; rw [hheat]; simp [State.share]
  have hentry : (stageLowered d w s).heat.entry? d = none := heatEntry?_filter s.heat.queue (by rw [hheat])
  rw [demandTaken_lowered hw]
  unfold dropCopy
  rw [hshare, hentry]
  by_cases hzero : w = 0
  · subst hzero
    rw [if_pos ⟨rfl, rfl⟩, heat_onShare, hshare, hheat]
    simp
  · rw [if_neg fun h => hzero h.1, hheat, if_neg hzero]

/-! ### A revocation step (R119, R130, R131) -/

/-- A drum with its stage lowered by one and the step reported, before its held demand is placed in the queue. -/
def stageRevoked (d : Drum) (g : Nat) (s : State) : State :=
  raise .allocator .heatRevoked d (some (byte g)) (lowerGrant d g s)

theorem revokeStep_eq (hg : (s.share d).granted = g + 1) : revokeStep d s = requeue d (stageRevoked d g s) := by
  simp only [revokeStep, hg, Nat.add_sub_cancel]; rfl

theorem heat_stageRevoked (d : Drum) (g : Nat) (s : State) :
    (stageRevoked d g s).heat =
      { s.heat with
        shares := s.heat.shares.set d { s.share d with granted := g }
        grants := if g = 0 then s.heat.grants.filter (fun e => e != d) else s.heat.grants } := lowerGrant_heat d g s

theorem share_stageRevoked (d : Drum) (g : Nat) (s : State) :
    (stageRevoked d g s).share d = { s.share d with granted := g } := by
  unfold State.share; rw [heat_stageRevoked]; simp [State.share]

theorem clock_stageRevoked (d : Drum) (g : Nat) (s : State) : (stageRevoked d g s).clock = s.clock := by
  have haround : (stageRevoked d g s).around = s.around := (around_raise _ _ _ _ _).trans (around_lowerGrant d g s)
  exact congrArg Prod.fst haround

theorem events_lowerGrant (d : Drum) (g : Nat) (s : State) : (lowerGrant d g s).flight.events = s.flight.events := by
  have h := congrArg (fun x : State => x.flight.events) (lowerGrant_rest d g s)
  exact h

theorem events_stageRevoked (d : Drum) (g : Nat) (s : State) :
    (stageRevoked d g s).flight.events = s.flight.events ++ [⟨.allocator, .heatRevoked, d, s.clock, some (byte g)⟩] := by
  have hclock : (lowerGrant d g s).clock = s.clock := congrArg Prod.fst (around_lowerGrant d g s)
  rw [← events_lowerGrant d g s, ← hclock]
  rfl

/-- Up to its event a revocation step changes the allocator, the drums and the demands alone. -/
theorem stageRevoked_rest (d : Drum) (g : Nat) (s : State) :
    { stageRevoked d g s with
      heat := s.heat
      drums := s.drums
      flight := { (stageRevoked d g s).flight with demands := s.flight.demands, events := s.flight.events } } = s := by
  have hrest := lowerGrant_rest d g s
  have := congrArg (fun x : State => { x with flight := { x.flight with events := s.flight.events } }) hrest
  exact this

theorem requeue_new (hnone : ∀ e ∈ s.heat.queue, e.drum ≠ d) :
    (requeue d s).heat =
      { s.heat with
        queue := s.heat.queue ++
          [⟨d, (s.share d).held, (s.share d).cost (s.share d).held - (s.share d).heldCost, 0, s.clock, false⟩] } := by
  have hentry : s.heat.entry? d = none := heatEntry?_eq_none.mpr hnone
  simp only [requeue, hentry]
  rfl

theorem requeue_again (hsome : ∃ e ∈ s.heat.queue, e.drum = d) :
    (requeue d s).heat =
      { s.heat with
        queue := s.heat.queue.map fun e =>
          if e.drum = d then { e with cost := (s.share d).cost e.wanted - (s.share d).heldCost } else e } := by
  obtain ⟨x, hx⟩ := heatEntry?_of_mem hsome
  simp only [requeue, hx]
  rfl

/-- Placing the held demand changes the queue alone in the allocator. -/
theorem requeue_settings (d : Drum) (s : State) : { (requeue d s).heat with queue := s.heat.queue } = s.heat := by
  rcases entry_cases s.heat d with hnone | hsome
  · rw [requeue_new hnone]
  · rw [requeue_again hsome]

theorem revokeStep_settings (hg : (s.share d).granted = g + 1) :
    (revokeStep d s).heat =
      { s.heat with
        shares := s.heat.shares.set d { s.share d with granted := g }
        grants := if g = 0 then s.heat.grants.filter (fun e => e != d) else s.heat.grants
        queue := (revokeStep d s).heat.queue } := by
  have h := requeue_settings d (stageRevoked d g s)
  rw [← revokeStep_eq hg, heat_stageRevoked] at h
  have hqueue := congrArg (fun x : Heat => { x with queue := (revokeStep d s).heat.queue }) h
  exact hqueue

theorem revokeStep_new (hg : (s.share d).granted = g + 1) (hnone : ∀ e ∈ s.heat.queue, e.drum ≠ d) :
    (revokeStep d s).heat.queue =
      s.heat.queue ++ [⟨d, (s.share d).held, (s.share d).cost (s.share d).held - (s.share d).cost g, 0, s.clock, false⟩] := by
  have hqueue : (stageRevoked d g s).heat.queue = s.heat.queue := by rw [heat_stageRevoked]
  rw [revokeStep_eq hg, requeue_new (by rw [hqueue]; exact hnone), share_stageRevoked, clock_stageRevoked]
  dsimp only
  rw [hqueue]
  rfl

theorem revokeStep_again (hg : (s.share d).granted = g + 1) (hsome : ∃ e ∈ s.heat.queue, e.drum = d) :
    (revokeStep d s).heat.queue =
      s.heat.queue.map fun e =>
        if e.drum = d then { e with cost := (s.share d).cost e.wanted - (s.share d).cost g } else e := by
  have hqueue : (stageRevoked d g s).heat.queue = s.heat.queue := by rw [heat_stageRevoked]
  rw [revokeStep_eq hg, requeue_again (by rw [hqueue]; exact hsome), share_stageRevoked]
  dsimp only
  rw [hqueue]
  rfl

/-- Around the requeueing a revocation step is the lowered stage and its event. -/
theorem revokeStep_outside (hg : (s.share d).granted = g + 1) :
    (revokeStep d s).flight = (stageRevoked d g s).flight ∧ (revokeStep d s).drums = (stageRevoked d g s).drums ∧
      { revokeStep d s with heat := (stageRevoked d g s).heat } = stageRevoked d g s := by
  rw [revokeStep_eq hg]; exact requeue_rest d _

theorem events_revokeStep (hg : (s.share d).granted = g + 1) :
    (revokeStep d s).flight.events = s.flight.events ++ [⟨.allocator, .heatRevoked, d, s.clock, some (byte g)⟩] := by
  obtain ⟨hflight, -, -⟩ := revokeStep_outside hg
  rw [hflight, events_stageRevoked]

theorem revokeStep_rest (hg : (s.share d).granted = g + 1) :
    { revokeStep d s with
      heat := s.heat
      drums := s.drums
      flight := { (revokeStep d s).flight with demands := s.flight.demands, events := s.flight.events } } = s := by
  obtain ⟨hflight, -, hrest⟩ := revokeStep_outside hg
  have h := congrArg (fun x : State =>
    { x with
      heat := s.heat
      drums := s.drums
      flight := { x.flight with demands := s.flight.demands, events := s.flight.events } }) hrest
  exact h.trans (stageRevoked_rest d g s)

theorem revocationStepsByRule : RevocationStepsByRule := by
  intro s d g hg
  have hsettings := revokeStep_settings hg
  obtain ⟨-, hdrums, -⟩ := revokeStep_outside hg
  refine ⟨⟨?_, ?_, ?_, ?_, ?_⟩, revokeStep_new hg, revokeStep_again hg, ?_, events_revokeStep hg, revokeStep_rest hg⟩
  · rw [hsettings]
  · rw [hsettings]
  · rw [hsettings]
  · rw [hsettings]
  · rw [hsettings]
  · exact burnerTold_of_drums (burnerTold_lowerGrant d g s) rfl hdrums rfl

end

end Sys2Proof.Machine
end

section
/-! The allocation as a whole (R117 to R121): the allocator's ledger together with what the drums ask, and every operation of
the allocator keeps both. -/

namespace Sys2Proof.Machine

/-- What every drum asks of the allocator, and the costs a new copy would take from the configuration (R67, R118). -/
structure Asks (barred : Drum → Prop) (s : State) : Prop where
  each : ∀ d, DrumAsks (barred d) s d
  ordered : ∀ d, (s.drum d).config.c1 ≤ (s.drum d).config.c2

/-- The allocation is sound, and the barred drums, among them every drum in lockout, hold no heat. -/
structure HeatHeld (barred : Drum → Prop) (s : State) : Prop where
  ledger : Ledger barred s.heat
  asks : Asks barred s

section
variable {barred barred' : Drum → Prop} {s t : State} {d e : Drum} {w g b n : Nat} {p : Prop}

/-- HEAT_SOUND is the allocation held with the drums in lockout barred. -/
theorem heatSound_iff : HeatSound s ↔ ∃ barred, HeatHeld barred s := by
  constructor
  · rintro ⟨hbudget, hone, hbars, hcosts, ⟨hlisted, hholders, -, hcopy⟩, hentries, hwanted, hdemands, hheld, hfit⟩
    refine ⟨fun d => (s.drum d).burner.lockout ≠ none,
      ⟨hbudget, hone, fun d => ?_, fun e he => ?_, hlisted, hholders, ?_⟩, fun d => ⟨hwanted d, fun x hx _ => hdemands x hx, id⟩, fun d => (hcosts d).1⟩
    · exact ⟨(hheld d).1, (hheld d).2, hcopy d, (hcosts d).2⟩
    · obtain ⟨hraises, -, hcopied, hcost⟩ := hentries e he
      exact ⟨hraises, hfit e he, hcopied, hcost⟩
    · intro d hd
      obtain ⟨hgranted, hentry⟩ := hbars d hd
      exact ⟨hgranted, heatEntry?_eq_none.mp hentry⟩
  · rintro ⟨barred, hl, ha⟩
    refine ⟨hl.budget, hl.oneEach, fun d hd => ?_, fun d => ⟨ha.ordered d, (hl.shares d).ordered⟩,
      ⟨hl.listed, hl.holders, fun d => (hl.shares d).granted.trans (hl.shares d).held, fun d => (hl.shares d).copy⟩,
      fun e he => ?_, fun d => (ha.each d).wanted, fun x hx => (ha.each x.1).demands x hx rfl,
      fun d => ⟨(hl.shares d).held, (hl.shares d).granted⟩, fun e he => (hl.entries e he).wanted⟩
    · obtain ⟨hgranted, hqueue⟩ := hl.bars d ((ha.each d).lockout hd)
      exact ⟨hgranted, heatEntry?_eq_none.mpr hqueue⟩
    · have hfits := hl.entries e he
      exact ⟨hfits.raises, hfits.wanted.le.trans (hl.shares e.drum).held, hfits.copy, hfits.cost⟩

/-! ### What the drums ask, by the state's parts -/

theorem drumAsks_of_besides (hb : t.besides d = s.besides d) (he : e ≠ d) (h : DrumAsks p s e) : DrumAsks p t e := by
  have hdrum := drum_of_besides hb he
  refine ⟨hdrum ▸ h.wanted, fun x hx hxe => h.demands x ?_ hxe, hdrum ▸ h.lockout⟩
  exact (demands_of_besides hb (hxe ▸ he)).mp hx

/-- Work on one drum that keeps what it asks. -/
theorem asks_of_besides (ha : Asks barred s) (hb : t.besides d = s.besides d) (hd : DrumAsks (barred d) t d) :
    Asks barred t where
  each e := by
    by_cases he : e = d
    · rw [he]; exact hd
    · exact drumAsks_of_besides hb he (ha.each e)
  ordered e := by rw [config_of_besides hb]; exact ha.ordered e

theorem heatHeld_of_besides (hh : HeatHeld barred s) (hb : t.besides d = s.besides d) (hd : DrumAsks (barred d) t d) :
    HeatHeld barred t := ⟨by rw [heat_of_besides hb]; exact hh.ledger, asks_of_besides hh.asks hb hd⟩

/-- The same drums, and no new demand under way. -/
theorem asks_of_drums (ha : Asks barred s) (hd : t.drums = s.drums)
    (hf : ∀ x ∈ t.flight.demands, x ∈ s.flight.demands) : Asks barred t := by
  have hdrum (d : Drum) : t.drum d = s.drum d := by unfold State.drum; rw [hd]
  refine ⟨fun d => ?_, fun d => hdrum d ▸ ha.ordered d⟩
  have h := ha.each d
  exact ⟨hdrum d ▸ h.wanted, fun x hx => h.demands x (hf x hx), hdrum d ▸ h.lockout⟩

theorem asks_onHeat (ha : Asks barred s) (f : Heat → Heat) : Asks barred (s.onHeat f) :=
  asks_of_drums ha rfl fun _ hx => hx

theorem asks_raise (ha : Asks barred s) (src : Block) (k : EventKind) (d : Drum) (x : Option Byte) :
    Asks barred (raise src k d x s) := asks_of_drums ha rfl fun _ hx => hx

theorem asks_burnerUpdate (ha : Asks barred s) (d : Drum) : Asks barred (burnerUpdate d s) :=
  asks_of_besides ha (besides_burnerUpdate d s) (drumAsks_burnerUpdate.mpr (ha.each d))

theorem asks_setGranted (ha : Asks barred s) (d : Drum) (g : Nat) : Asks barred (setGranted d g s) :=
  asks_burnerUpdate (asks_onHeat ha _) d

theorem asks_lowerGrant (ha : Asks barred s) (d : Drum) (g : Nat) : Asks barred (lowerGrant d g s) := by
  unfold lowerGrant
  apply asks_setGranted
  split
  · exact asks_onHeat ha _
  · exact ha

theorem asks_dropCopy (ha : Asks barred s) (d : Drum) : Asks barred (dropCopy d s) := by
  unfold dropCopy
  split
  · exact asks_onHeat ha _
  · exact ha

theorem asks_grantEntry (ha : Asks barred s) (e : HeatEntry) : Asks barred (grantEntry e s) :=
  asks_setGranted (asks_onHeat ha _) _ _

theorem asks_stageLowered (ha : Asks barred s) (d : Drum) (w : Nat) : Asks barred (stageLowered d w s) := by
  have hwithout : Asks barred ((s.onShare d fun x => { x with held := w }).onHeat fun h => h.without d) :=
    asks_onHeat (asks_onHeat ha _) _
  unfold stageLowered
  dsimp only
  split
  · exact asks_lowerGrant hwithout d w
  · exact hwithout

theorem asks_heatGivenUp (ha : Asks barred s) (d : Drum) : Asks barred (heatGivenUp d s) := by
  have hwithout : Asks barred (s.onHeat fun h => h.without d) := asks_onHeat ha _
  unfold heatGivenUp
  apply asks_onHeat
  split
  · exact hwithout
  · exact asks_lowerGrant hwithout d 0

theorem asks_stageRevoked (ha : Asks barred s) (d : Drum) (g : Nat) : Asks barred (stageRevoked d g s) :=
  asks_raise (asks_lowerGrant ha d g) _ _ _ _

/-! ### Grant attempts -/

theorem heatHeld_grantRound (hh : HeatHeld barred s) (h : grantRound s = some t) : HeatHeld barred t := by
  obtain ⟨q, e, he, rfl, hcost, hq⟩ := grantRound_grants h
  have hbypassed : Ledger barred { s.heat with queue := q } := hh.ledger.congr rfl rfl hq hh.ledger.budget
  refine ⟨?_, asks_grantEntry (asks_onHeat hh.asks _) e⟩
  rw [grantEntry_heat]
  exact hbypassed.grant he hcost

theorem heatHeld_grantRounds (hh : HeatHeld barred s) (h : GrantRounds s t) : HeatHeld barred t := by
  induction h with
  | stop _ => exact hh
  | round hround _ ih => exact ih (heatHeld_grantRound hh hround)

theorem heatHeld_grantAttempt (hh : HeatHeld barred s) : HeatHeld barred (grantAttempt s) :=
  heatHeld_grantRounds hh (grantAttempt_spec s)

/-! ### Demands (R121, R122, R135) -/

theorem heatHeld_demandTaken (hh : HeatHeld barred s) (hw : w ≤ 2) (hbar : barred d → w = 0) :
    HeatHeld barred (demandTaken d w s) := by
  by_cases hraised : (s.share d).granted < w
  · have hfree : ¬barred d := fun hb => by have := hbar hb; omega
    rcases entry_cases s.heat d with hnone | hsome
    · have hcopy : (s.share d).costs = some (s.copyTaken d) ∨
          (s.share d).costs = none ∧ (s.copyTaken d).c1 ≤ (s.copyTaken d).c2 := by
        cases hc : (s.share d).costs with
        | none => exact .inr ⟨rfl, by rw [copyTaken_of_none hc]; exact hh.asks.ordered d⟩
        | some c => exact .inl (by rw [copyTaken_of_some hc])
      rw [demandTaken_raised_new hraised hnone rfl]
      exact ⟨hh.ledger.raise hraised hw hfree hnone hcopy s.clock, asks_of_drums hh.asks rfl fun _ hx => hx⟩
    · rw [demandTaken_raised_again hraised hsome]
      exact ⟨hh.ledger.raise_again hraised hw hsome, asks_of_drums hh.asks rfl fun _ hx => hx⟩
  · have hlowered : w ≤ (s.share d).granted := Nat.not_lt.mp hraised
    constructor
    · rw [heat_demandTaken_lowered hlowered]
      refine hh.ledger.lower hlowered ?_ ?_ (fun _ _ hb => hb) hbar
      · rw [heat_share]
        split
        next h => exact .inl ⟨rfl, h.1⟩
        next h => exact .inr ⟨rfl, by omega⟩
      · split
        next h => exact .inr ⟨h, rfl⟩
        next => exact .inl rfl
    · rw [demandTaken_lowered hlowered]
      exact asks_dropCopy (asks_stageLowered hh.asks d w) d

/-- A demand of a drum in lockout counts as 0, so it raises nothing. -/
theorem heatSound_takeDemand (hs : HeatSound s) (hw : w ≤ 2) (d : Drum) : HeatSound (takeDemand d w s) := by
  obtain ⟨barred, hh⟩ := heatSound_iff.mp hs
  have hlockedOut : HeatHeld (fun e => (s.drum e).burner.lockout ≠ none) s := by
    refine ⟨?_, fun e => ?_, hh.asks.ordered⟩
    · exact { hh.ledger with bars := fun e he => hh.ledger.bars e ((hh.asks.each e).lockout he) }
    · exact { hh.asks.each e with lockout := id }
  rw [takeDemand_eq]
  refine heatSound_iff.mpr ⟨_, heatHeld_grantAttempt (heatHeld_demandTaken hlockedOut ?_ ?_)⟩
  · split
    · exact hw
    · exact Nat.zero_le 2
  · intro hb
    rw [if_neg hb]

/-! ### Lockout and DRUM_RESET (R134, R136) -/

theorem ledger_heatGivenUp (hl : Ledger barred s.heat) (hbarred : ∀ e, e ≠ d → barred' e → barred e) :
    Ledger barred' (heatGivenUp d s).heat := by
  rw [heat_heatGivenUp]
  refine hl.lower (Nat.zero_le _) ?_ (.inr ⟨rfl, rfl⟩) hbarred fun _ => rfl
  rw [heat_share]
  split
  next h => exact .inr ⟨rfl, .inr h⟩
  next => exact .inl ⟨rfl, rfl⟩

theorem heatHeld_releaseDrum (hl : Ledger barred s.heat) (ha : Asks barred' s)
    (hbarred : ∀ e, e ≠ d → barred' e → barred e) : HeatHeld barred' (releaseDrum d s) := by
  rw [releaseDrum_eq]
  exact heatHeld_grantAttempt ⟨ledger_heatGivenUp hl hbarred, asks_heatGivenUp ha d⟩

/-- The allocator's notice is one step with the lockout, so no drum in lockout holds heat (R134). -/
theorem heatSound_lockOut (hs : HeatSound s) (d : Drum) (path : LockoutPath) : HeatSound (lockOut d path s) := by
  unfold lockOut
  split
  · exact hs
  · obtain ⟨barred, hh⟩ := heatSound_iff.mp hs
    have hmore (e : Drum) : DrumAsks (barred e ∨ e = d) s e :=
      { hh.asks.each e with lockout := fun hl => .inl ((hh.asks.each e).lockout hl) }
    have hbesides : (setLockout d path s).besides d = s.besides d := by simp [setLockout]
    have hasks : Asks (fun e => barred e ∨ e = d) (setLockout d path s) :=
      asks_of_besides ⟨hmore, hh.asks.ordered⟩ hbesides (drumAsks_setLockout (hmore d) (.inr rfl))
    have hledger : Ledger barred (setLockout d path s).heat := by rw [heat_of_besides hbesides]; exact hh.ledger
    have hreleased : HeatHeld (fun e => barred e ∨ e = d) (releaseDrum d (setLockout d path s)) :=
      heatHeld_releaseDrum hledger hasks fun e he hb => hb.resolve_right he
    refine heatSound_iff.mpr ⟨_, heatHeld_of_besides (d := d) hreleased ?_ (drumAsks_heatEnd ?_)⟩
    · split <;> simp
    · have := hreleased.asks.each d
      split
      · exact (drumAsks_handIncrement _ _ _).mpr ((drumAsks_raise _ _ _ _).mpr this)
      · exact (drumAsks_raise _ _ _ _).mpr this

/-! ### Budget changes (R129 to R132) -/

/-- The stages that the drums hold. -/
def Heat.stages (h : Heat) : Nat := ∑ d, (h.share d).granted

theorem heatHeld_revokeStep (hh : HeatHeld barred s) (hg : (s.share d).granted = g + 1) :
    HeatHeld barred (revokeStep d s) := by
  have hsettings := revokeStep_settings hg
  obtain ⟨hflight, hdrums, -⟩ := revokeStep_outside hg
  constructor
  · exact hh.ledger.revoke hg (by rw [hsettings]; rfl) (by rw [hsettings]) (by rw [hsettings]) (revokeStep_new hg)
      (revokeStep_again hg)
  · exact asks_of_drums (asks_stageRevoked hh.asks d g) hdrums fun _ hx => hflight ▸ hx

/-- A revocation step takes one stage. -/
theorem stages_revokeStep (hg : (s.share d).granted = g + 1) :
    s.heat.stages = (revokeStep d s).heat.stages + 1 := by
  have hshare (e : Drum) : ((revokeStep d s).heat.share e).granted = if e = d then g else (s.heat.share e).granted := by
    rw [share_set (h := s.heat) (by rw [revokeStep_settings hg]) e]
    split <;> rfl
  have hown : (s.heat.share d).granted = g + 1 := hg
  unfold Heat.stages
  rw [← Finset.add_sum_erase _ _ (Finset.mem_univ d), ← Finset.add_sum_erase Finset.univ
    (fun e => ((revokeStep d s).heat.share e).granted) (Finset.mem_univ d), hshare d, if_pos rfl, hown]
  have hothers : ∑ e ∈ Finset.univ.erase d, ((revokeStep d s).heat.share e).granted =
      ∑ e ∈ Finset.univ.erase d, (s.heat.share e).granted :=
    Finset.sum_congr rfl fun e he => by rw [hshare, if_neg (Finset.ne_of_mem_erase he)]
  rw [hothers]
  omega

/-- A held sum above 0 is held by some drum, so the grant list has a tail. -/
theorem tail_of_heldSum (hl : Ledger barred s.heat) (hb : b < s.heat.heldSum) :
    ∃ d g, s.heat.grants.getLast? = some d ∧ (s.share d).granted = g + 1 := by
  have hne : s.heat.grants ≠ [] := by
    intro hnil
    have hzero (d : Drum) : s.heat.shares[d].heldCost = 0 := by
      refine HeatShare.heldCost_of_granted (Nat.eq_zero_of_not_pos fun hpos => ?_)
      have := (hl.holders d).mpr hpos
      rw [hnil] at this
      cases this
    have hsum : s.heat.heldSum = 0 := List.sum_eq_zero (List.forall_mem_map.mpr fun d _ => hzero d)
    omega
  have hpos := (hl.holders _).mp (List.getLast_mem hne)
  exact ⟨s.heat.grants.getLast hne, _, List.getLast?_eq_some_getLast hne, (Nat.succ_pred_eq_of_pos hpos).symm⟩

/-- Enough steps bring the held sum within the new budget. -/
theorem revocations_revokeTo (hh : HeatHeld barred s) (hn : s.heat.stages ≤ n) :
    ∃ taken, Revocations b s taken (revokeTo b n s) ∧ HeatHeld barred (revokeTo b n s) ∧
      (revokeTo b n s).heat.heldSum ≤ b := by
  induction n generalizing s with
  | zero =>
    have hle : s.heat.heldSum ≤ b := by
      by_contra hb
      obtain ⟨d, g, -, hg⟩ := tail_of_heldSum hh.ledger (Nat.not_le.mp hb)
      have := stages_revokeStep hg
      omega
    exact ⟨[], .stop hle, hh, hle⟩
  | succ n ih =>
    by_cases hb : s.heat.heldSum ≤ b
    · have hsame : revokeTo b (n + 1) s = s := by simp [revokeTo, hb]
      rw [hsame]
      exact ⟨[], .stop hb, hh, hb⟩
    · obtain ⟨d, g, htail, hg⟩ := tail_of_heldSum hh.ledger (Nat.not_le.mp hb)
      have hnext : revokeTo b (n + 1) s = revokeTo b n (revokeStep d s) := by simp [revokeTo, hb, htail]
      have hstages := stages_revokeStep hg
      obtain ⟨taken, hrevoked, hheld, hle⟩ := ih (heatHeld_revokeStep hh hg) (by omega)
      rw [hnext]
      exact ⟨_, .step (Nat.not_le.mp hb) htail hrevoked, hheld, hle⟩

/-- Four drums hold at most two stages each. -/
theorem stages_le (hl : Ledger barred s.heat) : s.heat.stages ≤ 8 := by
  have htwo (d : Drum) : (s.heat.share d).granted ≤ 2 := (hl.shares d).granted.trans (hl.shares d).held
  have := htwo 0
  have := htwo 1
  have := htwo 2
  have := htwo 3
  unfold Heat.stages
  rw [Fin.sum_univ_four]
  omega

theorem heatHeld_setBudget (hh : HeatHeld barred s) (b : Nat) : HeatHeld barred (setBudget b s) := by
  obtain ⟨taken, -, hheld, hle⟩ := revocations_revokeTo (b := b) hh (stages_le hh.ledger)
  exact heatHeld_grantAttempt ⟨hheld.ledger.congr rfl rfl rfl hle, asks_onHeat hheld.asks _⟩

/-! ### Heat wait (R127, R128) -/

theorem heatHeld_judgeWait (hh : HeatHeld barred s) (d : Drum) : HeatHeld barred (judgeWait d s) := by
  unfold judgeWait
  split
  · exact hh
  · split
    · refine ⟨hh.ledger.congr rfl rfl ?_ hh.ledger.budget, asks_raise (asks_onHeat hh.asks _) _ _ _ _⟩
      show List.map HeatEntry.request (s.heat.queue.map fun e => if e.drum = d then { e with reported := true } else e) =
        s.heat.queue.map HeatEntry.request
      rw [List.map_map]
      refine List.map_congr_left fun e _ => ?_
      dsimp only [Function.comp_apply]
      split <;> rfl
    · exact hh

theorem heatHeld_setWaitLimit (hh : HeatHeld barred s) (limit : Nat) : HeatHeld barred (setWaitLimit limit s) := by
  unfold setWaitLimit
  split
  · exact hh
  · have hlimit : HeatHeld barred (s.onHeat fun h => { h with waitLimit := limit }) :=
      ⟨hh.ledger.congr rfl rfl rfl hh.ledger.budget, asks_onHeat hh.asks _⟩
    exact List.foldlRecOn _ _ hlimit fun t ht d _ => heatHeld_judgeWait ht d

/-! ### The drum reset (R136) -/

theorem asks_beforeGrants (ha : Asks barred s) (d : Drum) : Asks barred (beforeGrants d s) := by
  obtain ⟨hflight, -, hothers⟩ := beforeGrants_leaves d s
  have hreset := blocksReset_beforeGrants d s
  have hdemands {x : Drum × Nat} (hx : x ∈ (beforeGrants d s).flight.demands) : x ∈ s.flight.demands := by
    rw [hflight] at hx
    exact List.mem_of_mem_filter hx
  refine ⟨fun e => ?_, fun e => ?_⟩ <;> by_cases he : e = d
  · subst he
    refine ⟨?_, fun x hx hxe => (ha.each e).demands x (hdemands hx) hxe, ?_⟩ <;> rw [hreset.burner]
    · exact Nat.zero_le 2
    · exact (ha.each e).lockout
  · refine ⟨?_, fun x hx hxe => (ha.each e).demands x (hdemands hx) hxe, ?_⟩ <;> rw [hothers e he]
    · exact (ha.each e).wanted
    · exact (ha.each e).lockout
  · subst he
    rw [hreset.config]; exact ha.ordered e
  · rw [hothers e he]; exact ha.ordered e

theorem heatHeld_purgeAlerts (hh : HeatHeld barred s) (d : Drum) : HeatHeld barred (purgeAlerts d s) :=
  ⟨hh.ledger, asks_of_drums hh.asks rfl fun _ hx => hx⟩

theorem heatHeld_resetDrum (hh : HeatHeld barred s) (d : Drum) : HeatHeld barred (resetDrum d s) := by
  have hledger : Ledger barred (beforeGrants d s).heat := by
    have h := ledger_heatGivenUp (d := d) (barred' := barred) hh.ledger fun _ _ hb => hb
    rw [heat_heatGivenUp] at h
    rw [heat_beforeGrants]
    exact h
  rw [resetDrum_eq]
  exact heatHeld_purgeAlerts (heatHeld_grantAttempt ⟨hledger, asks_beforeGrants hh.asks d⟩) d

/-! ### The drum configuration (R67) -/

theorem DrumConfig.costs_ordered {c : DrumConfig} (h : c.inRange = true) : c.c1 ≤ c.c2 := by
  simp only [DrumConfig.inRange, within, Bool.and_eq_true, decide_eq_true_eq] at h
  omega

theorem DrumConfig.inRange_of_read {c x : DrumConfig} (h : (if x.inRange then some x else none) = some c) :
    c.inRange = true := by
  by_cases hx : x.inRange = true
  · rw [if_pos hx] at h
    exact Option.some.inj h ▸ hx
  · rw [if_neg hx] at h; cases h

theorem configOf_inRange {a : List Byte} {c : DrumConfig} (h : configOf a = some c) : c.inRange = true := by
  unfold configOf at h
  split at h
  · cases h
  · exact DrumConfig.inRange_of_read h

end

end Sys2Proof.Machine
end

section
/-! What each operation makes of the FLAME entries and of the heat allocation (R117 to R121, R144): the operations that reach
more than one drum, and the owners of the requests. -/

namespace Sys2Proof.Machine

/-- From s₀ to s, permitted FLAME entries stay permitted and a sound allocation stays sound. -/
structure HeatKept (s₀ s : State) : Prop where
  flame : FlameSafe s₀ → FlameSafe s
  sound : HeatSound s₀ → HeatSound s

/-- Work on one drum: it keeps the drum's FLAME entry permitted, and asks no more of the allocator than the rules allow. -/
structure DrumWork (s t : State) (d : Drum) : Prop where
  besides : t.besides d = s.besides d
  flame : FlameOk s d → FlameOk t d
  asks : ∀ {p}, DrumAsks p s d → DrumAsks p t d

/-- What permitted FLAME entries and a sound allocation are read from. -/
def State.allocation (s : State) : Vector DrumState 4 × Heat × List (Drum × Nat) := (s.drums, s.heat, s.flight.demands)

section
variable {s₀ s t : State} {d : Drum} {r : Request}

theorem heatKept_refl (s : State) : HeatKept s s := ⟨id, id⟩

theorem heatKept_of_work (hk : HeatKept s₀ s) (hw : DrumWork s t d) : HeatKept s₀ t where
  flame h := flameSafe_of_besides hw.besides (hw.flame (hk.flame h d)) (hk.flame h)
  sound h := by
    obtain ⟨barred, hh⟩ := heatSound_iff.mp (hk.sound h)
    exact heatSound_iff.mpr ⟨barred, heatHeld_of_besides hh hw.besides (hw.asks (hh.asks.each d))⟩

theorem heatKept_of_allocation (hk : HeatKept s₀ s) (h : t.allocation = s.allocation) : HeatKept s₀ t := by
  simp only [State.allocation, Prod.mk.injEq] at h
  obtain ⟨hdrums, hheat, hdemands⟩ := h
  refine ⟨fun hf => ?_, fun hs => ?_⟩
  · exact flameSafe_of_eq hdrums (fun d => by unfold State.share; rw [hheat]) (fun x hx => hdemands ▸ hx) (hk.flame hf)
  · obtain ⟨barred, hh⟩ := heatSound_iff.mp (hk.sound hs)
    exact heatSound_iff.mpr ⟨barred, hheat ▸ hh.ledger, asks_of_drums hh.asks hdrums fun x hx => hdemands ▸ hx⟩

/-- A state at its reset values. -/
theorem heatKept_of_reset (h : t.allocation = State.reset.allocation) : HeatKept s₀ t :=
  heatKept_of_allocation ⟨fun _ => flameSafe_reset, fun _ => heatSound_reset⟩ h

/-- An operation that keeps both whatever the barred drums. -/
theorem heatKept_of_held (hk : HeatKept s₀ s) (hf : FlameSafe s → FlameSafe t)
    (hh : ∀ barred, HeatHeld barred s → HeatHeld barred t) : HeatKept s₀ t where
  flame h := hf (hk.flame h)
  sound h := by
    obtain ⟨barred, hs⟩ := heatSound_iff.mp (hk.sound h)
    exact heatSound_iff.mpr ⟨barred, hh barred hs⟩

theorem heatKept_onlyIf {c : Bool} {f : State → State} (hk : HeatKept s₀ s) (hf : HeatKept s₀ (f s)) :
    HeatKept s₀ (onlyIf c f s) := by
  unfold onlyIf
  split
  · exact hf
  · exact hk

/-! ### The allocator, lockouts and attributes -/

theorem heatKept_grantAttempt (hk : HeatKept s₀ s) : HeatKept s₀ (grantAttempt s) :=
  heatKept_of_held hk flameSafe_grantAttempt fun _ => heatHeld_grantAttempt

theorem heatKept_setBudget (hk : HeatKept s₀ s) (n : Nat) : HeatKept s₀ (setBudget n s) :=
  heatKept_of_held hk flameSafe_setBudget fun _ hh => heatHeld_setBudget hh n

theorem heatKept_judgeWait (hk : HeatKept s₀ s) : HeatKept s₀ (judgeWait d s) :=
  heatKept_of_held hk flameSafe_judgeWait fun _ hh => heatHeld_judgeWait hh d

theorem flameSafe_setWaitLimit (h : FlameSafe s) (n : Nat) : FlameSafe (setWaitLimit n s) := by
  unfold setWaitLimit
  split
  · exact h
  · have hlimit : FlameSafe (s.onHeat fun h => { h with waitLimit := n }) := flameSafe_onHeat h fun _ => rfl
    exact List.foldlRecOn _ _ hlimit fun t ht d _ => flameSafe_judgeWait ht

theorem heatKept_setWaitLimit (hk : HeatKept s₀ s) (n : Nat) : HeatKept s₀ (setWaitLimit n s) :=
  heatKept_of_held hk (fun h => flameSafe_setWaitLimit h n) fun _ hh => heatHeld_setWaitLimit hh n

theorem heatKept_lockOut {path : LockoutPath} (hk : HeatKept s₀ s) : HeatKept s₀ (lockOut d path s) :=
  ⟨fun h => flameSafe_lockOut (hk.flame h), fun h => heatSound_lockOut (hk.sound h) d path⟩

/-- Only demands of at most 2 are under way, so the allocator takes no other. -/
theorem heatKept_takeNextDemand {x : Drum × Nat} (hk : HeatKept s₀ s) (hx : x ∈ s.flight.demands) :
    HeatKept s₀ (takeDemand d x.2 (s.onFlight fun f => { f with demands := f.demands.erase x })) where
  flame h := by
    have htaken : FlameSafe (s.onFlight fun f => { f with demands := f.demands.erase x }) :=
      flameSafe_of_eq (s := s) rfl (fun _ => rfl) (fun p (hp : p ∈ s.flight.demands.erase x) => List.mem_of_mem_erase hp)
        (hk.flame h)
    exact flameSafe_takeDemand htaken
  sound h := by
    obtain ⟨barred, hh⟩ := heatSound_iff.mp (hk.sound h)
    have htaken : HeatHeld barred (s.onFlight fun f => { f with demands := f.demands.erase x }) :=
      ⟨hh.ledger, asks_of_drums hh.asks rfl fun p (hp : p ∈ s.flight.demands.erase x) => List.mem_of_mem_erase hp⟩
    exact heatSound_takeDemand (heatSound_iff.mpr ⟨barred, htaken⟩) ((hh.asks.each x.1).demands x hx rfl) d

theorem heatKept_failedAttempt (hk : HeatKept s₀ s) : HeatKept s₀ (failedAttempt d s) := by
  unfold failedAttempt
  dsimp only
  split
  · exact heatKept_of_work (d := d) hk
      ⟨by simp, fun _ => flameOk_handIncrement (flameOk_raise (flameOk_burnerUpdate _ _)),
        fun h => by simp [drumAsks_onBurner, h]⟩
  · exact heatKept_lockOut hk

theorem heatKept_flameByView {st : FlameState} (hk : HeatKept s₀ s) : HeatKept s₀ (flameByView d st s) := by
  have hlost : HeatKept s₀ (flameLost d s) :=
    heatKept_failedAttempt (heatKept_of_work (d := d) hk
      ⟨by simp, fun h => flameOk_raise (flameOk_onBurner h rfl rfl), fun h => by simp [drumAsks_onBurner, h]⟩)
  unfold flameByView
  dsimp only
  split
  case h_1 => exact heatKept_of_work hk ⟨besides_enterBurning d s, flameOk_enterBurning, drumAsks_enterBurning.mpr⟩
  case h_2 | h_3 => exact heatKept_failedAttempt hk
  case h_4 | h_5 | h_6 => split; exacts [hlost, hk]
  case h_7 => exact hk

theorem heatKept_takeFlameStat {st : FlameStatus} (hk : HeatKept s₀ s) : HeatKept s₀ (takeFlameStat d st s) := by
  have hview : HeatKept s₀ (flameByView d st.flame (s.onBurner d fun b => { b with flame := some st })) :=
    heatKept_flameByView (heatKept_of_work (d := d) hk
      ⟨by simp, fun h => flameOk_onBurner h rfl rfl, fun h => by simp [drumAsks_onBurner, h]⟩)
  unfold takeFlameStat
  dsimp only
  split
  · exact heatKept_of_work hview ⟨besides_setRest d true _, flameOk_setRest, (drumAsks_setRest true).mpr⟩
  · exact hview

theorem heatKept_cross {a : Fin 8} (hk : HeatKept s₀ s) : HeatKept s₀ (cross d a s) := by
  have hraised : HeatKept s₀
      (raise .attributes .attrCrossed d (some (byte a.val)) (s.onAttr d a fun r => { r with crossed := true })) :=
    heatKept_of_allocation hk rfl
  unfold cross
  dsimp only
  split
  · exact hraised
  · exact heatKept_lockOut hraised
  · exact heatKept_of_allocation hraised rfl

theorem heatKept_takeIncrement {a : Fin 8} (hk : HeatKept s₀ s) : HeatKept s₀ (takeIncrement d a s) := by
  unfold takeIncrement
  dsimp only
  split
  · exact heatKept_cross (heatKept_of_allocation hk rfl)
  · exact heatKept_of_allocation hk rfl

theorem heatKept_evaluate (order : List (Drum × Fin 8)) (hk : HeatKept s₀ s) : HeatKept s₀ (evaluate order s).1 := by
  unfold evaluate
  exact List.foldlRecOn (motive := fun p : State × Nat => HeatKept s₀ p.1) order _ hk fun p hp r _ => by
    split
    · exact heatKept_cross hp
    · exact hp

/-! ### Events, lookups and the cabinet link -/

theorem allocation_enterAlert (ev : Event) (s : State) : (enterAlert ev s).allocation = s.allocation := by
  unfold enterAlert
  dsimp only
  (repeat' split) <;> rfl

theorem heatKept_takeEvent {ev : Event} (hk : HeatKept s₀ s) : HeatKept s₀ (takeEvent ev s) :=
  heatKept_of_allocation
    (heatKept_of_work hk ⟨besides_routedAction ev.drum _ s, flameOk_routedAction, drumAsks_routedAction⟩)
    (allocation_enterAlert ev _)

theorem allocation_forwardPart (n : Option Nat) (f : HandedFrame) (s : State) :
    (forwardPart n f s).allocation = s.allocation := by
  unfold forwardPart; split <;> rfl

theorem allocation_absorbPart (e : ClassEntry) (f : HandedFrame) (s : State) :
    (absorbPart e f s).allocation = s.allocation := by
  have hstatus (bound : Nat) (a : Option Absorbed) : (handStatus f bound a s).allocation = s.allocation := by
    unfold handStatus
    (repeat' split) <;> rfl
  unfold absorbPart
  dsimp only
  split
  · rfl
  · exact hstatus _ _
  · exact hstatus _ _
  all_goals split <;> rfl

theorem allocation_matched (e : ClassEntry) (f : HandedFrame) (s : State) : (matched e f s).allocation = s.allocation := by
  have habsorbed : (if f.passed = true then absorbPart e f s else s).allocation = s.allocation := by
    split
    · exact allocation_absorbPart e f s
    · rfl
  unfold matched
  split
  · exact habsorbed
  · exact allocation_forwardPart _ f s
  · rw [allocation_forwardPart]; exact habsorbed
  · rfl

/-- A lookup hands work on and counts a hit; it asks nothing of the allocator (R34). -/
theorem allocation_lookUp (f : HandedFrame) (s : State) : (lookUp f s).allocation = s.allocation := by
  unfold lookUp
  split
  · rw [allocation_matched]; rfl
  · unfold missed
    dsimp only
    split
    · rw [allocation_forwardPart]; rfl
    · rfl

theorem allocation_cabinetLost (s : State) : (cabinetLost s).allocation = s.allocation := by
  unfold cabinetLost cutAlert
  split <;> rfl

theorem allocation_takeCabinetFrame (bytes : List Byte) (s : State) :
    (takeCabinetFrame bytes s).allocation = s.allocation := by
  unfold takeCabinetFrame offerRequest
  (repeat' split) <;> rfl

theorem allocation_choose (s : State) : (choose s).allocation = s.allocation := by
  have hhead : (beginHead s).allocation = s.allocation := by unfold beginHead; split <;> rfl
  unfold choose
  split
  · rfl
  · split
    · exact hhead
    · split
      · rfl
      · exact hhead

theorem heatKept_takeFrame {bytes : List Byte} (hk : HeatKept s₀ s) : HeatKept s₀ (takeFrame d bytes s) := by
  have hcounted (f : Port → Port) (hi : ∀ p, (f p).image = p.image) (hr : ∀ p, (f p).readings = p.readings) :
      HeatKept s₀ (s.onPort d f) :=
    heatKept_of_work hk ⟨besides_onPort d f s, fun h => flameOk_onPort h (by rw [hi]) (hr _), (drumAsks_onPort f).mpr⟩
  unfold takeFrame
  dsimp only
  split
  · exact hcounted _ (fun _ => rfl) fun _ => rfl
  · split
    · exact heatKept_of_allocation hk rfl
    · exact heatKept_of_allocation (hcounted (fun p => { p with checkFailed := satSucc 65535 p.checkFailed })
        (fun _ => rfl) fun _ => rfl) rfl

/-! ### The drum reset and the drum configuration (R67, R136) -/

theorem flameSafe_purgeAlerts (h : FlameSafe s) (d : Drum) : FlameSafe (purgeAlerts d s) := h

theorem flameSafe_demandsLost (h : FlameSafe s) (d : Drum) : FlameSafe (demandsLost d s) := by
  refine flameSafe_of_eq (s := s) rfl (fun _ => rfl) (fun x hx => ?_) h
  rw [flight_demandsLost] at hx
  exact List.mem_of_mem_filter hx

theorem flameSafe_vacated (h : FlameSafe s) (d : Drum) : FlameSafe (vacated d s) :=
  flameSafe_of_besides (besides_vacated d s) (flameOk_setCycle (flameOk_tumbleReset (flameOk_burnerReset (h d)))) h

theorem flameSafe_drynessReset (h : FlameSafe s) (d : Drum) : FlameSafe (drynessReset d s) :=
  flameSafe_of_besides (besides_drynessReset d s) (flameOk_drynessReset (h d)) h

theorem flameSafe_resetDrum (h : FlameSafe s) (d : Drum) : FlameSafe (resetDrum d s) := by
  have hreset : resetDrum d s = purgeAlerts d (releaseDrum d (demandsLost d (drynessReset d (vacated d s)))) := rfl
  rw [hreset]
  exact flameSafe_purgeAlerts
    (flameSafe_releaseDrum (flameSafe_demandsLost (flameSafe_drynessReset (flameSafe_vacated h d) d) d)) d

theorem heatKept_resetDrum (hk : HeatKept s₀ s) : HeatKept s₀ (resetDrum d s) :=
  heatKept_of_held hk (fun h => flameSafe_resetDrum h d) fun _ hh => heatHeld_resetDrum hh d

theorem readings_replaceConfig (d : Drum) (c : DrumConfig) (s : State) :
    ((replaceConfig d c s).drum d).port.readings = (s.drum d).port.readings := by
  unfold replaceConfig
  dsimp only
  split <;> simp

theorem heat_replaceConfig (d : Drum) (c : DrumConfig) (s : State) : (replaceConfig d c s).heat = s.heat := by
  have h := congrArg Besides.heat (replaceConfig_besides d c s)
  exact h

theorem flameOk_replaceConfig {c : DrumConfig} (h : FlameOk s d) : FlameOk (replaceConfig d c s) d := by
  obtain ⟨hcycle, htumble, -, hburner, -, -, hflame⟩ := keeps_replaceConfig d c s
  refine flameOk_congr hflame ?_ ?_ (by rw [flight_replaceConfig]) h
  · unfold DrumState.permissiveCap
    rw [hcycle, htumble, hburner, readings_replaceConfig]
  · unfold State.share; rw [heat_replaceConfig]

/-- A replaced configuration holds costs in order, as its ranges ask (R67). -/
theorem heatKept_replaceConfig {c : DrumConfig} (hk : HeatKept s₀ s) (hc : c.inRange = true) :
    HeatKept s₀ (replaceConfig d c s) := by
  have hflight := flight_replaceConfig d c s
  obtain ⟨-, -, -, hburner, -⟩ := keeps_replaceConfig d c s
  refine heatKept_of_held hk (fun h e => ?_) fun barred hh =>
    ⟨by rw [heat_replaceConfig]; exact hh.ledger, fun e => ?_, fun e => ?_⟩
  · by_cases he : e = d
    · rw [he]; exact flameOk_replaceConfig (h d)
    · have hdrum : (replaceConfig d c s).drum e = s.drum e := drum_replaceConfig_ne he
      exact flameOk_congr (by rw [hdrum]) (by rw [hdrum]) (by unfold State.share; rw [heat_replaceConfig]) (by rw [hflight]) (h e)
  · have hsame : ((replaceConfig d c s).drum e).burner = (s.drum e).burner := by
      by_cases he : e = d
      · rw [he]; exact hburner
      · rw [drum_replaceConfig_ne he]
    exact (drumAsks_congr (by rw [hsame]) (by rw [hsame]) (by rw [hflight])).mpr (hh.asks.each e)
  · by_cases he : e = d
    · rw [he, config_replaceConfig]; exact DrumConfig.costs_ordered hc
    · rw [drum_replaceConfig_ne he]; exact hh.asks.ordered e

end

end Sys2Proof.Machine
end

section
/-! Every request and every command keeps the FLAME entries permitted and the heat allocation sound (R117 to R121, R144); settles
O56 and O59. -/

namespace Sys2Proof.Machine

section
variable {s₀ s t u : State} {d : Drum} {r : Request} {c : Instr}

/-! ### Checks and arguments of a request -/

theorem heatKept_ok (hk : HeatKept s₀ s) : HeatKept s₀ (ok s).state := hk

/-- A check that refuses changes nothing where it fails (R52). -/
theorem heatKept_check {p : Prop} [Decidable p] {st : Status} {a : Answer} (hk : HeatKept s₀ s) (ha : HeatKept s₀ a.state) :
    HeatKept s₀ (if p then refuse st s else a).state := by
  split
  · exact hk
  · exact ha

theorem heatKept_admit {p : Prop} [Decidable p] {st : Status} {a : Answer} (hk : HeatKept s₀ s) (ha : HeatKept s₀ a.state) :
    HeatKept s₀ (if p then a else refuse st s).state := by
  split
  · exact ha
  · exact hk

theorem heatKept_onDrumArg {h : Drum → State → Answer} (hk : HeatKept s₀ s) (hh : ∀ d, HeatKept s₀ (h d s).state) :
    HeatKept s₀ (onDrumArg h r s).state := by
  unfold onDrumArg
  split
  · exact hh _
  · exact hk

theorem heatKept_onPortArg {h : Drum → State → Answer} (hk : HeatKept s₀ s) (hh : ∀ d, HeatKept s₀ (h d s).state) :
    HeatKept s₀ (onPortArg h r s).state := by
  unfold onPortArg
  split
  · exact heatKept_check hk (hh _)
  · exact hk

theorem heatKept_serveItem {h : Nat → State → Answer} (hk : HeatKept s₀ s) (hh : ∀ n, HeatKept s₀ (h n s).state) :
    HeatKept s₀ (serveItem h r s).state := by
  unfold serveItem
  split
  · exact hh _
  · exact hk

theorem heatKept_onScopePart {f : State → List Byte} (hk : HeatKept s₀ s) : HeatKept s₀ (onScopePart f r s).state := by
  unfold onScopePart
  split <;> exact hk

theorem heatKept_onScopeDrum {f : Drum → State → List Byte} (hk : HeatKept s₀ s) :
    HeatKept s₀ (onScopeDrum f r s).state := by
  unfold onScopeDrum
  split
  · split <;> exact hk
  · exact hk

/-! ### The owners of the requests -/

theorem heatKept_writeDrumConfig (hk : HeatKept s₀ s) : HeatKept s₀ (writeDrumConfig r s).state := by
  refine heatKept_onDrumArg hk fun d => ?_
  split
  · exact hk
  next c hc => exact heatKept_admit hk (heatKept_replaceConfig hk (configOf_inRange hc))

theorem drumAsks_loadCycle {p : Prop} {x : CycleRecord} (h : DrumAsks p s d) : DrumAsks p (loadCycle d x s) d := by
  unfold loadCycle
  exact drumAsks_setCycle h

theorem heatKept_cycleLoad (hk : HeatKept s₀ s) : HeatKept s₀ (cycleLoad r s).state := by
  refine heatKept_onDrumArg hk fun d => ?_
  have hloaded (x : CycleRecord) : HeatKept s₀ (loadCycle d x s) :=
    heatKept_of_work hk ⟨besides_loadCycle d x s, flameOk_loadCycle, drumAsks_loadCycle⟩
  dsimp only
  split
  · exact hk
  · exact heatKept_check hk (heatKept_check hk (heatKept_check hk (heatKept_check hk (heatKept_ok (hloaded _)))))

theorem heatKept_cycleStart (hk : HeatKept s₀ s) : HeatKept s₀ (cycleStart r s).state := by
  unfold cycleStart
  refine heatKept_onDrumArg hk fun d => ?_
  have hstarted : HeatKept s₀ (startCycle d s) :=
    heatKept_of_work hk ⟨besides_startCycle d s, flameOk_startCycle, drumAsks_startCycle⟩
  dsimp only
  exact heatKept_check hk (heatKept_check hk (heatKept_check hk (heatKept_check hk (heatKept_check hk (heatKept_check hk
    (heatKept_ok hstarted))))))

theorem heatKept_cycleResume (hk : HeatKept s₀ s) : HeatKept s₀ (cycleResume r s).state := by
  unfold cycleResume
  refine heatKept_onDrumArg hk fun d => ?_
  have hresumed : HeatKept s₀ (resumeCycle d s) :=
    heatKept_of_work hk ⟨besides_resumeCycle d s, flameOk_resumeCycle, drumAsks_resumeCycle⟩
  dsimp only
  exact heatKept_check hk (heatKept_check hk (heatKept_ok hresumed))

theorem heatKept_cyclePause (hk : HeatKept s₀ s) : HeatKept s₀ (cyclePause r s).state := by
  refine heatKept_onDrumArg hk fun d => ?_
  have hpaused : HeatKept s₀ (pauseOrJoin d .request s) :=
    heatKept_of_work hk ⟨besides_pauseOrJoin d _ s, flameOk_pauseOrJoin, drumAsks_pauseOrJoin⟩
  split
  case h_1 | h_2 | h_3 | h_4 => exact hpaused
  all_goals exact hk

theorem heatKept_cycleEndHeat (hk : HeatKept s₀ s) : HeatKept s₀ (cycleEndHeat r s).state := by
  refine heatKept_onDrumArg hk fun d => ?_
  have hended : HeatKept s₀ (heatEnd d .endHeat s) :=
    heatKept_of_work hk ⟨besides_heatEnd d _ s, flameOk_heatEnd, drumAsks_heatEnd⟩
  split
  case h_1 | h_2 | h_3 | h_4 | h_5 => exact hended
  all_goals exact hk

theorem heatKept_bringUp (hk : HeatKept s₀ s) : HeatKept s₀ (bringUp d s).state := by
  have hmoved : HeatKept s₀ (setPortState d .seek s) :=
    heatKept_of_work hk ⟨besides_setPortState d _ s, flameOk_setPortState, (drumAsks_setPortState _).mpr⟩
  unfold bringUp
  split
  case h_1 | h_2 => exact hmoved
  all_goals exact hk

theorem heatKept_holdNodes (hk : HeatKept s₀ s) : HeatKept s₀ (holdNodes d s).state := by
  refine heatKept_admit hk ?_
  dsimp only [ok]
  split
  · exact hk
  · exact heatKept_of_work hk ⟨besides_setHold d s, flameOk_setHold, drumAsks_setHold⟩

theorem heatKept_releaseNodes (hk : HeatKept s₀ s) : HeatKept s₀ (releaseNodes d s).state := by
  dsimp only [releaseNodes, ok]
  split
  · exact heatKept_of_work hk ⟨besides_clearHold d s, flameOk_clearHold, fun h => by simp [clearHold, h]⟩
  · exact hk

theorem drumWork_startTest {dir : TestDirection} {mode : FlagMode} : DrumWork s (startTest d dir mode s) d :=
  ⟨besides_startTest d dir mode s, flameOk_startTest, fun h => by simp [startTest, h]⟩

theorem heatKept_testRequest {dir : TestDirection} (hk : HeatKept s₀ s) : HeatKept s₀ (testRequest dir r s).state := by
  refine heatKept_onPortArg hk fun d => ?_
  split
  · exact hk
  · exact heatKept_admit hk (heatKept_of_work hk drumWork_startTest)

/-- A frame passed through writes the DRIVE or the FAN entry or the slot (R58). -/
theorem drumWork_gate {f : PassFrame} : DrumWork s (gate d f s).state d := by
  have hself : DrumWork s s d := ⟨rfl, id, id⟩
  have hdrive : DrumWork s (passDrive d f s).state d := by
    unfold passDrive
    dsimp only
    split
    · exact hself
    next v _ =>
      split
      · exact hself
      · split
        · exact ⟨besides_writeDrive d v s, flameOk_writeDrive, (drumAsks_writeDrive v).mpr⟩
        · exact hself
  have hfan : DrumWork s (passFan d f s).state d := by
    unfold passFan
    split
    · exact hself
    next on _ =>
      split
      · exact ⟨besides_writeFan d on s, flameOk_writeFan, (drumAsks_writeFan on).mpr⟩
      · exact hself
  have hplaced : DrumWork s (s.onPort d fun p => { p with slot := some f }) d :=
    ⟨besides_onPort d _ s, fun h => flameOk_onPort h rfl rfl, (drumAsks_onPort _).mpr⟩
  have hslot : DrumWork s (passSlot d f s).state d := by
    unfold passSlot
    split
    · exact hself
    · exact hplaced
  unfold gate
  split
  · split
    · exact hself
    · split
      · exact hdrive
      · split
        · exact hfan
        · exact hself
  · exact hslot

theorem heatKept_passThrough (hk : HeatKept s₀ s) : HeatKept s₀ (passThrough r s).state :=
  heatKept_onDrumArg hk fun _ => heatKept_check hk (heatKept_check hk (heatKept_of_work hk drumWork_gate))

theorem heatKept_attrLoad (hk : HeatKept s₀ s) : HeatKept s₀ (attrLoad r s).state := by
  refine heatKept_check hk (heatKept_check hk ?_)
  split
  · exact hk
  · unfold loadTable
    generalize attrOrder = order
    exact heatKept_evaluate order (heatKept_of_allocation hk rfl)

theorem heatKept_owner {o : Owner} (hc : ownerOf c = some o) (r : Request) (hu : HeatKept s₀ u) :
    HeatKept s₀ (o.serves r u).state := by
  cases c <;> cases hc
  case badRequest | partReset => exact hu
  case configWriteHeatBudget => exact heatKept_serveItem hu fun n => heatKept_check hu (heatKept_setBudget hu n)
  case configWriteBypassLimit =>
    refine heatKept_serveItem hu fun n => heatKept_check hu (heatKept_grantAttempt ?_)
    exact heatKept_of_held hu (fun h => flameSafe_onHeat h fun _ => rfl) fun _ hh =>
      ⟨hh.ledger.congr rfl rfl rfl hh.ledger.budget, asks_onHeat hh.asks _⟩
  case configWriteHeatWaitLimit => exact heatKept_serveItem hu fun n => heatKept_check hu (heatKept_setWaitLimit hu n)
  case configWriteBucketSpread | configWriteSignatureSpread =>
    exact heatKept_serveItem hu fun n => heatKept_admit hu (heatKept_of_allocation hu rfl)
  case configWriteMissAction =>
    refine heatKept_serveItem hu fun _ => heatKept_of_allocation hu ?_
    unfold writeMissAction; split <;> rfl
  case drumConfigWrite => exact heatKept_writeDrumConfig hu
  case profileWrite => exact heatKept_of_allocation hu (by unfold writeProfile; dsimp only; (repeat' split) <;> rfl)
  case routeWrite => exact heatKept_of_allocation hu (by unfold writeRoute; dsimp only; (repeat' split) <;> rfl)
  case classAdd => exact heatKept_of_allocation hu (by unfold addEntry; dsimp only; (repeat' split) <;> rfl)
  case classRemove => exact heatKept_of_allocation hu (by unfold removeEntry; dsimp only; (repeat' split) <;> rfl)
  case classQuery => exact heatKept_of_allocation hu (by unfold queryTuple; dsimp only; (repeat' split) <;> rfl)
  case classRead => exact heatKept_of_allocation hu (by unfold readEntries; dsimp only; (repeat' split) <;> rfl)
  case cycleLoad => exact heatKept_cycleLoad hu
  case cycleUnload =>
    exact heatKept_onDrumArg hu fun d => heatKept_admit hu
      (heatKept_of_work hu ⟨besides_enterVacant d u, flameOk_enterVacant, drumAsks_enterVacant⟩)
  case cycleStart => exact heatKept_cycleStart hu
  case cyclePause => exact heatKept_cyclePause hu
  case cycleResume => exact heatKept_cycleResume hu
  case cycleEndHeat => exact heatKept_cycleEndHeat hu
  case cycleAbort =>
    exact heatKept_onDrumArg hu fun d => heatKept_check hu
      (heatKept_of_work hu ⟨besides_abortCycle d u, flameOk_abortCycle, drumAsks_abortCycle⟩)
  case drumReset => exact heatKept_onDrumArg hu fun _ => heatKept_resetDrum hu
  case heatLockoutClear =>
    exact heatKept_onDrumArg hu fun d => heatKept_admit hu
      (heatKept_of_work hu ⟨besides_clearLockout d u, flameOk_clearLockout, drumAsks_clearLockout⟩)
  case powerOff =>
    exact heatKept_onPortArg hu fun d => heatKept_admit hu
      (heatKept_of_work hu ⟨besides_powerOff d u, flameOk_powerOff, drumAsks_powerOff⟩)
  case serviceOnly =>
    exact heatKept_onPortArg hu fun d => heatKept_admit hu
      (heatKept_of_work hu ⟨besides_serviceOnly d u, flameOk_serviceOnly, drumAsks_serviceOnly.mpr⟩)
  case bringUp => exact heatKept_onPortArg hu fun _ => heatKept_bringUp hu
  case holdNodes => exact heatKept_onPortArg hu fun _ => heatKept_holdNodes hu
  case releaseNodes => exact heatKept_onPortArg hu fun _ => heatKept_releaseNodes hu
  case testSend | testReceive => exact heatKept_testRequest hu
  case testEnd =>
    exact heatKept_onPortArg hu fun d =>
      heatKept_of_work hu ⟨besides_endTest d u, flameOk_endTest, drumAsks_endTest.mpr⟩
  case passThrough => exact heatKept_passThrough hu
  case alertAck => exact heatKept_of_allocation hu (by unfold alertAck ackAlert; dsimp only; (repeat' split) <;> rfl)
  case attrLoad => exact heatKept_attrLoad hu
  case attrRead => exact heatKept_onDrumArg hu fun _ => hu
  case attrClear => exact heatKept_of_allocation hu (by unfold attrClear onDrumArg; dsimp only; (repeat' split) <;> rfl)
  case statusReadPart | statusReadHeat => exact heatKept_onScopePart hu
  case statusReadDrum | statusReadPort => exact heatKept_onScopeDrum hu

/-- The reply leaves what the owner made, but for the standby timer of the drum the request names (R19, R51). -/
theorem heatKept_answer {rest : List Request} {h : State → Answer} (hh : HeatKept s₀ (h (s.taken rest)).state) :
    HeatKept s₀ (answer r rest h s) := by
  unfold answer
  dsimp only
  refine heatKept_of_allocation (s := match (if r.valid then r.names else none) with
    | some d => reloadStandby d (h (s.taken rest)).state
    | none => (h (s.taken rest)).state) ?_ rfl
  split
  next d _ =>
    exact heatKept_of_work hh ⟨besides_reloadStandby d _, flameOk_reloadStandby, drumAsks_reloadStandby.mpr⟩
  next => exact hh

theorem heatKept_request {o : Owner} (hc : ownerOf c = some o) (h : exec c s = .next t) : HeatKept s t := by
  rw [exec_of_owner hc] at h
  refine running_keeps (heatKept_refl s) ?_ h
  unfold serve
  split
  · exact heatKept_refl s
  next r rest _ =>
    split
    · exact heatKept_answer (heatKept_owner hc r (u := s.taken rest) (heatKept_of_allocation (heatKept_refl s) rfl))
    · exact heatKept_refl s

/-! ### The other commands -/

/-- A command that acts on one drum where its trigger holds. -/
theorem heatKept_of_trigger {b : State → Bool} {f : State → State} (hw : DrumWork s (f s) d)
    (h : running (fun s => onlyIf (b s) f s) s = .next t) : HeatKept s t :=
  running_keeps (heatKept_refl s) (heatKept_onlyIf (heatKept_refl s) (heatKept_of_work (heatKept_refl s) hw)) h

theorem drumAsks_debounceExpires {p : Prop} {x : Discrete} (h : DrumAsks p s d) : DrumAsks p (debounceExpires d x s) d := by
  unfold debounceExpires
  exact drumAsks_changeReading ((drumAsks_onPort _).mpr h)

theorem heatKept_command (hc : ownerOf c = none) (h : exec c s = .next t) : HeatKept s t := by
  have hs : HeatKept s s := heatKept_refl s
  have hdrop (p : Drum × Absorbed) : HeatKept s (dropAbsorbed p s) := heatKept_of_allocation hs rfl
  cases c
  case powerOnReset | resetnAssert => cases h; exact heatKept_of_reset rfl
  case resetnRelease =>
    cases h
    split
    · exact heatKept_of_allocation hs rfl
    · exact hs
  case cabinetLock => exact running_keeps hs (heatKept_of_allocation hs rfl) (show execCabinetLock s = _ from h)
  case cabinetLockLost => exact running_keeps hs (heatKept_of_allocation hs (allocation_cabinetLost s)) h
  case cabinetFrameReceived bytes =>
    exact running_keeps hs (heatKept_onlyIf hs (heatKept_of_allocation hs (allocation_takeCabinetFrame bytes s))) h
  case transmitChoice =>
    exact running_keeps hs (heatKept_onlyIf hs (heatKept_of_allocation hs (allocation_choose s))) h
  case replyTransmitEnd =>
    refine running_keeps hs ?_ (show execReplyTransmitEnd s = _ from h)
    split
    · split
      · exact heatKept_of_reset rfl
      · exact heatKept_of_allocation hs rfl
    · exact hs
  case alertFrameEnd =>
    refine running_keeps hs ?_ (show execAlertFrameEnd s = _ from h)
    split
    · exact heatKept_of_allocation hs rfl
    · exact hs
  case forwardRecordEnd =>
    refine running_keeps hs ?_ (show execForwardRecordEnd s = _ from h)
    split
    · exact heatKept_of_allocation hs rfl
    · exact hs
  case mainLaneLock d =>
    refine running_keeps hs ?_ (show execMainLaneLock d s = _ from h)
    split
    · exact heatKept_of_work hs ⟨besides_enterUp d s, flameOk_enterUp, drumAsks_enterUp.mpr⟩
    · exact heatKept_of_work hs ⟨besides_onPort d _ s, fun h => flameOk_onPort h rfl rfl, (drumAsks_onPort _).mpr⟩
    all_goals exact hs
  case mainLaneLockLost d =>
    refine running_keeps hs ?_ (show execMainLaneLockLost d s = _ from h)
    split
    · exact heatKept_of_work hs ⟨besides_mainLaneLost d s, flameOk_mainLaneLost, drumAsks_mainLaneLost⟩
    · exact heatKept_of_work hs ⟨besides_onPort d _ s, fun h => flameOk_onPort h rfl rfl, (drumAsks_onPort _).mpr⟩
    all_goals exact hs
  case mainLaneFrameReceived d bytes => exact running_keeps hs (heatKept_onlyIf hs (heatKept_takeFrame hs)) h
  case lookup d =>
    refine running_keeps hs ?_ (show execLookup d s = _ from h)
    split
    · exact hs
    · exact heatKept_of_allocation (heatKept_of_allocation hs rfl) (allocation_lookUp _ _)
  case inletTempAbsorbed d =>
    refine running_keeps hs ?_ (show execInletTempAbsorbed d s = _ from h)
    split
    · exact heatKept_of_work (hdrop _) ⟨besides_takeInlet d _ _, flameOk_takeInlet, drumAsks_takeInlet⟩
    · exact hs
  case exhaustTempAbsorbed d =>
    refine running_keeps hs ?_ (show execExhaustTempAbsorbed d s = _ from h)
    split
    · exact heatKept_of_work (hdrop _) ⟨besides_takeExhaust d _ _, flameOk_takeExhaust, drumAsks_takeExhaust⟩
    · exact hs
  case motorCurrentAbsorbed d =>
    refine running_keeps hs ?_ (show execMotorCurrentAbsorbed d s = _ from h)
    split
    · exact heatKept_of_work (hdrop _) ⟨besides_takeCurrent d _ _, flameOk_takeCurrent, (drumAsks_takeCurrent _).mpr⟩
    · exact hs
  case driveStatAbsorbed d =>
    refine running_keeps hs ?_ (show execDriveStatAbsorbed d s = _ from h)
    split
    · exact heatKept_of_work (hdrop _) ⟨besides_takeDriveStat d _ _, flameOk_takeDriveStat, drumAsks_takeDriveStat⟩
    · exact hs
  case wetCountAbsorbed d =>
    refine running_keeps hs ?_ (show execWetCountAbsorbed d s = _ from h)
    split
    · exact heatKept_of_work (hdrop _) ⟨besides_takeWet d _ _, flameOk_takeWet, drumAsks_takeWet⟩
    · exact hs
  case flameStatAbsorbed d =>
    refine running_keeps hs ?_ (show execFlameStatAbsorbed d s = _ from h)
    split
    · exact heatKept_takeFlameStat (hdrop _)
    · exact hs
  case heatDemand d =>
    refine running_keeps hs ?_ (show execHeatDemand d s = _ from h)
    split
    · exact hs
    next hx => exact heatKept_takeNextDemand hs (List.mem_of_find?_eq_some hx)
  case entryWaitExpiry d => exact running_keeps hs (heatKept_judgeWait hs) h
  case trialExpiry d => exact running_keeps hs (heatKept_onlyIf hs (heatKept_failedAttempt hs)) h
  case eventTaken src =>
    refine running_keeps hs ?_ (show execEventTaken src s = _ from h)
    split
    · exact hs
    · exact heatKept_takeEvent (heatKept_of_allocation hs rfl)
  case attributeIncrement src =>
    refine running_keeps hs ?_ (show execAttributeIncrement src s = _ from h)
    split
    · exact hs
    · exact heatKept_takeIncrement (heatKept_of_allocation hs rfl)
  case commandFrameSent d =>
    refine running_keeps hs ?_ (show execCommandFrameSent d s = _ from h)
    split
    · exact hs
    · refine heatKept_of_work hs ⟨besides_onPort d _ s, fun h => flameOk_onPort h ?_ ?_, (drumAsks_onPort _).mpr⟩
      · dsimp only
        split <;> rfl
      · rfl
  case graceExpiry d =>
    exact heatKept_of_trigger ⟨besides_graceExpires d s, flameOk_graceExpires, drumAsks_graceExpires⟩
      (show execGraceExpiry d s = _ from h)
  case serviceLaneLock d =>
    exact heatKept_of_trigger ⟨besides_onPort d _ s, fun h => flameOk_onPort h rfl rfl, (drumAsks_onPort _).mpr⟩
      (show execServiceLaneLock d s = _ from h)
  case serviceLaneLockLost d =>
    exact heatKept_of_trigger ⟨besides_serviceLaneDown d s, flameOk_serviceLaneDown, drumAsks_serviceLaneDown⟩
      (show execServiceLaneLockLost d s = _ from h)
  case discreteReport d raw =>
    exact heatKept_of_trigger ⟨besides_takeDiscretes d raw s, flameOk_takeDiscretes, fun h => by simp [takeDiscretes, h]⟩
      (show execDiscreteReport d raw s = _ from h)
  case debounceExpiry d x =>
    exact heatKept_of_trigger ⟨besides_debounceExpires d x s, flameOk_debounceExpires, drumAsks_debounceExpires⟩
      (show execDebounceExpiry d x s = _ from h)
  case presenceReport d b =>
    exact heatKept_of_trigger ⟨besides_setPresence d b s, flameOk_setPresence, drumAsks_setPresence⟩
      (show execPresenceReport d b s = _ from h)
  case commandFrameSend d =>
    exact heatKept_of_trigger ⟨besides_beginSend d s, flameOk_beginSend, drumAsks_beginSend.mpr⟩
      (show execCommandFrameSend d s = _ from h)
  case refreshExpiry d =>
    exact heatKept_of_trigger ⟨besides_refreshExpires d s, flameOk_refreshExpires, fun h => by simp [refreshExpires, h]⟩
      (show execRefreshExpiry d s = _ from h)
  case standbyExpiry d =>
    exact heatKept_of_trigger ⟨besides_movePort d _ s, flameOk_movePort, (drumAsks_movePort _).mpr⟩
      (show execStandbyExpiry d s = _ from h)
  case armReport d =>
    exact heatKept_of_trigger ⟨besides_testArmed d s, flameOk_testArmed, fun h => by simp [testArmed, h]⟩
      (show execArmReport d s = _ from h)
  case armTimeout d =>
    exact heatKept_of_trigger ⟨besides_leaveTest d _ s, flameOk_leaveTest, (drumAsks_leaveTest _).mpr⟩
      (show execArmTimeout d s = _ from h)
  case testReport d n =>
    exact heatKept_of_trigger ⟨besides_closeInterval d _ s, flameOk_closeInterval, (drumAsks_closeInterval _).mpr⟩
      (show execTestReport d n s = _ from h)
  case checkerInterval d n =>
    exact heatKept_of_trigger ⟨besides_checkerCloses d n s, flameOk_checkerCloses, fun h => by simp [checkerCloses, h]⟩
      (show execCheckerInterval d n s = _ from h)
  case proveTimeout d =>
    exact heatKept_of_trigger ⟨besides_cycleHalt d _ s, flameOk_cycleHalt, drumAsks_cycleHalt⟩
      (show execProveTimeout d s = _ from h)
  case airTimeEnd d =>
    exact heatKept_of_trigger ⟨besides_enterTarget d s, flameOk_enterTarget, drumAsks_enterTarget⟩
      (show execAirTimeEnd d s = _ from h)
  case dryingTimeLimit d =>
    exact heatKept_of_trigger ⟨besides_startCooling d _ s, flameOk_startCooling, drumAsks_startCooling⟩
      (show execDryingTimeLimit d s = _ from h)
  case minimumCoolTimeReached d =>
    refine heatKept_of_trigger (d := d) ?_ (show execMinimumCoolTimeReached d s = _ from h)
    exact ⟨by simp, fun h => flameOk_coolTest (flameOk_onCycle h rfl rfl), fun h =>
      drumAsks_coolTest ((drumAsks_onCycle _).mpr h)⟩
  case maximumCoolTime d =>
    exact heatKept_of_trigger ⟨besides_coolingEnds d s, flameOk_coolingEnds, drumAsks_coolingEnds⟩
      (show execMaximumCoolTime d s = _ from h)
  case guardIntervalExpiry d =>
    exact heatKept_of_trigger ⟨besides_guardIntervalEnds d s, flameOk_guardIntervalEnds, drumAsks_guardIntervalEnds.mpr⟩
      (show execGuardIntervalExpiry d s = _ from h)
  case guardLimit d =>
    exact heatKept_of_trigger ⟨besides_enterDone d s, flameOk_enterDone, drumAsks_enterDone⟩
      (show execGuardLimit d s = _ from h)
  case fanOverrunExpiry d =>
    refine heatKept_of_trigger (d := d) ?_ (show execFanOverrunExpiry d s = _ from h)
    exact ⟨by simp, fun h => flameOk_writeFan (flameOk_onCycle h rfl rfl), fun h => by simp [h]⟩
  case pauseLimitExpiry d =>
    exact heatKept_of_trigger ⟨besides_pauseLimitEnds d s, flameOk_pauseLimitEnds, drumAsks_pauseLimitEnds⟩
      (show execPauseLimitExpiry d s = _ from h)
  case statusWaitExpiry d =>
    exact heatKept_of_trigger ⟨besides_onTumble d _ s, fun h => flameOk_onTumble h rfl, (drumAsks_onTumble _).mpr⟩
      (show execStatusWaitExpiry d s = _ from h)
  case runLengthEnd d =>
    exact heatKept_of_trigger ⟨besides_endNormalRun d s, flameOk_endNormalRun, drumAsks_endNormalRun.mpr⟩
      (show execRunLengthEnd d s = _ from h)
  case maximumRunSeconds d =>
    exact heatKept_of_trigger ⟨besides_endNormalRun d s, flameOk_endNormalRun, drumAsks_endNormalRun.mpr⟩
      (show execMaximumRunSeconds d s = _ from h)
  case minimumRunReached d =>
    exact heatKept_of_trigger ⟨besides_minimumRunReached d s, flameOk_minimumRunReached, drumAsks_minimumRunReached.mpr⟩
      (show execMinimumRunReached d s = _ from h)
  case guardTumbleEnd d =>
    exact heatKept_of_trigger ⟨besides_enterDecel d _ s, flameOk_enterDecel, (drumAsks_enterDecel _).mpr⟩
      (show execGuardTumbleEnd d s = _ from h)
  case decelTimeout d =>
    exact heatKept_of_trigger ⟨besides_decelTimeout d s, flameOk_decelTimeout, drumAsks_decelTimeout⟩
      (show execDecelTimeout d s = _ from h)
  case dwellExpiry d =>
    exact heatKept_of_trigger ⟨besides_beginRun d s, flameOk_beginRun, drumAsks_beginRun.mpr⟩
      (show execDwellExpiry d s = _ from h)
  case recoverDelayExpiry d =>
    exact heatKept_of_trigger ⟨besides_beginRun d s, flameOk_beginRun, drumAsks_beginRun.mpr⟩
      (show execRecoverDelayExpiry d s = _ from h)
  case retryDelayExpiry d =>
    exact heatKept_of_trigger ⟨besides_retryDelayEnds d s, flameOk_retryDelayEnds, drumAsks_retryDelayEnds.mpr⟩
      (show execRetryDelayExpiry d s = _ from h)
  case stableFlameExpiry d =>
    refine heatKept_of_trigger (d := d) ?_ (show execStableFlameExpiry d s = _ from h)
    exact ⟨besides_onBurner d _ s, fun h => flameOk_onBurner h rfl rfl, (drumAsks_onBurner rfl rfl).mpr⟩
  case inletStarvationExpiry d =>
    refine heatKept_of_trigger (d := d) ?_ (show execInletStarvationExpiry d s = _ from h)
    exact ⟨by simp, fun h => flameOk_raise (flameOk_setWanted (flameOk_onBurner h rfl rfl)), fun h =>
      (drumAsks_raise _ _ _ _).mpr (drumAsks_setWanted ((drumAsks_onBurner rfl rfl).mpr h) (Nat.zero_le 2))⟩
  case extraDryExpiry d =>
    exact heatKept_of_trigger ⟨besides_extraDryEnds d s, flameOk_extraDryEnds, drumAsks_extraDryEnds⟩
      (show execExtraDryExpiry d s = _ from h)
  case sampleStarvationExpiry d =>
    refine heatKept_of_trigger (d := d) ?_ (show execSampleStarvationExpiry d s = _ from h)
    exact ⟨by simp, fun h => flameOk_raise (flameOk_onDryness h), fun h => by simp [h]⟩
  all_goals cases hc

theorem heatKept_exec (h : exec c s = .next t) : HeatKept s t := by
  cases hc : ownerOf c with
  | some o => exact heatKept_request hc h
  | none => exact heatKept_command hc h

/-! ### Steps -/

/-- A millisecond runs timers down and changes no burner, no share and no demand (log 2). -/
theorem heatKept_tick (s : State) : HeatKept s (tick s) := by
  have hheat : (tick s).heat = s.heat := by unfold tick; split <;> rfl
  have hflight : (tick s).flight = s.flight := by unfold tick; split <;> rfl
  have hcap (d : Drum) : ((tick s).drum d).permissiveCap = (s.drum d).permissiveCap := by rw [drum_tick]; split <;> rfl
  have hflame (d : Drum) : ((tick s).drum d).port.image.flameStage = (s.drum d).port.image.flameStage := by
    rw [drum_tick]; split <;> rfl
  have hwanted (d : Drum) : ((tick s).drum d).burner.wanted = (s.drum d).burner.wanted := by rw [drum_tick]; split <;> rfl
  have hlockout (d : Drum) : ((tick s).drum d).burner.lockout = (s.drum d).burner.lockout := by
    rw [drum_tick]; split <;> rfl
  have hconfig (d : Drum) : ((tick s).drum d).config = (s.drum d).config := by rw [drum_tick]; split <;> rfl
  refine heatKept_of_held (heatKept_refl s) (fun h d => ?_) fun barred hh => ⟨hheat ▸ hh.ledger, fun d => ?_, fun d => ?_⟩
  · exact flameOk_congr (hflame d) (hcap d) (by unfold State.share; rw [hheat]) (by rw [hflight]) (h d)
  · exact (drumAsks_congr (hwanted d) (hlockout d) (by rw [hflight])).mpr (hh.asks.each d)
  · rw [hconfig]; exact hh.asks.ordered d

theorem heatKept_step (h : step s = .next t) : HeatKept s t := by
  unfold step at h
  split at h
  · cases h; exact heatKept_tick s
  next c rest _ =>
    have hexec := heatKept_exec h
    exact ⟨fun hf => hexec.flame hf, fun hs => hexec.sound hs⟩

/-! ### What a permitted FLAME entry says (R122, R144) -/

/-- The cap is above 0 only where R144 permits heat. -/
theorem permits_of_cap {D : DrumState} (h : 0 < D.permissiveCap) :
    D.cycle.state = .drying ∧ D.port.readings.doorOpen = false ∧ D.port.readings.airflowNotProven = false ∧
      D.port.readings.highlimitTripped = false ∧ D.burner.lockout = none := by
  unfold DrumState.permissiveCap at h
  split at h
  · exact absurd h (Nat.lt_irrefl 0)
  · split at h
    next hall =>
      obtain ⟨hdrying, hdoor, hair, hhigh, hlockout, -⟩ := hall
      exact ⟨hdrying, hdoor, hair, hhigh, hlockout⟩
    next => exact absurd h (Nat.lt_irrefl 0)

theorem flamePermitted_of_flameSafe (h : FlameSafe s) : FlamePermitted s := by
  intro d hpos
  obtain ⟨hcap, hgranted, -⟩ := h d
  obtain ⟨hdrying, hdoor, hair, hhigh, hlockout⟩ := permits_of_cap (hpos.trans_le hcap)
  exact ⟨hdrying, hdoor, hair, hhigh, hlockout, hgranted⟩

theorem demandsFindFlameLowered_of_flameSafe (h : FlameSafe s) : DemandsFindFlameLowered s := by
  intro x hx
  obtain ⟨-, -, hdemands⟩ := h x.1
  exact hdemands x hx rfl

end

/-- Settles O56: every step keeps the FLAME stage within the cap, the grant and each demand under way, and a cap above 0 is R144's
condition. -/
theorem flameImageStaysPermitted : Obligations.FlameImageStaysPermitted :=
  ⟨fun _ _ hs h => (heatKept_step h).flame hs, fun _ hs =>
    ⟨flamePermitted_of_flameSafe hs, demandsFindFlameLowered_of_flameSafe hs⟩⟩

/-- Settles O59: every step keeps the allocator's ledger, with the drums in lockout barred from it. -/
theorem heatAllocationStaysSound : Obligations.HeatAllocationStaysSound :=
  fun _ _ hs h => (heatKept_step h).sound hs

end Sys2Proof.Machine
end

section
/-! What a demand and the heat wait limit come to (R121, R122, R124 to R128, R135); settles O52. -/

namespace Sys2Proof.Machine

/-- From s to t the allocator has told burners their stages, and no more: demands are handed on behind those under way, no event
and no increment is, and the controllers of the cycles and tumbles stand. -/
structure OnlyTold (s t : State) : Prop where
  demands : ∃ more, t.flight.demands = s.flight.demands ++ more
  handed : t.handed = s.handed
  controllers : ∀ e, (t.drum e).cycle = (s.drum e).cycle ∧ (t.drum e).tumble = (s.drum e).tumble

section
variable {s t u : State} {d : Drum} {w g : Nat} {e : HeatEntry} {before after : List (Drum × Nat)}

/-! ### Telling burners -/

theorem OnlyTold.refl (s : State) : OnlyTold s s := ⟨⟨[], (List.append_nil _).symm⟩, rfl, fun _ => ⟨rfl, rfl⟩⟩

theorem OnlyTold.trans (h : OnlyTold s t) (h' : OnlyTold t u) : OnlyTold s u := by
  obtain ⟨⟨more, hmore⟩, hhanded, hkept⟩ := h
  obtain ⟨⟨more', hmore'⟩, hhanded', hkept'⟩ := h'
  refine ⟨⟨more ++ more', ?_⟩, hhanded'.trans hhanded, fun e => ?_⟩
  · rw [hmore', hmore, List.append_assoc]
  · exact ⟨(hkept' e).1.trans (hkept e).1, (hkept' e).2.trans (hkept e).2⟩

theorem onlyTold_onHeat (s : State) (f : Heat → Heat) : OnlyTold s (s.onHeat f) :=
  ⟨⟨[], (List.append_nil _).symm⟩, rfl, fun _ => ⟨rfl, rfl⟩⟩

/-- The recomputation hands a changed demand on behind the others (R144). -/
theorem onlyTold_burnerUpdate (d : Drum) (s : State) : OnlyTold s (burnerUpdate d s) := by
  obtain ⟨-, -, hdemands⟩ := burnerUpdate_writes d s
  refine ⟨?_, handed_burnerUpdate d s, fun e => ?_⟩
  · rw [hdemands]
    split
    · exact ⟨[], (List.append_nil _).symm⟩
    · exact ⟨_, rfl⟩
  · by_cases he : e = d
    · subst he; simp
    · rw [drum_burnerUpdate_ne he]; exact ⟨rfl, rfl⟩

theorem onlyTold_setGranted (d : Drum) (g : Nat) (s : State) : OnlyTold s (setGranted d g s) :=
  (onlyTold_onHeat s _).trans (onlyTold_burnerUpdate d _)

theorem onlyTold_lowerGrant (d : Drum) (g : Nat) (s : State) : OnlyTold s (lowerGrant d g s) := by
  unfold lowerGrant
  split
  · exact (onlyTold_onHeat s _).trans (onlyTold_setGranted d g _)
  · exact onlyTold_setGranted d g s

theorem onlyTold_grantEntry (e : HeatEntry) (s : State) : OnlyTold s (grantEntry e s) :=
  (onlyTold_onHeat s _).trans (onlyTold_setGranted e.drum e.wanted _)

theorem onlyTold_grantRounds (h : GrantRounds s t) : OnlyTold s t := by
  induction h with
  | stop _ => exact OnlyTold.refl _
  | @round s u t hround _ ih =>
    obtain ⟨q, e, -, rfl, -, -⟩ := grantRound_grants hround
    exact ((onlyTold_onHeat s _).trans (onlyTold_grantEntry e _)).trans ih

theorem onlyTold_stageLowered (d : Drum) (w : Nat) (s : State) : OnlyTold s (stageLowered d w s) := by
  have hwithout : OnlyTold s ((s.onShare d fun x => { x with held := w }).onHeat fun h => h.without d) :=
    (onlyTold_onHeat s _).trans (onlyTold_onHeat _ _)
  unfold stageLowered
  dsimp only
  split
  · exact hwithout.trans (onlyTold_lowerGrant d w _)
  · exact hwithout

/-- Dropping the cost copy changes the allocator alone. -/
theorem dropCopy_outside (d : Drum) (s : State) :
    (dropCopy d s).drums = s.drums ∧ (dropCopy d s).flight = s.flight ∧ { dropCopy d s with heat := s.heat } = s := by
  unfold dropCopy
  split <;> exact ⟨rfl, rfl, rfl⟩

theorem onlyTold_of_outside (hd : t.drums = s.drums) (hf : t.flight = s.flight) : OnlyTold s t := by
  refine ⟨⟨[], by rw [hf, List.append_nil]⟩, by unfold State.handed; rw [hf], fun e => ?_⟩
  unfold State.drum
  rw [hd]
  exact ⟨rfl, rfl⟩

theorem onlyTold_demandTaken (d : Drum) (w : Nat) (s : State) : OnlyTold s (demandTaken d w s) := by
  by_cases hraised : (s.share d).granted < w
  · rcases entry_cases s.heat d with hnone | hsome
    · rw [demandTaken_raised_new hraised hnone rfl]
      exact onlyTold_of_outside rfl rfl
    · rw [demandTaken_raised_again hraised hsome]
      exact onlyTold_of_outside rfl rfl
  · obtain ⟨hdrums, hflight, -⟩ := dropCopy_outside d (stageLowered d w s)
    rw [demandTaken_lowered (Nat.not_lt.mp hraised)]
    exact (onlyTold_stageLowered d w s).trans (onlyTold_of_outside hdrums hflight)

/-! ### A lowered demand (R122) -/

theorem demandTaken_equal (hw : w = (s.share d).granted) :
    (demandTaken d w s).drums = s.drums ∧ (demandTaken d w s).flight = s.flight := by
  obtain ⟨hdrums, hflight, -⟩ := dropCopy_outside d (stageLowered d w s)
  have hstands : stageLowered d w s = (s.onShare d fun x => { x with held := w }).onHeat fun h => h.without d :=
    if_neg (Nat.not_lt.mpr hw.ge)
  rw [demandTaken_lowered hw.le, hdrums, hflight, hstands]
  exact ⟨rfl, rfl⟩

theorem burnerTold_demandTaken (hw : w < (s.share d).granted) : BurnerTold s (demandTaken d w s) d w := by
  obtain ⟨hdrums, -, -⟩ := dropCopy_outside d (stageLowered d w s)
  have hlowered : stageLowered d w s =
      lowerGrant d w ((s.onShare d fun x => { x with held := w }).onHeat fun h => h.without d) := if_pos hw
  have htold := burnerTold_lowerGrant d w ((s.onShare d fun x => { x with held := w }).onHeat fun h => h.without d)
  rw [hlowered] at hdrums
  rw [demandTaken_lowered hw.le, hlowered]
  exact burnerTold_of_drums htold rfl hdrums rfl

/-- A lowered demand changes the allocator, the drums and the demands handed on alone. -/
theorem stageLowered_rest (d : Drum) (w : Nat) (s : State) :
    { stageLowered d w s with
      heat := s.heat
      drums := s.drums
      flight := { (stageLowered d w s).flight with demands := s.flight.demands } } = s := by
  unfold stageLowered
  dsimp only
  split
  · have h := lowerGrant_rest d w ((s.onShare d fun x => { x with held := w }).onHeat fun h => h.without d)
    have := congrArg (fun x : State => { x with heat := s.heat }) h
    exact this
  · rfl

theorem demandTaken_rest (hw : w ≤ (s.share d).granted) :
    { demandTaken d w s with
      heat := s.heat
      drums := s.drums
      flight := { (demandTaken d w s).flight with demands := s.flight.demands } } = s := by
  rw [demandTaken_lowered hw]
  obtain ⟨-, -, hrest⟩ := dropCopy_outside d (stageLowered d w s)
  have h := congrArg (fun x : State =>
    { x with
      heat := s.heat
      drums := s.drums
      flight := { x.flight with demands := s.flight.demands } }) hrest
  exact h.trans (stageLowered_rest d w s)

/-! ### The command HEAT_DEMAND -/

theorem exec_heatDemand_none (hrun : s.resetHeld = false) (h : ∀ p ∈ s.flight.demands, p.1 ≠ d) :
    exec (.heatDemand d) s = .next s := by
  have hexec : exec (.heatDemand d) s = execHeatDemand d s := rfl
  rw [hexec, execHeatDemand, running_released _ hrun, List.find?_eq_none.mpr (by simpa using h)]

/-- The state with the demands before and after the one that the allocator takes. -/
def State.withDemands (s : State) (l : List (Drum × Nat)) : State := s.onFlight fun f => { f with demands := l }

/-- The allocator takes the oldest demand of the drum. -/
theorem exec_heatDemand_first (hrun : s.resetHeld = false) (hd : s.flight.demands = before ++ (d, w) :: after)
    (hb : ∀ p ∈ before, p.1 ≠ d) :
    exec (.heatDemand d) s = .next (takeDemand d w (s.withDemands (before ++ after))) := by
  have hexec : exec (.heatDemand d) s = execHeatDemand d s := rfl
  have hfind : s.flight.demands.find? (fun p => p.1 == d) = some (d, w) := by
    rw [hd, List.find?_append, List.find?_eq_none.mpr (by simpa using hb)]
    simp
  have herase : s.flight.demands.erase (d, w) = before ++ after := by
    rw [hd, List.erase_append_right _ fun hmem => hb _ hmem rfl, List.erase_cons_head]
  rw [hexec, execHeatDemand, running_released _ hrun, hfind]
  unfold State.withDemands
  rw [← herase]
  rfl

/-- A lowered stage is limited by the demands that remain as by the demands with the one taken. -/
theorem burnerTold_of_taken (hd : s.flight.demands = before ++ (d, w) :: after) (hg : g ≤ w)
    (h : BurnerTold (s.withDemands (before ++ after)) t d g) : BurnerTold s t d g := by
  have hlimited : (s.withDemands (before ++ after)).limited d g = s.limited d g := limited_of_taken hd rfl hg
  exact burnerTold_of_drums h rfl rfl hlimited.symm

/-! ### The heat wait (R127) -/

section
variable {pre post : List HeatEntry}

/-- The state in which an entry that has waited the limit has been reported. -/
def waitReported (e : HeatEntry) (pre post : List HeatEntry) (s : State) : State :=
  raise .allocator .heatWait e.drum (some (byte e.wanted))
    (s.onHeat fun h => { h with queue := pre ++ { e with reported := true } :: post })

/-- With one entry for each drum, the others are of other drums. -/
theorem drum_ne_of_oneEach (hn : ((pre ++ e :: post).map (·.drum)).Nodup) :
    (∀ x ∈ pre, x.drum ≠ e.drum) ∧ ∀ x ∈ post, x.drum ≠ e.drum := by
  rw [List.map_append, List.map_cons, List.nodup_append, List.nodup_cons] at hn
  obtain ⟨-, ⟨hpost, -⟩, hpre⟩ := hn
  refine ⟨fun x hx => hpre _ (List.mem_map_of_mem hx) _ List.mem_cons_self, fun x hx heq => hpost ?_⟩
  rw [← heq]
  exact List.mem_map_of_mem hx

theorem judgeWait_entry (hq : s.heat.queue = pre ++ e :: post) (hn : HeatQueueSound s) :
    judgeWait e.drum s = if e.waited s.heat.waitLimit s.clock then waitReported e pre post s else s := by
  unfold HeatQueueSound at hn
  rw [hq] at hn
  obtain ⟨hpre, hpost⟩ := drum_ne_of_oneEach hn
  have hentry : s.heat.entry? e.drum = some e := by
    unfold Heat.entry?
    rw [hq, List.find?_append, List.find?_eq_none.mpr (by simpa using hpre)]
    simp
  have hmark (l : List HeatEntry) (hl : ∀ x ∈ l, x.drum ≠ e.drum) :
      l.map (fun x => if x.drum = e.drum then { x with reported := true } else x) = l := by
    conv_rhs => rw [← List.map_id l]
    exact List.map_congr_left fun x hx => if_neg (hl x hx)
  have hmarked : s.heat.queue.map (fun x => if x.drum = e.drum then { x with reported := true } else x) =
      pre ++ { e with reported := true } :: post := by
    rw [hq, List.map_append, List.map_cons, hmark pre hpre, hmark post hpost, if_pos rfl]
  unfold judgeWait waitReported State.onHeat
  rw [hentry]
  dsimp only
  rw [hmarked]

theorem exec_entryWaitExpiry (hrun : s.resetHeld = false) : exec (.entryWaitExpiry d) s = .next (judgeWait d s) := by
  have hexec : exec (.entryWaitExpiry d) s = execEntryWaitExpiry d s := rfl
  rw [hexec, execEntryWaitExpiry, running_released _ hrun]

theorem judgeWait_none (h : ∀ e ∈ s.heat.queue, e.drum ≠ d) : judgeWait d s = s := by
  unfold judgeWait
  rw [heatEntry?_eq_none.mpr h]

end

end

/-- Settles O52: a demand taken is an entry made, an entry updated or a stage lowered, each by the equation of its case, and a
grant attempt follows. -/
theorem demandsAreGrantedQueuedOrLowered : Obligations.DemandsAreGrantedQueuedOrLowered := by
  refine ⟨grantRoundsByRule, grantsByRule, fun s d hrun => ⟨exec_heatDemand_none hrun, ?_, ?_, ?_⟩⟩
  · intro before w after hd hb
    have hrounds : GrantRounds (demandTaken d (if (s.drum d).burner.lockout = none then w else 0)
        (s.withDemands (before ++ after))) (takeDemand d w (s.withDemands (before ++ after))) := grantAttempt_spec _
    have htold := (onlyTold_demandTaken d _ (s.withDemands (before ++ after))).trans (onlyTold_grantRounds hrounds)
    have haround := around_takeDemand d w (s.withDemands (before ++ after))
    have hsettings := settings_takeDemand d w (s.withDemands (before ++ after))
    refine ⟨_, exec_heatDemand_first hrun hd hb, grantRound_of_grantRounds hrounds, htold.demands,
      congrArg Prod.fst htold.handed, congrArg Prod.snd htold.handed, congrArg Settings.budget hsettings,
      cabinet_of_around haround, router_of_around haround, ?_, attributes_of_around haround, fun e => ?_, _, hrounds, ?_⟩
    · exact congrArg (fun x => x.2.2.2.1) haround
    · obtain ⟨hcycle, htumble⟩ := htold.controllers e
      exact ⟨hcycle, htumble, congrFun (congrArg Settings.configs hsettings) e⟩
    · rintro w' rfl
      have hle : (if (s.drum d).burner.lockout = none then w else 0) ≤ w := by
        split
        · exact Nat.le_refl w
        · exact Nat.zero_le w
      generalize (if (s.drum d).burner.lockout = none then w else 0) = w' at hle hrounds htold ⊢
      refine ⟨fun hlowered => ⟨heat_demandTaken_lowered hlowered, ?_, fun hequal => ?_, fun hlt => ?_⟩,
        fun hraised => ⟨fun hnone c hc => ?_, fun hsome => demandTaken_raised_again hraised hsome⟩⟩
      · have hrest := demandTaken_rest (d := d) (s := s.withDemands (before ++ after)) hlowered
        have := congrArg (fun x : State => { x with flight := { x.flight with demands := s.flight.demands } }) hrest
        exact this
      · obtain ⟨hdrums, hflight⟩ := demandTaken_equal (d := d) (s := s.withDemands (before ++ after)) hequal
        exact ⟨hdrums, congrArg Flight.demands hflight⟩
      · exact burnerTold_of_taken hd hle (burnerTold_demandTaken hlt)
      · refine demandTaken_raised_new (s := s.withDemands (before ++ after)) hraised hnone ?_
        rcases hc with hc | ⟨hc, rfl⟩
        · exact copyTaken_of_some hc
        · exact copyTaken_of_none hc
  · intro hnone
    rw [exec_entryWaitExpiry hrun, judgeWait_none hnone]
  · rintro before e after hq rfl hn
    rw [exec_entryWaitExpiry hrun, judgeWait_entry hq hn]
    exact ⟨fun hw => by rw [if_neg (by rw [hw]; decide)], fun hw => by rw [if_pos hw]; rfl⟩

end Sys2Proof.Machine
end

section
/-! What the heat settings come to (R125, R128 to R133); settles O13. -/

namespace Sys2Proof.Machine

section
variable {s t u : State} {r : Request} {rest : List Request} {c : Instr} {barred : Drum → Prop} {b n : Nat}
  {taken : List (Drum × Nat)}

/-! ### A setting with an upper bound -/

/-- What a write of a heat setting comes to: refused above its bound, and otherwise the owner's work (R52). -/
theorem exec_writeSetting {i b3 b2 b1 b0 : Byte} {w : Nat → State → Answer} {f : Nat → State → State} {m : Nat}
    (hc : ownerOf c = some ⟨isItem n, serveItem w⟩) (hi : i.toNat = n) (hn : 1 ≤ n ∧ n ≤ 5)
    (hw : ∀ v u, w v u = if m < v then refuse .badArg u else ok (f v u)) (hf : ∀ v u, (f v u).cabinet = u.cabinet)
    (ho : s.offers r rest) (hcode : r.code = 1) (ha : r.args = [i, b3, b2, b1, b0]) :
    (m < be32 b3 b2 b1 b0 → exec c s = .next { s with cabinet := s.replied r rest .badArg [] }) ∧
    (be32 b3 b2 b1 b0 ≤ m →
      exec c s = .next { f (be32 b3 b2 b1 b0) (s.taken rest) with cabinet := s.replied r rest .ok [] }) := by
  have hm : isItem n r = true := isItem_args hcode ha hi
  have hnames : r.names = none := names_item hcode ha (by omega)
  have hserve : serveItem w r (s.taken rest) = w (be32 b3 b2 b1 b0) (s.taken rest) := serveItem_args ha (by omega)
  rw [hw] at hserve
  exact ⟨fun hout => exec_refused_unnamed hc ho hm hnames (hserve.trans (if_pos hout)), fun hin =>
    exec_done_unnamed hc ho hm hnames (hserve.trans (if_neg (Nat.not_lt.mpr hin))) (hf _ _)⟩

theorem cabinet_grantAttempt (s : State) : (grantAttempt s).cabinet = s.cabinet := cabinet_of_around (around_grantAttempt s)

theorem cabinet_setBudget (n : Nat) (s : State) : (setBudget n s).cabinet = s.cabinet :=
  cabinet_of_around (around_setBudget n s)

/-! ### The heat wait limit (R127, R128) -/

/-- An entry judged against a limit. -/
def HeatEntry.judged (limit : Nat) (now : Clock) (e : HeatEntry) : HeatEntry :=
  if e.waited limit now then { e with reported := true } else e

/-- The report of an entry that has waited. -/
def HeatEntry.waitEvent (now : Clock) (e : HeatEntry) : Event := ⟨.allocator, .heatWait, e.drum, now, some (byte e.wanted)⟩

/-- The state with the first entries of the queue judged and those that have waited reported, and the others as they stand. -/
def waitsJudged (done todo : List HeatEntry) (s : State) : State :=
  { s with
    heat := { s.heat with queue := done.map (HeatEntry.judged s.heat.waitLimit s.clock) ++ todo }
    flight :=
      { s.flight with
        events :=
          s.flight.events ++
            (done.filter fun e => e.waited s.heat.waitLimit s.clock).map (HeatEntry.waitEvent s.clock) } }

theorem drum_judged (limit : Nat) (now : Clock) (e : HeatEntry) : (e.judged limit now).drum = e.drum := by
  unfold HeatEntry.judged
  split <;> rfl

theorem judgeWait_waitsJudged {done todo : List HeatEntry} {e : HeatEntry} (hn : ((done ++ e :: todo).map (·.drum)).Nodup) :
    judgeWait e.drum (waitsJudged done (e :: todo) s) = waitsJudged (done ++ [e]) todo s := by
  have hone : HeatQueueSound (waitsJudged done (e :: todo) s) := by
    unfold HeatQueueSound waitsJudged
    dsimp only
    rw [List.map_append, map_drum_map (drum_judged _ _), ← List.map_append]
    exact hn
  rw [judgeWait_entry rfl hone]
  cases hw : e.waited s.heat.waitLimit s.clock with
  | true =>
    simp [waitsJudged, waitReported, raise, State.onFlight, State.onHeat, HeatEntry.judged, HeatEntry.waitEvent, hw]
  | false => simp [waitsJudged, HeatEntry.judged, hw]

theorem judgeWaits_waitsJudged {done todo : List HeatEntry} (hn : ((done ++ todo).map (·.drum)).Nodup) :
    (todo.map (·.drum)).foldl (fun s d => judgeWait d s) (waitsJudged done todo s) = waitsJudged (done ++ todo) [] s := by
  induction todo generalizing done with
  | nil => rw [List.append_nil]; rfl
  | cons e todo ih =>
    have hsplit : done ++ e :: todo = done ++ [e] ++ todo := List.append_cons done e todo
    rw [List.map_cons, List.foldl_cons, judgeWait_waitsJudged hn, ih (hsplit ▸ hn), hsplit]

/-- A new wait limit judges every entry at once, in queue order. -/
theorem setWaitLimit_eq (hne : n ≠ s.heat.waitLimit) (hq : HeatQueueSound s) :
    setWaitLimit n s = waitsJudged s.heat.queue [] (s.onHeat fun h => { h with waitLimit := n }) := by
  have hstart : waitsJudged [] s.heat.queue (s.onHeat fun h => { h with waitLimit := n }) =
      s.onHeat fun h => { h with waitLimit := n } := by
    simp [waitsJudged, State.onHeat]
  have h := judgeWaits_waitsJudged (s := s.onHeat fun h => { h with waitLimit := n }) (done := []) hq
  rw [hstart] at h
  rw [setWaitLimit, if_neg hne]
  exact h

theorem setWaitLimit_same (heq : n = s.heat.waitLimit) : setWaitLimit n s = s := if_pos heq

/-! ### The heat budget (R129 to R132) -/

/-- Each revocation step is reported with the drum and its new stage. -/
theorem events_of_revocations (h : Revocations b s taken t) (hh : HeatHeld barred s) :
    t.flight.events =
      s.flight.events ++ taken.map fun p => ⟨.allocator, .heatRevoked, p.1, s.clock, some (byte p.2)⟩ := by
  induction h with
  | stop _ => rw [List.map_nil, List.append_nil]
  | @step s t d taken _ htail _ ih =>
    have hpos : 0 < (s.share d).granted := (hh.ledger.holders d).mp (List.mem_of_getLast? htail)
    have hg : (s.share d).granted = (s.share d).granted - 1 + 1 := by omega
    have hclock : (revokeStep d s).clock = s.clock := congrArg Prod.fst (around_revokeStep d s)
    rw [ih (heatHeld_revokeStep hh hg), events_revokeStep hg, hclock, List.append_assoc]
    rfl

theorem taken_eq_nil_iff (h : Revocations b s taken t) : taken = [] ↔ s.heat.heldSum ≤ b := by
  cases h with
  | stop hle => exact iff_of_true rfl hle
  | step hgt => exact iff_of_false (List.cons_ne_nil _ _) (Nat.not_le.mpr hgt)

/-- The grant attempt under the new budget tells burners alone. -/
theorem events_setBudget (n : Nat) (s : State) : (setBudget n s).flight.events = (revokeTo n 8 s).flight.events := by
  have htold := onlyTold_grantRounds (grantAttempt_spec ((revokeTo n 8 s).onHeat fun h => { h with budget := n }))
  have h := congrArg Prod.fst htold.handed
  exact h

/-- A budget written to a sound allocation: the revocation steps and the grant attempt after them. -/
theorem setBudget_sound (hs : HeatSound s) (n : Nat) :
    (setBudget n s).heat.heldSum ≤ n ∧
      ∃ taken, Revocations n s taken (revokeTo n 8 s) ∧ (revokeTo n 8 s).heat.budget = s.heat.budget ∧
        (revokeTo n 8 s).heat.heldSum ≤ n ∧
        (setBudget n s).flight.events =
          s.flight.events ++ taken.map (fun p => ⟨.allocator, .heatRevoked, p.1, s.clock, some (byte p.2)⟩) ∧
        (taken = [] ↔ s.heat.heldSum ≤ n) := by
  obtain ⟨barred, hh⟩ := heatSound_iff.mp hs
  obtain ⟨taken, hrevoked, -, hle⟩ := revocations_revokeTo (b := n) hh (stages_le hh.ledger)
  have hbudget : (setBudget n s).heat.budget = n := congrArg Settings.budget (settings_setBudget n s)
  have hkept : (revokeTo n 8 s).heat.budget = s.heat.budget := congrArg Settings.budget (settings_revokeTo n 8 s)
  have hwithin := (heatHeld_setBudget hh n).ledger.budget
  rw [hbudget] at hwithin
  exact ⟨hwithin, taken, hrevoked, hkept, hle, (events_setBudget n s).trans (events_of_revocations hrevoked hh),
    taken_eq_nil_iff hrevoked⟩

/-! ### The three requests -/

section
variable {b3 b2 b1 b0 : Byte} (ho : s.offers r rest) (hcode : r.code = 1)
include ho hcode

theorem exec_configWriteBypassLimit (ha : r.args = [2, b3, b2, b1, b0]) :
    (7 < be32 b3 b2 b1 b0 →
      exec .configWriteBypassLimit s = .next { s with cabinet := s.replied r rest .badArg [] }) ∧
    (be32 b3 b2 b1 b0 ≤ 7 →
      exec .configWriteBypassLimit s =
        .next
          { grantAttempt ((s.taken rest).onHeat fun h => { h with bypassLimit := be32 b3 b2 b1 b0 }) with
            cabinet := s.replied r rest .ok [] }) :=
  exec_writeSetting (f := fun v u => grantAttempt (u.onHeat fun h => { h with bypassLimit := v })) rfl rfl (by decide)
    (fun _ _ => rfl) (fun v u => cabinet_grantAttempt (u.onHeat fun h => { h with bypassLimit := v })) ho hcode ha

theorem exec_configWriteHeatWaitLimit (ha : r.args = [3, b3, b2, b1, b0]) :
    (600 < be32 b3 b2 b1 b0 →
      exec .configWriteHeatWaitLimit s = .next { s with cabinet := s.replied r rest .badArg [] }) ∧
    (be32 b3 b2 b1 b0 ≤ 600 →
      exec .configWriteHeatWaitLimit s =
        .next { setWaitLimit (be32 b3 b2 b1 b0) (s.taken rest) with cabinet := s.replied r rest .ok [] }) :=
  exec_writeSetting (f := setWaitLimit) rfl rfl (by decide) (fun _ _ => rfl) cabinet_setWaitLimit ho hcode ha

theorem exec_configWriteHeatBudget (ha : r.args = [1, b3, b2, b1, b0]) :
    (255 < be32 b3 b2 b1 b0 →
      exec .configWriteHeatBudget s = .next { s with cabinet := s.replied r rest .badArg [] }) ∧
    (be32 b3 b2 b1 b0 ≤ 255 →
      exec .configWriteHeatBudget s =
        .next { setBudget (be32 b3 b2 b1 b0) (s.taken rest) with cabinet := s.replied r rest .ok [] }) :=
  exec_writeSetting (f := setBudget) rfl rfl (by decide) (fun _ _ => rfl) cabinet_setBudget ho hcode ha

end

end

/-- Settles O13: the three writes by their owners, the wait limit entry by entry, and the budget by revocation steps that take one
stage each of the at most eight held. -/
theorem heatSettingsAreWritten : Obligations.HeatSettingsAreWritten := by
  refine ⟨grantRoundsByRule, grantsByRule, revocationStepsByRule, fun s r rest b3 b2 b1 b0 ho hcode ha => ?_,
    fun s r rest b3 b2 b1 b0 ho hcode ha => ?_, fun s r rest b3 b2 b1 b0 ho hcode ha => ?_⟩
  · obtain ⟨hrefused, hdone⟩ := exec_configWriteBypassLimit ho hcode ha
    have hrounds := grantAttempt_spec ((s.taken rest).onHeat fun h => { h with bypassLimit := be32 b3 b2 b1 b0 })
    have hsettings := settings_grantAttempt ((s.taken rest).onHeat fun h => { h with bypassLimit := be32 b3 b2 b1 b0 })
    exact ⟨fun hin => ⟨_, hdone hin, hrounds, congrArg Settings.bypassLimit hsettings, congrArg Settings.budget hsettings,
      congrArg Settings.waitLimit hsettings, congrArg Prod.fst (onlyTold_grantRounds hrounds).handed⟩, hrefused⟩
  · obtain ⟨hrefused, hdone⟩ := exec_configWriteHeatWaitLimit ho hcode ha
    refine ⟨hrefused, fun hin hsame => ?_, fun hin hne hq => ?_⟩ <;> rw [hdone hin]
    · rw [setWaitLimit_same (s := s.taken rest) hsame]; rfl
    · rw [setWaitLimit_eq (s := s.taken rest) hne hq]
      simp [waitsJudged, HeatEntry.judged, HeatEntry.waitEvent, State.taken, State.onHeat, State.onCabinet]
  · obtain ⟨hrefused, hdone⟩ := exec_configWriteHeatBudget ho hcode ha
    have hsettings := settings_setBudget (be32 b3 b2 b1 b0) (s.taken rest)
    have hrounds := grantAttempt_spec
      ((revokeTo (be32 b3 b2 b1 b0) 8 (s.taken rest)).onHeat fun h => { h with budget := be32 b3 b2 b1 b0 })
    refine ⟨hrefused, fun hin => ⟨_, hdone hin, congrArg Settings.budget hsettings, grantRound_of_grantRounds hrounds,
      congrArg Settings.bypassLimit hsettings, congrArg Settings.waitLimit hsettings, fun hs => ?_⟩⟩
    obtain ⟨hwithin, taken, hrevoked, hkept, hle, hevents, hnil⟩ := setBudget_sound (s := s.taken rest) hs (be32 b3 b2 b1 b0)
    exact ⟨hwithin, _, taken, hrevoked, hkept, hle, hrounds, hevents, hnil⟩

end Sys2Proof.Machine
end
